-- ==== Sys2Proof/Word.lean ====
section
/-! DEFINITION. The words of the EB16: bytes, uptime stamps, bay numbers and banks of one entry per bay. -/

namespace Sys2Proof

/-- A byte of a frame, a reply or a port register (R175, R176). -/
abbrev Byte := BitVec 8

/-- A value of the 32-bit uptime counter (R146). -/
abbrev Stamp := BitVec 32

/-- A bay number, 0 to 15. -/
abbrev BayNo := Fin 16

/-- One entry for each of the sixteen bays. -/
abbrev Bank (α : Type) := Vector α 16

/-- The bay numbers in ascending order. -/
def allBays : List BayNo := [0, 1, 2, 3, 4, 5, 6, 7, 8, 9, 10, 11, 12, 13, 14, 15]

end Sys2Proof
end

