-- ==== Sys2Proof/Config.lean ====
section
/-! DEFINITION. What an implementation fixes. The EB16's manual leaves no value to the implementation and names no
undefined result, so there is no free value here: only two bounds of the Units and Number Conventions (00_scope.md). -/

namespace Sys2Proof.Config

/-- Energy quantities are unsigned 24-bit values and saturate here (00_scope.md, Energy). -/
abbrev energyMax : Nat := 16777215

/-- Seconds of a day (00_scope.md, Time of day). -/
abbrev daySeconds : Nat := 86400

end Sys2Proof.Config
end

