-- ==== Sys2Proof/Syntax.lean ====
section
/-! DEFINITION. The commands of the EB16: one constructor for each row of spec/opcode_table.json. Operands stand at
the width the frame carries them in (10_frame_and_record_formats.md, R177). -/

namespace Sys2Proof

/-- The two master ports (R158). -/
inductive Port where
  | grid
  | fleet
  deriving DecidableEq, Repr

/-- The operations and events of the part, in the table's order. -/
inductive Instr where
  /-- Power is applied or the RESET pin is held low (R173). -/
  | powerOnReset
  /-- One second of the timebase (R146). -/
  | timebaseSecond
  /-- The isolation interval of a bay has reached 900 s (R31). -/
  | checkDue (b : BayNo)
  /-- The isolation interval of a bay in TRANSFER has reached 1800 s (R33). -/
  | deferralLimit (b : BayNo)
  /-- A HELD request's countdown has reached its lead (R72). -/
  | activation
  /-- The ACTIVE request's remaining window has reached 0 (R73). -/
  | windowEnd
  /-- The step of a bay's order in this second (R96). -/
  | orderStep (b : BayNo)
  /-- The Request Queue takes an order-end notice (R74). -/
  | orderEndNotice
  /-- The Request Queue takes a change notice (R81). -/
  | changeNotice
  /-- The cut timer of a bay's order expires (R105). -/
  | cutTimerExpiry (b : BayNo)
  /-- The binding timer of a bay expires (R26). -/
  | bindingTimerExpiry (b : BayNo)
  /-- The settle timer of a bay expires (R27). -/
  | settleExpiry (b : BayNo)
  /-- The cooldown timer of a bay expires (R30). -/
  | cooldownExpiry (b : BayNo)
  /-- The check timer of a bay expires (R34). -/
  | checkTimerExpiry (b : BayNo)
  /-- The release timer of a bay expires (R30). -/
  | releaseTimerExpiry (b : BayNo)
  /-- The fault hold of a bay expires (R121). -/
  | holdExpiry (b : BayNo)
  /-- A bay's poll-class timer has reached its period (R135). -/
  | pollClassPeriod (b : BayNo)
  /-- The line is free and the head of the poll queue is polled (R134). -/
  | pollStart
  /-- The fourteenth byte of a reply; `framingError` when a byte's stop bit was not found (R137, R138). -/
  | replyReceived (bytes : List Byte) (framingError : Bool)
  /-- 1 ms without the start bit of a reply (R137). -/
  | replyStartTimeout
  /-- 1.5 ms with a reply begun and fewer than fourteen bytes `received` (R137). -/
  | replyIncompleteTimeout (received : List Byte)
  /-- Bytes on BL_RX outside an exchange (R142). -/
  | lineNoise (bytes : List Byte)
  /-- CS of a port falls (R159). -/
  | transactionStart (p : Port)
  /-- CS of a port rises after `mosi` complete bytes and `bits` clocks of one more (R160). -/
  | frameEnd (p : Port) (mosi : List Byte) (bits : Nat)
  /-- The port completes its command in progress (R165). -/
  | commandCompletion (p : Port)
  | nop (p : Port)
  | readEvents (p : Port)
  | setEventMask (p : Port) (mask : BitVec 8)
  | ackReset (p : Port)
  | trip (p : Port)
  | readClock (p : Port)
  | readSite (p : Port)
  | readDevice (p : Port)
  | readProfile (p : Port) (index : BitVec 8)
  | readRequest (p : Port) (id : BitVec 8)
  | readResult (p : Port)
  | readVehicle (p : Port) (number : BitVec 16)
  | readBay (p : Port) (bay : BitVec 8)
  | setClock (second : BitVec 24)
  | loadProfile (index : BitVec 8) (ps lead : BitVec 16) (bands : List (BitVec 16 × BitVec 16))
  | submitRequest (id : BitVec 8) (start : BitVec 24) (length power : BitVec 16) (profile release : BitVec 8)
  | retarget (id : BitVec 8) (power : BitVec 16)
  | curtail (id : BitVec 8)
  | cancel (id : BitVec 8)
  | setSite (limit eta guard hold : BitVec 16) (tcz tcf thf thz tmax : BitVec 8)
  | setFaultPolicy (linkLost precharge tracking overTemp bayReported detect : BitVec 8)
  | enrollVehicle (number : BitVec 16) (capacity floor : BitVec 24) (pChg pDis : BitVec 16) (consent : BitVec 8)
  | setDeparture (number : BitVec 16) (form : BitVec 8) (minute : BitVec 16) (qDep : BitVec 24)
  | withdrawVehicle (number : BitVec 16)
  | readRoster (start count : BitVec 8)
  | setBay (bay : BitVec 8) (cap : BitVec 16)
  | releaseBay (bay : BitVec 8)
  | takeBayOut (bay : BitVec 8)
  | restoreBay (bay : BitVec 8)
  | start
  | resume
  | resetDevice
  /-- The end of a poll's last stop bit (R129). -/
  | pollEnd
  deriving DecidableEq, Repr

end Sys2Proof
end

