-- ==== Sys2Proof/WellFormed.lean ====
section
/-! DEFINITION. Which commands the interfaces can carry at all. Ranges of values are no part of it: a value out of
range is a command, and the part refuses it with a result code. -/

namespace Sys2Proof

/-- A REPLY_RECEIVED holds fourteen bytes, a reply cut short holds one to thirteen, CS rises inside a byte after at
most seven clocks, and a LOAD PROFILE fits the 64 bytes of the frame buffer (R137, R160, R177). -/
def Instr.wellFormed : Instr → Bool
  | .replyReceived bytes _ => bytes.length == 14
  | .replyIncompleteTimeout received => 1 ≤ received.length && received.length ≤ 13
  | .frameEnd _ _ bits => bits < 8
  | .loadProfile _ _ _ bands => bands.length ≤ 14
  | _ => true

end Sys2Proof
end

