-- ==== Sys2Proof/Decode.lean ====
section
/-! DEFINITION. Field encodings (R175), command frames (R177) with the port's own checks (R163, R164), an encoder of
command frames, and the host's reading of table words. -/

namespace Sys2Proof

/-- The result codes (R175). -/
inductive ResultCode where
  | unknownCommand
  | length
  | notPermitted
  | notRunning
  | notConfigured
  | clockUnset
  | range
  | profileInvalid
  | profileInUse
  | profileEmpty
  | queueFull
  | duplicateId
  | overlap
  | horizon
  | noSuchRequest
  | requestActive
  | requestNotActive
  | rosterFull
  | noSuchVehicle
  | badBay
  | bayState
  deriving DecidableEq, Repr

/-- The code byte of a result other than OK, which is 0 (R175). -/
def ResultCode.code : ResultCode → Byte
  | .unknownCommand => 1
  | .length => 2
  | .notPermitted => 3
  | .notRunning => 4
  | .notConfigured => 5
  | .clockUnset => 6
  | .range => 7
  | .profileInvalid => 8
  | .profileInUse => 9
  | .profileEmpty => 10
  | .queueFull => 11
  | .duplicateId => 12
  | .overlap => 13
  | .horizon => 14
  | .noSuchRequest => 15
  | .requestActive => 16
  | .requestNotActive => 17
  | .rosterFull => 18
  | .noSuchVehicle => 19
  | .badBay => 20
  | .bayState => 21

/-! ### Fields, lower byte first (R175) -/

/-- The byte at an offset of a frame. -/
def byteAt (f : List Byte) (i : Nat) : Byte := f.getD i 0

/-- The two-byte field at an offset. -/
def wordAt (f : List Byte) (i : Nat) : BitVec 16 :=
  BitVec.ofNat 16 ((byteAt f i).toNat + 256 * (byteAt f (i + 1)).toNat)

/-- The three-byte field at an offset. -/
def tripleAt (f : List Byte) (i : Nat) : BitVec 24 :=
  BitVec.ofNat 24 ((byteAt f i).toNat + 256 * (byteAt f (i + 1)).toNat + 65536 * (byteAt f (i + 2)).toNat)

/-- A number as one byte. -/
def le1 (n : Nat) : List Byte := [BitVec.ofNat 8 n]

/-- A number as two bytes. -/
def le2 (n : Nat) : List Byte := [BitVec.ofNat 8 n, BitVec.ofNat 8 (n / 256)]

/-- A number as three bytes. -/
def le3 (n : Nat) : List Byte := [BitVec.ofNat 8 n, BitVec.ofNat 8 (n / 256), BitVec.ofNat 8 (n / 65536)]

/-- A number as four bytes. -/
def le4 (n : Nat) : List Byte :=
  [BitVec.ofNat 8 n, BitVec.ofNat 8 (n / 256), BitVec.ofNat 8 (n / 65536), BitVec.ofNat 8 (n / 16777216)]

/-- The band entries from an offset on, `n` of them (R177). -/
def bandsAt (f : List Byte) (i : Nat) : Nat → List (BitVec 16 × BitVec 16)
  | 0 => []
  | n + 1 => (wordAt f i, wordAt f (i + 2)) :: bandsAt f (i + 4) n

/-! ### Command frames (R163, R164, R177) -/

/-- The length a frame must have by its command code; none for a code of no command (R177). -/
def expectedLength (f : List Byte) : Option Nat :=
  match (byteAt f 0).toNat with
  | 0x00 | 0x01 | 0x03 | 0x04 | 0x08 | 0x09 | 0x0A | 0x0D | 0x2A | 0x2B | 0x2C => some 1
  | 0x02 | 0x0B | 0x0C | 0x0F | 0x14 | 0x15 | 0x27 | 0x28 | 0x29 => some 2
  | 0x0E | 0x24 | 0x25 => some 3
  | 0x10 | 0x13 | 0x26 => some 4
  | 0x11 => some (7 + 4 * (byteAt f 6).toNat)
  | 0x12 => some 11
  | 0x20 | 0x22 => some 14
  | 0x21 => some 7
  | 0x23 => some 9
  | _ => none

/-- Whether a command code is permitted on a port (R164). -/
def permitted (p : Port) (code : Byte) : Bool :=
  let n := code.toNat
  match p with
  | .grid => n < 0x20
  | .fleet => n < 0x10 || 0x20 ≤ n

/-- The command a frame of its expected length spells (R177); a command of both ports carries the port. -/
def parseFrame (p : Port) (f : List Byte) : Option Instr :=
  match (byteAt f 0).toNat with
  | 0x00 => some (.nop p)
  | 0x01 => some (.readEvents p)
  | 0x02 => some (.setEventMask p (byteAt f 1))
  | 0x03 => some (.ackReset p)
  | 0x04 => some (.trip p)
  | 0x08 => some (.readClock p)
  | 0x09 => some (.readSite p)
  | 0x0A => some (.readDevice p)
  | 0x0B => some (.readProfile p (byteAt f 1))
  | 0x0C => some (.readRequest p (byteAt f 1))
  | 0x0D => some (.readResult p)
  | 0x0E => some (.readVehicle p (wordAt f 1))
  | 0x0F => some (.readBay p (byteAt f 1))
  | 0x10 => some (.setClock (tripleAt f 1))
  | 0x11 => some (.loadProfile (byteAt f 1) (wordAt f 2) (wordAt f 4) (bandsAt f 7 (byteAt f 6).toNat))
  | 0x12 => some (.submitRequest (byteAt f 1) (tripleAt f 2) (wordAt f 5) (wordAt f 7) (byteAt f 9) (byteAt f 10))
  | 0x13 => some (.retarget (byteAt f 1) (wordAt f 2))
  | 0x14 => some (.curtail (byteAt f 1))
  | 0x15 => some (.cancel (byteAt f 1))
  | 0x20 => some (.setSite (wordAt f 1) (wordAt f 3) (wordAt f 5) (wordAt f 7) (byteAt f 9) (byteAt f 10)
      (byteAt f 11) (byteAt f 12) (byteAt f 13))
  | 0x21 => some (.setFaultPolicy (byteAt f 1) (byteAt f 2) (byteAt f 3) (byteAt f 4) (byteAt f 5) (byteAt f 6))
  | 0x22 => some (.enrollVehicle (wordAt f 1) (tripleAt f 3) (tripleAt f 6) (wordAt f 9) (wordAt f 11) (byteAt f 13))
  | 0x23 => some (.setDeparture (wordAt f 1) (byteAt f 3) (wordAt f 4) (tripleAt f 6))
  | 0x24 => some (.withdrawVehicle (wordAt f 1))
  | 0x25 => some (.readRoster (byteAt f 1) (byteAt f 2))
  | 0x26 => some (.setBay (byteAt f 1) (wordAt f 2))
  | 0x27 => some (.releaseBay (byteAt f 1))
  | 0x28 => some (.takeBayOut (byteAt f 1))
  | 0x29 => some (.restoreBay (byteAt f 1))
  | 0x2A => some .start
  | 0x2B => some .resume
  | 0x2C => some .resetDevice
  | _ => none

/-- The port's checks of a frame of at least one byte, in the order of R163: overflow, command code, length,
permission. -/
def decodeFrame (p : Port) (f : List Byte) (overflow : Bool) : Except ResultCode Instr :=
  if overflow then .error .length
  else match expectedLength f, parseFrame p f with
    | some n, some c =>
      if f.length ≠ n then .error .length
      else if !permitted p (byteAt f 0) then .error .notPermitted
      else .ok c
    | _, _ => .error .unknownCommand

/-- The bytes of band entries (R177). -/
def bandBytes : List (BitVec 16 × BitVec 16) → List Byte
  | [] => []
  | (bound, step) :: rest => le2 bound.toNat ++ le2 step.toNat ++ bandBytes rest

/-- The command frame of a command (R177); none for an event that no frame carries. -/
def encodeFrame : Instr → Option (List Byte)
  | .nop _ => some [0x00]
  | .readEvents _ => some [0x01]
  | .setEventMask _ mask => some [0x02, mask]
  | .ackReset _ => some [0x03]
  | .trip _ => some [0x04]
  | .readClock _ => some [0x08]
  | .readSite _ => some [0x09]
  | .readDevice _ => some [0x0A]
  | .readProfile _ index => some [0x0B, index]
  | .readRequest _ id => some [0x0C, id]
  | .readResult _ => some [0x0D]
  | .readVehicle _ number => some ([0x0E] ++ le2 number.toNat)
  | .readBay _ bay => some [0x0F, bay]
  | .setClock second => some ([0x10] ++ le3 second.toNat)
  | .loadProfile index ps lead bands =>
    some ([0x11, index] ++ le2 ps.toNat ++ le2 lead.toNat ++ le1 bands.length ++ bandBytes bands)
  | .submitRequest id start length power profile release =>
    some ([0x12, id] ++ le3 start.toNat ++ le2 length.toNat ++ le2 power.toNat ++ [profile, release])
  | .retarget id power => some ([0x13, id] ++ le2 power.toNat)
  | .curtail id => some [0x14, id]
  | .cancel id => some [0x15, id]
  | .setSite limit eta guard hold tcz tcf thf thz tmax =>
    some ([0x20] ++ le2 limit.toNat ++ le2 eta.toNat ++ le2 guard.toNat ++ le2 hold.toNat ++ [tcz, tcf, thf, thz, tmax])
  | .setFaultPolicy linkLost precharge tracking overTemp bayReported detect =>
    some [0x21, linkLost, precharge, tracking, overTemp, bayReported, detect]
  | .enrollVehicle number capacity floor pChg pDis consent =>
    some ([0x22] ++ le2 number.toNat ++ le3 capacity.toNat ++ le3 floor.toNat ++ le2 pChg.toNat ++ le2 pDis.toNat
      ++ [consent])
  | .setDeparture number form minute qDep =>
    some ([0x23] ++ le2 number.toNat ++ [form] ++ le2 minute.toNat ++ le3 qDep.toNat)
  | .withdrawVehicle number => some ([0x24] ++ le2 number.toNat)
  | .readRoster start count => some [0x25, start, count]
  | .setBay bay cap => some ([0x26, bay] ++ le2 cap.toNat)
  | .releaseBay bay => some [0x27, bay]
  | .takeBayOut bay => some [0x28, bay]
  | .restoreBay bay => some [0x29, bay]
  | .start => some [0x2A]
  | .resume => some [0x2B]
  | .resetDevice => some [0x2C]
  | .powerOnReset | .timebaseSecond | .checkDue _ | .deferralLimit _ | .activation | .windowEnd | .orderStep _
  | .orderEndNotice | .changeNotice | .cutTimerExpiry _ | .bindingTimerExpiry _ | .settleExpiry _
  | .cooldownExpiry _ | .checkTimerExpiry _ | .releaseTimerExpiry _ | .holdExpiry _ | .pollClassPeriod _
  | .pollStart | .replyReceived _ _ | .replyStartTimeout | .replyIncompleteTimeout _ | .lineNoise _
  | .transactionStart _ | .frameEnd _ _ _ | .commandCompletion _ | .pollEnd => none

/-- The port on which a command is in progress when its block carries it out: its operand, or the only port that
permits it (R164). Events that no port carries have none. -/
def Instr.port? : Instr → Option Port
  | .nop p | .readEvents p | .setEventMask p _ | .ackReset p | .trip p | .readClock p | .readSite p | .readDevice p
  | .readProfile p _ | .readRequest p _ | .readResult p | .readVehicle p _ | .readBay p _ => some p
  | .setClock _ | .loadProfile _ _ _ _ | .submitRequest _ _ _ _ _ _ | .retarget _ _ | .curtail _ | .cancel _ => some .grid
  | .setSite _ _ _ _ _ _ _ _ _ | .setFaultPolicy _ _ _ _ _ _ | .enrollVehicle _ _ _ _ _ _ | .setDeparture _ _ _ _
  | .withdrawVehicle _ | .readRoster _ _ | .setBay _ _ | .releaseBay _ | .takeBayOut _ | .restoreBay _
  | .start | .resume | .resetDevice => some .fleet
  | .powerOnReset | .timebaseSecond | .checkDue _ | .deferralLimit _ | .activation | .windowEnd | .orderStep _
  | .orderEndNotice | .changeNotice | .cutTimerExpiry _ | .bindingTimerExpiry _ | .settleExpiry _
  | .cooldownExpiry _ | .checkTimerExpiry _ | .releaseTimerExpiry _ | .holdExpiry _ | .pollClassPeriod _
  | .pollStart | .replyReceived _ _ | .replyStartTimeout | .replyIncompleteTimeout _ | .lineNoise _
  | .transactionStart _ | .frameEnd _ _ _ | .commandCompletion _ | .pollEnd => none

/-- The command that a word spells by the opcode table's bits. The table of this block gives no row any bits, so no
word spells a command. -/
def decodeTableWord (_nbits _w : Nat) : Option Instr := none

end Sys2Proof
end

