-- ==== Sys2Proof/Machine/State.lean ====
section
/-! DEFINITION. The state of the EB16, block by block as the manual divides it, and its value after a power-on reset. -/

namespace Sys2Proof.Machine

/-! ### Vehicle Roster (01_vehicle_roster.md) -/

/-- A departure: a minute of the day and the energy Q_dep required at it (R2). -/
structure Departure where
  minute : Nat
  qDep : Nat
  deriving DecidableEq, Repr

/-- A vehicle record (R2). -/
structure Vehicle where
  number : Nat
  capacity : Nat
  /-- floor energy F -/
  floor : Nat
  /-- charge limit P_chg -/
  pChg : Nat
  /-- discharge limit P_dis -/
  pDis : Nat
  consent : Bool
  departure : Option Departure
  bayLink : Option BayNo
  deriving DecidableEq, Repr

/-! ### Bay Controller (02_bays.md) -/

/-- The states of a bay, in the order of their codes (R18, R175). -/
inductive BayState where
  | empty
  | detected
  | parked
  | binding
  | bound
  | transfer
  | checking
  | releasing
  | cooldown
  | fault
  | outOfService
  deriving DecidableEq, Repr

/-- The check status of a reply (R17, R175). -/
inductive CheckStatus where
  | none
  | running
  | passed
  | failed
  deriving DecidableEq, Repr

/-- The telemetry of a valid reply, as decoded and limited by R139. -/
structure Telemetry where
  plug : Bool
  contactorClosed : Bool
  dcReady : Bool
  check : CheckStatus
  faultCode : Nat
  vehicle : Nat
  /-- measured power, charging negative -/
  power : Int
  /-- stored energy E -/
  energy : Nat
  /-- battery temperature T in half degrees -/
  temp : Int
  deriving DecidableEq, Repr

/-- A bay record (R17). A timer is `none` while stopped and `some n` with n seconds left; `some 0` has expired and
its expiry has not been taken. -/
structure BayRecord where
  state : BayState
  link : Option Nat
  candidate : Option Nat
  tele : Telemetry
  ratedCap : Nat
  tempCap : Nat
  capEff : Nat
  /-- binding, cooldown or check timer, by the state -/
  stateTimer : Option Nat
  settleTimer : Option Nat
  releasePending : Bool
  releaseTimer : Option Nat
  /-- isolation interval -/
  interval : Nat
  checkDue : Bool
  bindTime : Stamp
  guardArmed : Bool
  deriving DecidableEq, Repr

/-! ### Fault Monitor (06_bay_faults_and_service_history.md) -/

/-- The seven fault kinds, in the order of their codes (R112, R175). -/
inductive FaultKind where
  | linkLost
  | prechargeTimeout
  | tracking
  | overTemp
  | isolation
  | bayReported
  | releaseTimeout
  deriving DecidableEq, Repr

/-- The status of a fault record (R112). -/
inductive RecordStatus where
  | none
  | opened
  | closed
  deriving DecidableEq, Repr

/-- A fault record (R112, R118). -/
structure FaultRecord where
  status : RecordStatus
  first : Option FaultKind
  later : List FaultKind
  entry : Stamp
  exit : Stamp
  deriving DecidableEq, Repr

/-- A bay's fault set (R112). -/
structure FaultSet where
  record : FaultRecord
  history : List Stamp
  hold : Option Nat
  tracking : Nat
  releaseTimedOut : Bool
  deriving DecidableEq, Repr

/-- The fault policy: five counts flags and the detect flag of TRACKING (R112, R126). -/
structure FaultPolicy where
  linkLost : Bool
  precharge : Bool
  tracking : Bool
  overTemp : Bool
  bayReported : Bool
  detectTracking : Bool
  deriving DecidableEq, Repr

/-! ### Order Engine (05_ramp_profiles_and_power_orders.md) -/

/-- A band of a ramp profile (R88). -/
structure Band where
  bound : Nat
  step : Nat
  deriving DecidableEq, Repr

/-- A loaded profile entry (R88). -/
structure Profile where
  /-- floor level Ps -/
  ps : Nat
  lead : Nat
  bands : List Band
  deriving DecidableEq, Repr

/-- The phases of an order (R93). -/
inductive Phase where
  | waitBind
  | rise
  | hold
  | lower
  | decline
  deriving DecidableEq, Repr

/-- The end causes of orders (R104, R107, R108). -/
inductive EndCause where
  | quota
  | windowEnd
  | curtail
  | resplit
  | reserveGuard
  | departureGuard
  | withdrawn
  | isolationDue
  | fault
  | unplug
  | trip
  | bindFailure
  deriving DecidableEq, Repr

/-- An order; its bay is the number of its slot (R93). -/
structure Order where
  request : Nat
  /-- target Pt -/
  target : Nat
  /-- quota Q -/
  quota : Nat
  delivered : Nat
  /-- level L, the last set-point issued -/
  level : Nat
  phase : Phase
  endCause : Option EndCause
  releaseAtEnd : Bool
  cutTimer : Option Nat
  /-- model's own: this second's step has not been taken (R96) -/
  stepDue : Bool
  deriving DecidableEq, Repr

/-! ### Request Queue (04_dispatch_requests.md) -/

/-- The end causes of requests (R66, R68). -/
inductive RequestCause where
  | window
  | curtail
  | trip
  deriving DecidableEq, Repr

/-- An entry of a participant list (R61, R66). -/
structure Participant where
  bay : BayNo
  target : Nat
  committed : Nat
  deriving DecidableEq, Repr

/-- The state of a request with the fields present only in that state (R66). -/
inductive RequestState where
  | held (countdown : Nat)
  | active (remaining : Nat) (eligible : List BayNo)
  | ending (cause : RequestCause)
  deriving DecidableEq, Repr

/-- A request record (R66). -/
structure Request where
  id : Nat
  state : RequestState
  length : Nat
  /-- requested power -/
  power : Nat
  /-- submitted grant -/
  submitted : Nat
  /-- current grant -/
  current : Nat
  profile : Nat
  releaseOnEnd : Bool
  list : List Participant
  delivered : Nat
  deriving DecidableEq, Repr

/-- The last-result record while present (R68). -/
structure LastResult where
  id : Nat
  cause : RequestCause
  submitted : Nat
  delivered : Nat
  shortfall : Nat
  deriving DecidableEq, Repr

/-- The blocks that hand change notices (R81). -/
inductive NoticeSource where
  | roster
  | bay
  | site
  deriving DecidableEq, Repr

/-- A notice waiting at the Request Queue: a change notice (R81), or an order-end notice (R74) with the mark that the
order end was started by a bay transition that itself hands a bay-change notice. -/
inductive Notice where
  | change (source : NoticeSource)
  | orderEnd (request : Nat) (bay : BayNo) (cause : Option EndCause) (delivered : Nat) (byTransition : Bool)
  deriving DecidableEq, Repr

/-! ### Bay Link Controller (07_bay_link.md) -/

/-- What the Bay Link Controller holds for a bay (R132, R135, R141, R143). -/
structure LineRecord where
  seq : BitVec 4
  miss : Nat
  /-- seconds since the last poll started -/
  classTimer : Nat
  /-- marked for a resync poll -/
  resync : Bool
  /-- model's own: the class period was reached at this second and the join has not been taken (R135) -/
  periodDue : Bool
  deriving DecidableEq, Repr

/-- The exchange in progress (R129, R130, R132). -/
structure Exchange where
  bay : BayNo
  seq : BitVec 4
  /-- the set-point the poll carried -/
  setPoint : Nat
  /-- the poll's bytes on BL_TX -/
  frame : List Byte
  /-- the poll has ended and the part listens on BL_RX -/
  listening : Bool
  deriving DecidableEq, Repr

/-! ### Depot Clock and State Controller (08_depot_clock_and_operating_states.md) -/

/-- The device states, in the order of their codes (R150, R175). -/
inductive DeviceState where
  | config
  | run
  | halted
  deriving DecidableEq, Repr

/-- The site settings (R154). -/
structure Site where
  /-- site export limit -/
  limit : Nat
  /-- charge efficiency η in permille -/
  eta : Nat
  /-- guard time -/
  guard : Nat
  /-- fault hold -/
  hold : Nat
  tcz : Int
  tcf : Int
  thf : Int
  thz : Int
  tmax : Int
  deriving DecidableEq, Repr

/-! ### Master ports (09_master_ports.md) -/

/-- What a transaction shifts out: status byte and reply as they stood when CS fell (R159). -/
structure Snapshot where
  status : Byte
  reply : List Byte
  deriving DecidableEq, Repr

/-- A transaction in progress: its snapshot, and whether its frame is discarded at its end (R159, R174). -/
structure Transaction where
  snapshot : Snapshot
  discard : Bool
  deriving DecidableEq, Repr

/-- How far the port's command has gone (R162, R165, R174). -/
inductive Progress where
  /-- no command in progress -/
  | idle
  /-- handed to its owning block and not yet carried out -/
  | handed (c : Instr)
  /-- carried out, with the reply that waits for the completion -/
  | done (reply : List Byte)
  deriving DecidableEq, Repr

/-- A master port (R158). BUSY and ATN are computed from `progress`, `flags` and `mask`. -/
structure PortState where
  frameBuffer : List Byte
  overflow : Bool
  reply : List Byte
  progress : Progress
  ready : Bool
  err : Bool
  overrun : Bool
  flags : BitVec 8
  mask : BitVec 8
  transaction : Option Transaction
  /-- model's own: the bits the last ended transaction shifted out on MISO, one for each clock, first bit first -/
  miso : List Bool
  deriving DecidableEq, Repr

/-! ### The part -/

/-- The whole part, and the queue of the commands that wait for it. -/
structure State where
  /-- the commands that wait, first in first out -/
  pending : List Instr
  device : DeviceState
  clock : Nat
  clockValid : Bool
  uptime : Stamp
  site : Site
  siteValid : Bool
  roster : List Vehicle
  bays : Bank BayRecord
  faults : Bank FaultSet
  policy : FaultPolicy
  orders : Bank (Option Order)
  profiles : Vector (Option Profile) 8
  queue : List Request
  lastResult : Option LastResult
  /-- notices waiting at the Request Queue, oldest first -/
  notices : List Notice
  lines : Bank LineRecord
  pollQueue : List BayNo
  exchange : Option Exchange
  grid : PortState
  fleet : PortState
  changeSet : BitVec 16
  deriving DecidableEq, Repr

/-- Why the machine stops. The manual gives the part no such reason, so there is none: the fault kinds of R112 are
states of a bay. -/
inductive Fault where
  deriving DecidableEq, Repr

/-- Why a command has no meaning. -/
inductive Refusal where
  /-- Raised by `exec`'s arm of a command that has no meaning yet; safe. Every row has its meaning, so no arm raises
  it. -/
  | notModelled (mnemonic : String)
  deriving DecidableEq, Repr

/-- All-zero telemetry (R44). -/
def Telemetry.zero : Telemetry :=
  ⟨false, false, false, .none, 0, 0, 0, 0, 0⟩

/-- A bay record after a power-on reset (R44). -/
def BayRecord.reset : BayRecord :=
  { state := .empty, link := none, candidate := none, tele := .zero, ratedCap := 0, tempCap := 0, capEff := 0,
    stateTimer := none, settleTimer := none, releasePending := false, releaseTimer := none, interval := 0,
    checkDue := false, bindTime := 0, guardArmed := false }

/-- A fault record of status none, every other field cleared (R118). -/
def FaultRecord.cleared : FaultRecord := ⟨.none, none, [], 0, 0⟩

/-- A fault set after either reset (R128). -/
def FaultSet.reset : FaultSet := ⟨.cleared, [], none, 0, false⟩

/-- The fault policy after a power-on reset (R126). -/
def FaultPolicy.reset : FaultPolicy := ⟨true, true, true, true, true, true⟩

/-- What the Bay Link Controller holds for a bay after either reset (R143). -/
def LineRecord.reset : LineRecord := ⟨0, 0, 0, true, false⟩

/-- The power-on values of the site settings (R154). -/
def Site.reset : Site := ⟨1, 900, 900, 60, -40, 0, 90, 110, 130⟩

/-- A port after a power-on reset, with the flag byte that has RESET alone (R173). -/
def PortState.reset (flags : BitVec 8) : PortState :=
  { frameBuffer := [], overflow := false, reply := [], progress := .idle, ready := false, err := false,
    overrun := false, flags := flags, mask := 0, transaction := none, miso := [] }

/-- The part after a power-on reset (R16, R44, R86, R88, R111, R126, R128, R143, R146, R147, R150, R154, R173), with
no command waiting. -/
def State.reset : State :=
  { pending := []
    device := .config
    clock := 0
    clockValid := false
    uptime := 0
    site := .reset
    siteValid := false
    roster := []
    bays := Vector.replicate 16 .reset
    faults := Vector.replicate 16 .reset
    policy := .reset
    orders := Vector.replicate 16 none
    profiles := Vector.replicate 8 none
    queue := []
    lastResult := none
    notices := []
    lines := Vector.replicate 16 .reset
    pollQueue := allBays
    exchange := none
    grid := .reset 0x10#8
    fleet := .reset 0x40#8
    changeSet := 0 }

end Sys2Proof.Machine
end

