-- ==== Sys2Proof/Machine/Flags.lean ====
section
/-! DEFINITION. Event flags, masks, attention lines, the change set and the status byte (R159, R167, R168, R172, R176). -/

namespace Sys2Proof.Machine

/-- The events of the grid port (R167). -/
inductive GridEvent where
  | requestActive
  | grantReduced
  | requestEnded
  | deviceState
  | reset
  deriving DecidableEq, Repr

/-- The events of the fleet port (R167). -/
inductive FleetEvent where
  | bayChange
  | bayFault
  | outOfService
  | reserveGuard
  | vehicleUnknown
  | deviceState
  | reset
  deriving DecidableEq, Repr

/-- The flag bit of a grid event (R176). -/
def gridBit : GridEvent → BitVec 8
  | .requestActive => 0x01
  | .grantReduced => 0x02
  | .requestEnded => 0x04
  | .deviceState => 0x08
  | .reset => 0x10

/-- The flag bit of a fleet event (R176). -/
def fleetBit : FleetEvent → BitVec 8
  | .bayChange => 0x01
  | .bayFault => 0x02
  | .outOfService => 0x04
  | .reserveGuard => 0x08
  | .vehicleUnknown => 0x10
  | .deviceState => 0x20
  | .reset => 0x40

/-- The RESET flag's bit on a port (R176). -/
def resetBit : Port → BitVec 8
  | .grid => gridBit .reset
  | .fleet => fleetBit .reset

/-- The mask bits that name an event of the port (R171, R176). -/
def eventBits : Port → BitVec 8
  | .grid => 0x1F
  | .fleet => 0x7F

/-- A port of the part. -/
def State.port (s : State) : Port → PortState
  | .grid => s.grid
  | .fleet => s.fleet

/-- The part with one port replaced. -/
def State.setPort (s : State) (p : Port) (x : PortState) : State :=
  match p with
  | .grid => { s with grid := x }
  | .fleet => { s with fleet := x }

/-- Sets an event flag of the grid port (R167). -/
def State.raiseGrid (s : State) (e : GridEvent) : State :=
  { s with grid := { s.grid with flags := s.grid.flags ||| gridBit e } }

/-- Sets an event flag of the fleet port (R167). -/
def State.raiseFleet (s : State) (e : FleetEvent) : State :=
  { s with fleet := { s.fleet with flags := s.fleet.flags ||| fleetBit e } }

/-- Sets DEVICE_STATE on both ports (R150). -/
def State.raiseDeviceState (s : State) : State :=
  (s.raiseGrid .deviceState).raiseFleet .deviceState

/-- Marks a bay in the change set and sets BAY_CHANGE (R168). -/
def State.markBay (s : State) (b : BayNo) : State :=
  { s with changeSet := s.changeSet ||| BitVec.twoPow 16 b.val }.raiseFleet .bayChange

/-- BUSY: a taken command is being carried out (R158). -/
def PortState.busy (x : PortState) : Bool :=
  match x.progress with
  | .idle => false
  | .handed _ => true
  | .done _ => true

/-- The attention line is driven low: an unmasked event flag is set (R172). -/
def PortState.atnLow (x : PortState) : Bool := x.flags &&& x.mask != 0

/-- RESET_SEEN mirrors the port's RESET flag (R170). -/
def State.resetSeen (s : State) (p : Port) : Bool := (s.port p).flags &&& resetBit p != 0

/-- One flag of the status byte at its bit. -/
def flagAt (f : Bool) (bit : Nat) : Byte := if f then BitVec.twoPow 8 bit else 0

/-- The status byte of a port (R159, R176). -/
def State.statusByte (s : State) (p : Port) : Byte :=
  let x := s.port p
  flagAt (s.device = .halted) 7 ||| flagAt (s.device = .run) 6 ||| flagAt (s.resetSeen p) 5 ||| flagAt x.overrun 4
    ||| flagAt x.atnLow 3 ||| flagAt x.err 2 ||| flagAt x.ready 1 ||| flagAt x.busy 0

end Sys2Proof.Machine
end

