-- ==== Sys2Proof/Machine/Ops.lean ====
section
/-! DEFINITION. The named operations over the part's records: banks, bay states, vehicle links, caps, the poll queue,
notices, release. -/

namespace Sys2Proof.Machine

open Config

/-! ### Times and limits -/

/-- Binding timer (R25). -/
def bindingTime : Nat := 20
/-- Settle timer (R26). -/
def settleTime : Nat := 5
/-- Cooldown timer (R30). -/
def cooldownTime : Nat := 20
/-- Check timer (R32). -/
def checkTime : Nat := 15
/-- Release timer (R30). -/
def releaseTime : Nat := 10
/-- Cut timer (R105). -/
def cutTime : Nat := 60
/-- The interval at which an isolation check falls due (R31). -/
def checkInterval : Nat := 900
/-- The deferral limit of an isolation check (R33). -/
def deferralInterval : Nat := 1800
/-- The age above which a history stamp is removed (R124). -/
def historyAge : Nat := 3600

/-- A value saturated at the largest energy (00_scope.md). -/
def saturate (n : Nat) : Nat := min n energyMax

/-- One second of a timer; an expired timer stays expired (R17). -/
def countDown (t : Option Nat) : Option Nat := t.map (· - 1)

/-! ### Banks -/

/-- A bay record. -/
def State.bay (s : State) (b : BayNo) : BayRecord := s.bays[b]
/-- The part with one bay record replaced. -/
def State.setBay (s : State) (b : BayNo) (r : BayRecord) : State := { s with bays := s.bays.set b r }
/-- The part with one bay record changed. -/
def State.modBay (s : State) (b : BayNo) (f : BayRecord → BayRecord) : State := s.setBay b (f (s.bay b))
/-- A bay's fault set. -/
def State.faultSet (s : State) (b : BayNo) : FaultSet := s.faults[b]
/-- The part with one fault set replaced. -/
def State.setFaultSet (s : State) (b : BayNo) (r : FaultSet) : State := { s with faults := s.faults.set b r }
/-- The part with one fault set changed. -/
def State.modFault (s : State) (b : BayNo) (f : FaultSet → FaultSet) : State := s.setFaultSet b (f (s.faultSet b))
/-- The order in a bay's slot. -/
def State.order (s : State) (b : BayNo) : Option Order := s.orders[b]
/-- The part with one order slot replaced. -/
def State.setOrder (s : State) (b : BayNo) (o : Option Order) : State := { s with orders := s.orders.set b o }
/-- What the Bay Link Controller holds for a bay. -/
def State.line (s : State) (b : BayNo) : LineRecord := s.lines[b]
/-- The part with one line record replaced. -/
def State.setLine (s : State) (b : BayNo) (r : LineRecord) : State := { s with lines := s.lines.set b r }

/-- A bank with `f` applied to every entry. -/
def mapBank {α β : Type} (f : α → β) (v : Bank α) : Bank β := Vector.ofFn fun i => f v[i]

/-! ### Vehicles (R1, R2) -/

/-- The record of a vehicle number, if it is enrolled. -/
def State.vehicle? (s : State) (n : Nat) : Option Vehicle := s.roster.find? (fun v => v.number == n)

/-- The part with the record of a vehicle number changed. -/
def State.modVehicle (s : State) (n : Nat) (f : Vehicle → Vehicle) : State :=
  { s with roster := s.roster.map fun v => if v.number == n then f v else v }

/-- The vehicle record a bay is linked to. -/
def State.linkedVehicle? (s : State) (b : BayNo) : Option Vehicle := (s.bay b).link.bind s.vehicle?

/-! ### Set-points (R93, R102) -/

/-- The bay's current export set-point: the level of its order in TRANSFER, 0 in every other case (R18, R93). -/
def State.setPoint (s : State) (b : BayNo) : Nat :=
  if (s.bay b).state = .transfer then
    match s.order b with
    | some o => o.level
    | none => 0
  else 0

/-- The sum of the current set-points of all bays. -/
def State.totalSetPoint (s : State) : Nat := (allBays.map s.setPoint).sum

/-- The site headroom of a bay: the site export limit less the set-points of every other bay (R102). -/
def State.headroom (s : State) (b : BayNo) : Nat :=
  s.site.limit - ((allBays.filter (· != b)).map s.setPoint).sum

/-! ### Caps (R42) -/

/-- The temperature cap of a rated cap at a temperature, by the derating points (R42). -/
def derate (site : Site) (cap : Nat) (t : Int) : Nat :=
  if t ≤ site.tcz then 0
  else if t < site.tcf then cap * (t - site.tcz).toNat / (site.tcf - site.tcz).toNat
  else if t ≤ site.thf then cap
  else if t < site.thz then cap * (site.thz - t).toNat / (site.thz - site.thf).toNat
  else 0

/-- Recomputes the temperature cap and the effective cap of a bay (R42). -/
def State.recomputeCaps (s : State) (b : BayNo) : State :=
  let r := s.bay b
  let temp := if s.siteValid then derate s.site r.ratedCap r.tele.temp else 0
  let eff := match s.linkedVehicle? b with
    | some v => min r.ratedCap (min v.pDis temp)
    | none => 0
  s.setBay b { r with tempCap := temp, capEff := eff }

/-! ### The poll queue (R134) -/

/-- A bay joins the poll queue; one that waits keeps its place (R134). -/
def State.join (s : State) (b : BayNo) : State :=
  if b ∈ s.pollQueue then s else { s with pollQueue := s.pollQueue ++ [b] }

/-! ### Bay states (R18) -/

/-- The union of BOUND, TRANSFER and CHECKING (R18). -/
def BayState.exporting : BayState → Bool
  | .bound | .transfer | .checking => true
  | .empty | .detected | .parked | .binding | .releasing | .cooldown | .fault | .outOfService => false

/-- A bay record in another state; the candidate stands only in DETECTED (R17). -/
def BayRecord.toState (r : BayRecord) (st : BayState) : BayRecord :=
  { r with state := st, candidate := if st = .detected then r.candidate else none }

/-- Leaving TRANSFER returns the tracking count to 0 (R115). -/
def State.leaveState (s : State) (b : BayNo) (left : BayState) : State :=
  if left = .transfer then s.modFault b fun f => { f with tracking := 0 } else s

/-- Takes a bay to a state. A change of state marks the bay in the change set (R18). -/
def State.setBayState (s : State) (b : BayNo) (st : BayState) : State :=
  if (s.bay b).state = st then s
  else ((s.modBay b (·.toState st)).leaveState b (s.bay b).state).markBay b

/-! ### Vehicle links (R3, R12, R21) -/

/-- Sets both halves of a link, lowers the held stored energy to the vehicle's capacity, forms the caps and arms the
guard (R7, R21, R36). -/
def State.linkBay (s : State) (b : BayNo) (v : Vehicle) : State :=
  (((s.modVehicle v.number fun x => { x with bayLink := some b }).modBay b fun r =>
    { r with
      link := some v.number, guardArmed := true,
      tele := { r.tele with energy := min r.tele.energy v.capacity } }).recomputeCaps b).markBay b

/-- Clears both halves of a bay's link, if it holds one: the effective cap becomes 0 and the guard is disarmed (R3,
R36, R42). -/
def State.clearLink (s : State) (b : BayNo) : State :=
  match (s.bay b).link with
  | none => s
  | some n =>
    (((s.modVehicle n fun x => { x with bayLink := none }).modBay b fun r =>
      { r with link := none, guardArmed := false }).recomputeCaps b).markBay b

/-- The link test of an entry into PARKED (R21). -/
def State.testLink (s : State) (b : BayNo) : State :=
  match (s.bay b).link with
  | some _ => s
  | none =>
    match s.vehicle? (s.bay b).tele.vehicle with
    | some v => if v.bayLink = none ∧ v.consent = true then s.linkBay b v else s.raiseFleet .vehicleUnknown
    | none => s.raiseFleet .vehicleUnknown

/-- A bay enters PARKED from DETECTED, COOLDOWN or FAULT: its state timer is stopped and its link is tested (R21). -/
def State.enterParked (s : State) (b : BayNo) : State :=
  ((s.modBay b fun r => { r with stateTimer := none }).setBayState b .parked).testLink b

/-! ### Release (R29, R30) -/

/-- Starts a release pending with its timer; the bay joins the poll queue (R30, R136). -/
def State.startRelease (s : State) (b : BayNo) : State :=
  ((s.modBay b fun r => { r with releasePending := true, releaseTimer := some releaseTime }).modFault b fun f =>
    { f with releaseTimedOut := false }).join b

/-- A release pending is started for a bay that leaves BINDING or export mode (R30). -/
def State.releaseFrom (s : State) (b : BayNo) (left : BayState) : State :=
  if left = .binding ∨ left.exporting = true then s.startRelease b else s

/-- Ends a release pending (R30, R125). -/
def State.endRelease (s : State) (b : BayNo) : State :=
  (s.modBay b fun r => { r with releasePending := false, releaseTimer := none }).modFault b fun f =>
    { f with releaseTimedOut := false }

/-- Stops the binding, check or cooldown timer and the settle timer, and clears check due. -/
def State.stopTimers (s : State) (b : BayNo) : State :=
  s.modBay b fun r => { r with stateTimer := none, settleTimer := none, checkDue := false }

/-- Releases a bay: RELEASING, its timers stopped, a release pending started (R29). -/
def State.release (s : State) (b : BayNo) : State :=
  ((s.stopTimers b).setBayState b .releasing).startRelease b

/-- Starts an isolation check: CHECKING, check due cleared, the check timer started (R32). -/
def State.startCheck (s : State) (b : BayNo) : State :=
  ((s.modBay b fun r => { r with checkDue := false, stateTimer := some checkTime }).setBayState b .checking).join b

/-! ### Requests and notices -/

/-- A queued request. -/
def State.request? (s : State) (id : Nat) : Option Request := s.queue.find? (fun r => r.id == id)

/-- The part with a queued request changed. -/
def State.modRequest (s : State) (id : Nat) (f : Request → Request) : State :=
  { s with queue := s.queue.map fun r => if r.id == id then f r else r }

/-- Whether a request is ACTIVE. -/
def Request.isActive (r : Request) : Bool :=
  match r.state with
  | .active _ _ => true
  | .held _ => false
  | .ending _ => false

/-- Whether a request is HELD. -/
def Request.isHeld (r : Request) : Bool :=
  match r.state with
  | .held _ => true
  | .active _ _ => false
  | .ending _ => false

/-- The ACTIVE request (R65). -/
def State.active? (s : State) : Option Request := s.queue.find? Request.isActive

/-- Hands a notice to the Request Queue, behind those that wait. -/
def State.hand (s : State) (n : Notice) : State := { s with notices := s.notices ++ [n] }

/-- Whether a bay's transitions in one event, from the state before it to the state after it, hand a bay-change notice
(R24): a plug confirmation, an unplug or change of bus, FAULT or OUT_OF_SERVICE entered or left. -/
def handsNotice (before after : BayState) : Bool :=
  before != after &&
    (before == .fault || after == .fault || before == .outOfService || after == .outOfService
      || (before == .detected && after != .empty)
      || ((after == .empty || after == .detected) && before != .empty && before != .detected))

/-- Hands the one bay-change notice of an event that found the bay in the state `before` (R24). -/
def State.handIfChanged (s : State) (b : BayNo) (before : BayState) : State :=
  if handsNotice before (s.bay b).state then s.hand (.change .bay) else s

end Sys2Proof.Machine
end

