-- ==== Sys2Proof/Machine/Profiles.lean ====
section
/-! DEFINITION. Ramp profiles: the step function σ (R89), the decline energy D (R90) and the checks of a loaded entry
(R88, R91). -/

namespace Sys2Proof.Machine

/-- The step function σ: the step size of the first band whose upper bound is above the level, and of the last band
where none is (R89). -/
def Profile.stepSize (p : Profile) (level : Nat) : Nat :=
  match p.bands.find? (fun b => level < b.bound) with
  | some b => b.step
  | none =>
    match p.bands.getLast? with
    | some b => b.step
    | none => 0

/-- The level after `level` in a decline: max(Ps, L − σ(L)) (R90, R101). -/
def Profile.declineLevel (p : Profile) (level : Nat) : Nat := max p.ps (level - p.stepSize level)

/-- The decline energy of a level over at most `fuel` terms (R90). -/
def Profile.declineSum (p : Profile) : Nat → Nat → Nat
  | 0, _ => 0
  | fuel + 1, level =>
    if level ≤ p.ps then 0 else p.declineLevel level + p.declineSum fuel (p.declineLevel level)

/-- The decline energy D(x) of a level x (R90). A decline of a loaded profile has at most x terms. -/
def Profile.declineEnergy (p : Profile) (x : Nat) : Nat := p.declineSum x x

/-- Whether upper bounds strictly increase (R88). -/
def boundsIncrease : List Band → Bool
  | [] => true
  | [_] => true
  | a :: b :: rest => a.bound < b.bound && boundsIncrease (b :: rest)

/-- Whether the fields satisfy the rules of a loaded entry (R88, check 3 of R91). -/
def Profile.valid (p : Profile) : Bool :=
  (10 ≤ p.ps && p.ps ≤ 600) && p.lead ≤ 600 && (1 ≤ p.bands.length && p.bands.length ≤ 8)
    && p.bands.all (fun b => 1 ≤ b.step && b.step ≤ 400 && 1 ≤ b.bound)
    && boundsIncrease p.bands
    && (match p.bands.getLast? with
        | some b => b.bound == 1200
        | none => false)

/-- What a profile index reads as where no profile is loaded. A queued request's profile is always loaded (R66, R88),
so no reachable step reads it. -/
def Profile.unloaded : Profile := ⟨0, 0, []⟩

/-- The profile a request reads through its index (R66, R88). -/
def State.profileAt (s : State) (index : Nat) : Profile :=
  match s.profiles[index]? with
  | some (some p) => p
  | _ => .unloaded

/-- The profile of a request (R66). -/
def State.profileOf (s : State) (id : Nat) : Profile :=
  match s.request? id with
  | some r => s.profileAt r.profile
  | none => .unloaded

/-- Whether a queued request names a profile index (R88). -/
def State.profileInUse (s : State) (index : Nat) : Bool := s.queue.any fun r => r.profile == index

end Sys2Proof.Machine
end

