-- ==== Sys2Proof/Machine/Allocation.lean ====
section
/-! DEFINITION. The Allocation Engine (03_allowance_and_allocation.md): eligibility, reserve need, allowance,
sustainable power and the split. -/

namespace Sys2Proof.Machine

open Config

/-- The inputs in which the four evaluations differ (R46), with the request's profile. -/
structure Terms where
  /-- ID of the request evaluated -/
  request : Nat
  profile : Profile
  /-- power shared, P -/
  power : Nat
  /-- window end t_we -/
  windowEnd : Nat
  /-- span T -/
  span : Nat
  /-- a re-split, with its wider state test (R49) -/
  resplit : Bool
  deriving DecidableEq, Repr

/-- What an evaluation hands back (R62, R72): the eligible bays, the participant list and the grant. -/
structure Allocation where
  eligible : List BayNo
  list : List Participant
  grant : Nat
  deriving DecidableEq, Repr

/-- The time to departure t_dep = (departure minute × 60 − clock) mod 86 400 (R35, R51). -/
def timeToDeparture (minute clock : Nat) : Nat :=
  (((minute : Int) * 60 - (clock : Int)) % (daySeconds : Int)).toNat

/-- The reserve need N of a vehicle for a window end (R53). Where t_dep is below t_we, t_rec is 0 (R106). -/
def reserveNeed (v : Vehicle) (eta clock windowEnd : Nat) : Nat :=
  match v.departure with
  | none => v.floor
  | some d =>
    let recharge := timeToDeparture d.minute clock - windowEnd
    let recoverable := saturate (v.pChg * recharge * eta / 1000)
    max v.floor (d.qDep - recoverable)

/-- The state test of R48 and, at a re-split, of R49. -/
def State.stateTest (s : State) (t : Terms) (b : BayNo) : Bool :=
  match (s.bay b).state, s.order b with
  | .parked, _ => true
  | .bound, none => true
  | .bound, some o | .binding, some o => t.resplit && o.request == t.request && o.phase == .waitBind
  | .transfer, some o =>
    t.resplit && o.request == t.request && (o.phase == .rise || o.phase == .hold || o.phase == .lower)
  | _, _ => false

/-- The departure test of R51. -/
def State.departureTest (s : State) (t : Terms) (v : Vehicle) : Bool :=
  match v.departure with
  | none => true
  | some d => t.windowEnd + s.site.guard ≤ timeToDeparture d.minute s.clock

/-- Eligibility: the state test, the vehicle test of R50 and the departure test (R52). -/
def State.eligible (s : State) (t : Terms) (b : BayNo) : Bool :=
  s.stateTest t b &&
    match s.linkedVehicle? b with
    | none => false
    | some v => v.consent && t.profile.ps ≤ (s.bay b).capEff && s.departureTest t v

/-- The energy a queued request holds from a bay (R56). -/
def State.heldEnergy (s : State) (b : BayNo) (r : Request) : Nat :=
  match r.state with
  | .held _ =>
    match r.list.find? (fun e => e.bay == b) with
    | some e => e.committed
    | none => 0
  | .active _ _ | .ending _ =>
    match s.order b with
    | some o => if o.request == r.id then o.quota - o.delivered else 0
    | none => 0

/-- The commitment C_other of a bay: what the queued requests other than the one evaluated hold from it (R56). -/
def State.otherCommitments (s : State) (id : Nat) (b : BayNo) : Nat :=
  ((s.queue.filter fun r => r.id != id).map (s.heldEnergy b)).sum

/-- The allowance A = E − N − C_other of a bay (R55). -/
def State.allowance (s : State) (t : Terms) (b : BayNo) : Nat :=
  match s.linkedVehicle? b with
  | none => 0
  | some v =>
    (s.bay b).tele.energy - (reserveNeed v s.site.eta s.clock t.windowEnd + s.otherCommitments t.request b)

/-- The sustainable power S = min(cap_eff, floor(A / T)) of a bay (R57). -/
def State.sustainable (s : State) (t : Terms) (b : BayNo) : Nat :=
  min (s.bay b).capEff (s.allowance t b / t.span)

/-- A bay put into a list sorted by sustainable power, largest first, behind those of equal power (R59). -/
def insertRanked (x : BayNo × Nat) : List (BayNo × Nat) → List (BayNo × Nat)
  | [] => [x]
  | y :: rest => if y.2 < x.2 then x :: y :: rest else y :: insertRanked x rest

/-- The bays of an ascending list in split order (R59). -/
def rank (l : List (BayNo × Nat)) : List (BayNo × Nat) := l.foldl (fun acc x => insertRanked x acc) []

/-- The split: each bay in split order takes g = min(S, remaining) unless g is below Ps (R60, R61). -/
def split (ps span : Nat) : Nat → List (BayNo × Nat) → List Participant
  | _, [] => []
  | remaining, (b, power) :: rest =>
    let g := min power remaining
    if g < ps then split ps span remaining rest else ⟨b, g, g * span⟩ :: split ps span (remaining - g) rest

/-- The sum of the targets of a participant list. -/
def targetSum (l : List Participant) : Nat := (l.map (·.target)).sum

/-- An evaluation (R45): eligibility, sustainable power, split order and split of min(P, site export limit) (R58). -/
def State.evaluate (s : State) (t : Terms) : Allocation :=
  let eligible := allBays.filter (s.eligible t)
  let list := split t.profile.ps t.span (min t.power s.site.limit) (rank (eligible.map fun b => (b, s.sustainable t b)))
  ⟨eligible, list, targetSum list⟩

/-- The inputs of an offer (R46). -/
def offerTerms (id : Nat) (p : Profile) (power countdown length : Nat) : Terms :=
  ⟨id, p, power, countdown + length, p.lead + length, false⟩

/-- The inputs of an activation split: the submitted grant over lead + length (R46). -/
def splitTerms (r : Request) (p : Profile) : Terms :=
  ⟨r.id, p, r.submitted, p.lead + r.length, p.lead + r.length, false⟩

/-- The inputs of a review: the current grant over lead + length, to the window end (R46). -/
def reviewTerms (r : Request) (p : Profile) (countdown : Nat) : Terms :=
  ⟨r.id, p, r.current, countdown + r.length, p.lead + r.length, false⟩

/-- The inputs of a re-split sharing a power over the remaining window, taken as 1 if it is 0 (R46, R57). -/
def resplitTerms (r : Request) (p : Profile) (power remaining : Nat) : Terms :=
  ⟨r.id, p, power, remaining, max remaining 1, true⟩

end Sys2Proof.Machine
end

