-- ==== Sys2Proof/Machine/Orders.lean ====
section
/-! DEFINITION. The Order Engine's operations (05_ramp_profiles_and_power_orders.md): the step, the set-point limits,
target changes, decline causes and the ends of orders, with the bay's transition at each. -/

namespace Sys2Proof.Machine

/-! ### The end of an order (R110, R28, R108) -/

/-- Empties a bay's slot and hands the order-end notice; `byTransition` marks an end started by a bay transition that
hands its own bay-change notice (R74). The set-point is 0 from here on (R110). -/
def State.dropOrder (s : State) (b : BayNo) (cause : Option EndCause) (byTransition : Bool) : State :=
  match s.order b with
  | none => s
  | some o => (s.setOrder b none).hand (.orderEnd o.request b cause o.delivered byTransition)

/-- Whether a request has release-on-end set (R28). -/
def State.releaseOnEnd (s : State) (id : Nat) : Bool :=
  match s.request? id with
  | some r => r.releaseOnEnd
  | none => false

/-- The bay leaving TRANSFER at an order end goes to the first state whose condition holds (R28, R104). -/
def State.afterOrderEnd (s : State) (b : BayNo) (o : Order) : State :=
  if (s.bay b).link = none ∨ s.releaseOnEnd o.request = true ∨ o.releaseAtEnd = true then s.release b
  else if o.endCause = some .isolationDue ∨ (s.bay b).checkDue = true then s.startCheck b
  else s.setBayState b .bound

/-- Ends a running order with its end cause as it stands: at the last step of its decline or at a cut (R101, R105,
R110). The bay stays plugged and joins the poll queue (R136). -/
def State.finishOrder (s : State) (b : BayNo) (o : Order) : State :=
  ((s.dropOrder b o.endCause false).join b).afterOrderEnd b o

/-- Ends the order on a bay that stays plugged, whatever its phase, with a cause; the caller takes the bay on (R107,
R108, R136). -/
def State.abortOrder (s : State) (b : BayNo) (cause : EndCause) (byTransition : Bool) : State :=
  match s.order b with
  | none => s
  | some _ => (s.dropOrder b (some cause) byTransition).join b

/-- The bay of a WAIT_BIND order removed for a cause of the Request Queue goes on (R108). -/
def State.afterRemoval (s : State) (b : BayNo) (o : Order) : State :=
  match (s.bay b).state with
  | .binding => s.release b
  | .bound => if (s.bay b).link = none ∨ s.releaseOnEnd o.request = true then s.release b else s
  | _ => s

/-- Removes a WAIT_BIND order for a cause of the Request Queue, and takes its bay on (R108). -/
def State.removeWaitBind (s : State) (b : BayNo) (o : Order) (cause : EndCause) : State :=
  (s.abortOrder b cause false).afterRemoval b o

/-! ### Decline (R104, R105) -/

/-- A cause reaches a running order: DECLINE with the first cause; DEPARTURE_GUARD and WITHDRAWN set release at end,
DEPARTURE_GUARD and ISOLATION_DUE start the cut timer if it is stopped (R104). -/
def Order.declineFor (o : Order) (cause : EndCause) : Order :=
  { o with
    phase := .decline
    endCause := if o.phase = .decline then o.endCause else some cause
    releaseAtEnd := o.releaseAtEnd || cause == .departureGuard || cause == .withdrawn
    cutTimer :=
      if (cause = .departureGuard ∨ cause = .isolationDue) ∧ o.cutTimer = none then some cutTime else o.cutTimer }

/-- A decline cause of the Request Queue reaches an order: DECLINE, or removal from WAIT_BIND (R104, R108). -/
def State.endFor (s : State) (b : BayNo) (o : Order) (cause : EndCause) : State :=
  if o.phase = .waitBind then s.removeWaitBind b o cause
  else s.setOrder b (some (o.declineFor cause))

/-- A decline cause of the Bay Controller reaches the order of a bay in TRANSFER, if it is running (R33, R35, R37,
R12). -/
def State.declineBay (s : State) (b : BayNo) (cause : EndCause) : State :=
  match s.order b with
  | none => s
  | some o => if o.phase = .waitBind then s else s.setOrder b (some (o.declineFor cause))

/-- A release cause reaches a bay, by its state (R29): a WAIT_BIND order is removed and the bay released from BINDING,
BOUND and CHECKING; the order declines in TRANSFER; nothing changes elsewhere. -/
def State.releaseFor (s : State) (b : BayNo) (cause : EndCause) : State :=
  match (s.bay b).state with
  | .binding | .bound | .checking => (s.abortOrder b cause false).release b
  | .transfer => s.declineBay b cause
  | .empty | .detected | .parked | .releasing | .cooldown | .fault | .outOfService => s

/-! ### The step (R96 to R102) -/

/-- What a step chooses by the phase: an end without a set-point, or the next level with the phase and end cause the
order has after it. -/
inductive StepPlan where
  | stop (cause : Option EndCause)
  | issue (level : Nat) (phase : Phase) (cause : Option EndCause)
  deriving DecidableEq, Repr

/-- The quota remaining Q_rem (R98). -/
def Order.remaining (o : Order) : Nat := o.quota - o.delivered

/-- A DECLINE step with an end cause (R101). -/
def Order.planDecline (o : Order) (p : Profile) (cause : Option EndCause) : StepPlan :=
  if o.level ≤ p.ps then .stop cause else .issue (p.declineLevel o.level) .decline cause

/-- The climb level of a RISE step (R98). -/
def Order.climb (o : Order) (p : Profile) : Nat :=
  if p.ps ≤ o.level then min o.target (o.level + p.stepSize o.level) else p.ps

/-- A RISE step with its affordability tests (R98). -/
def Order.planRise (o : Order) (p : Profile) : StepPlan :=
  let up := o.climb p
  if up + p.declineEnergy up ≤ o.remaining then .issue up (if up = o.target then .hold else .rise) o.endCause
  else if p.ps ≤ o.level ∧ o.level + p.declineEnergy o.level ≤ o.remaining then .issue o.level .hold o.endCause
  else o.planDecline p (some .quota)

/-- A HOLD step (R99). -/
def Order.planHold (o : Order) (p : Profile) : StepPlan :=
  if o.level < p.ps then o.planRise p
  else if o.level + p.declineEnergy o.level ≤ o.remaining then .issue o.level .hold o.endCause
  else o.planDecline p (some .quota)

/-- A LOWER step (R100). -/
def Order.planLower (o : Order) (p : Profile) : StepPlan :=
  if o.target < o.level then
    let next := max o.target (o.level - p.stepSize o.level)
    .issue next (if next = o.target then .hold else .lower) o.endCause
  else o.planHold p

/-- The plan of a step by the order's phase (R98 to R101). A WAIT_BIND order runs no steps (R95). -/
def Order.plan (o : Order) (p : Profile) : StepPlan :=
  match o.phase with
  | .waitBind => .stop o.endCause
  | .rise => o.planRise p
  | .hold => o.planHold p
  | .lower => o.planLower p
  | .decline => o.planDecline p o.endCause

/-- The set-point a step issues for a level: the least of the level, cap_eff, Q_rem and the site headroom (R102). -/
def State.limitSetPoint (s : State) (b : BayNo) (o : Order) (level : Nat) : Nat :=
  min level (min (s.bay b).capEff (min o.remaining (s.headroom b)))

/-- The order after it issues a set-point: delivered grows by it and L becomes it (R102). -/
def Order.issued (o : Order) (setPoint : Nat) (phase : Phase) (cause : Option EndCause) : Order :=
  { o with delivered := o.delivered + setPoint, level := setPoint, phase := phase, endCause := cause, stepDue := false }

/-- The order as its step has left it takes its place and its bay joins the poll queue (R96, R136). -/
def State.putOrder (s : State) (b : BayNo) (o : Order) : State := (s.setOrder b (some o)).join b

/-- A step issues its set-point. A DECLINE step whose set-point equals Ps ends the order in its event, after the
set-point is counted (R101). -/
def State.issueStep (s : State) (b : BayNo) (o : Order) (ps : Nat) : State :=
  if o.phase = .decline ∧ o.level = ps then (s.putOrder b o).finishOrder b o else s.putOrder b o

/-- The step of an order that has taken its first step (R96 to R102). -/
def State.stepOrder (s : State) (b : BayNo) (o : Order) : State :=
  match o.plan (s.profileOf o.request) with
  | .stop cause => s.finishOrder b { o with phase := .decline, endCause := cause, stepDue := false }
  | .issue level phase cause =>
    s.issueStep b (o.issued (s.limitSetPoint b o level) phase cause) (s.profileOf o.request).ps

/-- The order after its first step: Ps within the limits, in RISE, or in HOLD where that is the target (R97). -/
def State.firstOrder (s : State) (b : BayNo) (o : Order) : Order :=
  let sp := s.limitSetPoint b o (s.profileOf o.request).ps
  o.issued sp (if sp = o.target then .hold else .rise) o.endCause

/-- The first step of an order, which takes the bay to TRANSFER, whatever the set-point (R97). -/
def State.firstStep (s : State) (b : BayNo) (o : Order) : State :=
  ((s.setOrder b (some (s.firstOrder b o))).setBayState b .transfer).join b

/-! ### Creation and target changes (R94, R103) -/

/-- A new order in WAIT_BIND (R94). -/
def newOrder (id target quota : Nat) : Order :=
  { request := id, target := target, quota := saturate quota, delivered := 0, level := 0, phase := .waitBind,
    endCause := none, releaseAtEnd := false, cutTimer := none, stepDue := false }

/-- Creates an order on a participant's bay by the bay's state: a PARKED bay is bound, a BOUND bay waits for its settle
timer or takes the first step at once (R25, R94). -/
def State.createOrder (s : State) (id : Nat) (b : BayNo) (target quota : Nat) : State :=
  let o := newOrder id target quota
  match (s.bay b).state with
  | .parked =>
    (((s.setOrder b (some o)).modBay b fun r => { r with stateTimer := some bindingTime }).setBayState b .binding).join b
  | .bound => if (s.bay b).settleTimer.isSome then s.setOrder b (some o) else s.firstStep b o
  | _ => s

/-- The phase of a running order after a target change (R103). -/
def phaseFor (target level : Nat) : Phase :=
  if level < target then .rise else if target = level then .hold else .lower

/-- A running or waiting order takes a new target above 0 and a new quota (R103). -/
def Order.retarget (o : Order) (target remaining : Nat) : Order :=
  let quota := saturate (o.delivered + target * remaining)
  match o.phase with
  | .decline => o
  | .waitBind => { o with target := target, quota := quota }
  | .rise | .hold | .lower => { o with target := target, quota := quota, phase := phaseFor target o.level }

/-- Whether an order of the request stands on a bay. -/
def State.hasOrderOf (s : State) (id : Nat) (b : BayNo) : Bool :=
  match s.order b with
  | some o => o.request == id
  | none => false

/-- A participant takes its new target, if its bay holds an order of the request (R83). -/
def State.retargetEntry (id remaining : Nat) (s : State) (e : Participant) : State :=
  match s.order e.bay with
  | some o => if o.request = id then s.setOrder e.bay (some (o.retarget e.target remaining)) else s
  | none => s

/-- A bay that holds an order of the request and is not in the new list: RESPLIT (R83, R103). -/
def State.dropOutEntry (id : Nat) (list : List Participant) (s : State) (b : BayNo) : State :=
  match s.order b with
  | some o =>
    if o.request = id ∧ o.phase ≠ .decline ∧ list.all (fun e => e.bay != b) then s.endFor b o .resplit else s
  | none => s

/-- A participant with no order of the request receives a new one (R83). -/
def State.createEntry (id remaining : Nat) (s : State) (e : Participant) : State :=
  match s.order e.bay with
  | some _ => s
  | none => s.createOrder id e.bay e.target (e.target * remaining)

/-- Brings the orders of a request into line with a new participant list: target changes, orders that drop out, new
orders in split order (R83). -/
def State.alignOrders (s : State) (id remaining : Nat) (list : List Participant) : State :=
  list.foldl (State.createEntry id remaining)
    (allBays.foldl (State.dropOutEntry id list) (list.foldl (State.retargetEntry id remaining) s))

/-- An order of a request takes a cause of the Request Queue. -/
def State.endEntry (id : Nat) (cause : EndCause) (s : State) (b : BayNo) : State :=
  match s.order b with
  | some o => if o.request = id then s.endFor b o cause else s
  | none => s

/-- Every order of a request takes a cause of the Request Queue: running ones decline, WAIT_BIND ones are removed (R73,
R77, R78, R95). -/
def State.endAllFor (s : State) (id : Nat) (cause : EndCause) : State := allBays.foldl (State.endEntry id cause) s

/-- The number of orders of a request in the slots. -/
def State.orderCount (s : State) (id : Nat) : Nat := (allBays.filter (s.hasOrderOf id)).length

/-! ### The site-limit cut (R109) -/

/-- Cuts one bay's set-point by at most the excess still to be removed; a set-point of 0 has nothing to lower, and its
bay does not join the poll queue (R109, log entry 21). -/
def cutBay (acc : State × Nat) (b : BayNo) : State × Nat :=
  let (s, excess) := acc
  if (s.bay b).state = .transfer ∧ 0 < excess then
    match s.order b with
    | some o =>
      let cut := min o.level excess
      if cut = 0 then acc
      else ((s.setOrder b (some { o with level := o.level - cut })).join b, excess - cut)
    | none => acc
  else acc

/-- The site-limit cut, from the highest bay number downward, when the set-points exceed the limit (R109). -/
def State.siteLimitCut (s : State) : State :=
  (allBays.reverse.foldl cutBay (s, s.totalSetPoint - s.site.limit)).1

end Sys2Proof.Machine
end

