-- ==== Sys2Proof/Machine/Requests.lean ====
section
/-! DEFINITION. The Request Queue's operations (04_dispatch_requests.md): removal with its result, activation, window
end, review, re-split, the newly-eligible test and the taking of notices. -/

namespace Sys2Proof.Machine

open Config

/-! ### Leaving the queue (R68, R75) -/

/-- The last-result record of a request with an end cause (R68). -/
def Request.result (r : Request) (cause : RequestCause) : LastResult :=
  ⟨r.id, cause, r.submitted, r.delivered, r.submitted * r.length - r.delivered⟩

/-- Whether a notice is an order-end notice of a request. -/
def Notice.isEndOf (id : Nat) : Notice → Bool
  | .orderEnd request _ _ _ _ => request == id
  | .change _ => false

/-- Removes a request from the queue. Its order-end notices that still wait add nothing and start nothing (R74), so
they go with it. -/
def State.dropRequest (s : State) (id : Nat) : State :=
  { s with queue := s.queue.filter (fun r => r.id != id), notices := s.notices.filter (fun n => !n.isEndOf id) }

/-- An ENDING request leaves the queue: the last-result record, the removal, REQUEST_ENDED (R75). -/
def State.leave (s : State) (id : Nat) : State :=
  match s.request? id with
  | some r =>
    match r.state with
    | .ending cause => ({ s with lastResult := some (r.result cause) }.dropRequest id).raiseGrid .requestEnded
    | .held _ | .active _ _ => s
  | none => s

/-- An ENDING request leaves if it has no running order (R73, R78). -/
def State.leaveIfDone (s : State) (id : Nat) : State := if s.orderCount id = 0 then s.leave id else s

/-- The ACTIVE request becomes ENDING: its remaining window and eligible set are dropped, its orders take the cause,
and it leaves at once if it has no running order (R73, R78). -/
def State.endRequest (s : State) (id : Nat) (cause : RequestCause) (orderCause : EndCause) : State :=
  ((s.modRequest id fun r => { r with state := .ending cause }).endAllFor id orderCause).leaveIfDone id

/-! ### Evaluations (R72, R82, R83) -/

/-- What a re-split writes into its request: list and eligible set, and the grant only at a RETARGET (R77, R83). -/
def Request.resplit (q : Request) (remaining : Nat) (a : Allocation) (setGrant : Bool) : Request :=
  { q with list := a.list, state := .active remaining a.eligible, current := if setGrant then a.grant else q.current }

/-- A re-split's result taken: the request is written and its orders are brought into line (R83). -/
def State.applyResplit (s : State) (id remaining : Nat) (a : Allocation) (setGrant : Bool) : State :=
  (s.modRequest id (·.resplit remaining a setGrant)).alignOrders id remaining a.list

/-- A re-split of the ACTIVE request sharing a power (R83). -/
def State.resplitWith (s : State) (r : Request) (remaining power : Nat) (setGrant : Bool) : State :=
  s.applyResplit r.id remaining (s.evaluate (resplitTerms r (s.profileAt r.profile) power remaining)) setGrant

/-- The re-split of the ACTIVE request, if there is one: it shares the current grant (R81, R83). -/
def State.resplit (s : State) : State :=
  match s.active? with
  | some r =>
    match r.state with
    | .active remaining _ => s.resplitWith r remaining r.current false
    | .held _ | .ending _ => s
  | none => s

/-- Writes a grant that is below the current grant before it with GRANT_REDUCED (R72, R82). -/
def State.noteReduced (s : State) (before after : Nat) : State :=
  if after < before then s.raiseGrid .grantReduced else s

/-- A review's result taken (R82). -/
def State.applyReview (s : State) (id before : Nat) (a : Allocation) : State :=
  (s.modRequest id fun q => { q with list := a.list, current := a.grant }).noteReduced before a.grant

/-- The commitment review of one HELD request (R82). -/
def State.review (s : State) (id : Nat) : State :=
  match s.request? id with
  | some r =>
    match r.state with
    | .held countdown =>
      s.applyReview id r.current (s.evaluate (reviewTerms r (s.profileAt r.profile) countdown))
    | .active _ _ | .ending _ => s
  | none => s

/-- A change notice taken: the reviews in queue order, then the re-split (R47, R81). -/
def State.takeChange (s : State) : State :=
  ((s.queue.map (·.id)).foldl State.review s).resplit

/-- An activation split's result taken: the request is written, its orders are created, REQUEST_ACTIVE is raised
(R72). -/
def State.applyActivation (s : State) (id before window : Nat) (a : Allocation) : State :=
  (a.list.foldl (State.createEntry id window)
    ((s.modRequest id fun q =>
      { q with list := a.list, current := a.grant, state := .active window a.eligible }).noteReduced before
        a.grant)).raiseGrid .requestActive

/-- The activation of a HELD request (R72). -/
def State.activate (s : State) (r : Request) : State :=
  s.applyActivation r.id r.current ((s.profileAt r.profile).lead + r.length)
    (s.evaluate (splitTerms r (s.profileAt r.profile)))

/-- The newly-eligible test of the ACTIVE request, with the re-split it may make (R76). -/
def State.newlyEligible (s : State) : State :=
  match s.active? with
  | some r =>
    match r.state with
    | .active remaining found =>
      let t := resplitTerms r (s.profileAt r.profile) r.current remaining
      if targetSum r.list < r.current ∧ allBays.any (fun b => !found.contains b && s.eligible t b) = true then s.resplit
      else s
    | .held _ | .ending _ => s
  | none => s

/-! ### The second of the Request Queue (R71) -/

/-- Step 1 of the second event for one request. -/
def Request.second (r : Request) : Request :=
  match r.state with
  | .held countdown => { r with state := .held (countdown - 1) }
  | .active remaining eligible => { r with state := .active (remaining - 1) eligible }
  | .ending _ => r

/-- Whether the ACTIVE request's remaining window has reached 0 (R73). -/
def State.windowOver (s : State) : Bool :=
  match s.active? with
  | some r =>
    match r.state with
    | .active remaining _ => remaining == 0
    | .held _ | .ending _ => false
  | none => false

/-- The HELD request whose start countdown has reached its lead (R72). -/
def State.dueRequest? (s : State) : Option Request :=
  s.queue.find? fun r =>
    match r.state with
    | .held countdown => countdown ≤ (s.profileAt r.profile).lead
    | .active _ _ | .ending _ => false

/-! ### Order-end notices (R74) -/

/-- Whether an order-end notice of the request still waits. -/
def State.endWaits (s : State) (id : Nat) : Bool := s.notices.any (Notice.isEndOf id)

/-- Whether an order end of the ACTIVE request makes a re-split of it (R74). -/
def startsResplit (cause : Option EndCause) (byTransition : Bool) : Bool :=
  !byTransition && cause != some .windowEnd && cause != some .curtail

/-- The delivered total of a request after an order end; an unsigned 32-bit value (R66, R74). -/
def addDelivered (total energy : Nat) : Nat := (total + energy) % 4294967296

/-- What an order end starts, its energy counted: the last order of an ENDING request takes it out of the queue, and an
ACTIVE request may be re-split (R74). -/
def State.afterOrderNotice (s : State) (r : Request) (cause : Option EndCause) (byTransition : Bool) : State :=
  match r.state with
  | .ending _ => if s.endWaits r.id then s else s.leaveIfDone r.id
  | .active _ _ => if startsResplit cause byTransition then s.resplit else s
  | .held _ => s

/-- An order-end notice taken: the delivered energy joins the total of its request (R74). -/
def State.takeOrderEnd (s : State) (id : Nat) (cause : Option EndCause) (energy : Nat) (byTransition : Bool) : State :=
  match s.request? id with
  | none => s
  | some r =>
    (s.modRequest id fun q => { q with delivered := addDelivered q.delivered energy }).afterOrderNotice r cause
      byTransition

/-! ### Submission (R65, R67, R69) -/

/-- The occupied interval of a request, as its two ends (R67); none for an ENDING request. -/
def State.occupied (s : State) (r : Request) : Option (Int × Int) :=
  match r.state with
  | .held countdown => some ((countdown : Int) - (s.profileAt r.profile).lead, (countdown : Int) + r.length)
  | .active remaining _ => some (0, (remaining : Int))
  | .ending _ => none

/-- Whether two half-open intervals overlap: each begins before the other ends (R67). -/
def overlaps (a b : Int × Int) : Bool := a.1 < b.2 && b.1 < a.2

/-- A new request put into the queue among the HELD requests by its start countdown (R65). -/
def insertRequest (r : Request) (countdown : Nat) : List Request → List Request
  | [] => [r]
  | q :: rest =>
    match q.state with
    | .held c => if countdown < c then r :: q :: rest else q :: insertRequest r countdown rest
    | .active _ _ | .ending _ => q :: insertRequest r countdown rest

end Sys2Proof.Machine
end

