-- ==== Sys2Proof/Machine/Faults.lean ====
section
/-! DEFINITION. The Fault Monitor's operations (06_bay_faults_and_service_history.md): fault entry, faults in FAULT and
in OUT_OF_SERVICE, service history, exit test, reply checks. -/

namespace Sys2Proof.Machine

open Config

/-! ### Records (R118) -/

/-- Whether a record holds a kind, as first cause or as a later cause. -/
def FaultRecord.holds (r : FaultRecord) (k : FaultKind) : Bool := r.first == some k || r.later.contains k

/-- Appends a later cause: no kind twice, none equal to the first cause, at most four (R118). -/
def FaultRecord.append (r : FaultRecord) (k : FaultKind) : FaultRecord :=
  if r.holds k ∨ 4 ≤ r.later.length then r else { r with later := r.later ++ [k] }

/-- A record opened with a first cause and the causes taken with it (R117). -/
def openRecord (first : FaultKind) (others : List FaultKind) (now : Stamp) : FaultRecord :=
  others.foldl FaultRecord.append ⟨.opened, some first, [], now, 0⟩

/-- Closes an open record with its exit uptime (R118). -/
def FaultRecord.close (r : FaultRecord) (now : Stamp) : FaultRecord :=
  if r.status = .opened then { r with status := .closed, exit := now } else r

/-! ### Service history (R124) -/

/-- Whether a cause counts toward the history (R124). -/
def FaultPolicy.counts (p : FaultPolicy) : FaultKind → Bool
  | .linkLost => p.linkLost
  | .prechargeTimeout => p.precharge
  | .tracking => p.tracking
  | .overTemp => p.overTemp
  | .bayReported => p.bayReported
  | .isolation => true
  | .releaseTimeout => false

/-- The age of a stamp, modulo 2^32 (R146). -/
def stampAge (now stamp : Stamp) : Nat := (now - stamp).toNat

/-- The history after a counted entry: stamps older than an hour removed, the uptime appended (R124). -/
def historyAfter (history : List Stamp) (now : Stamp) : List Stamp :=
  history.filter (fun t => stampAge now t ≤ historyAge) ++ [now]

/-! ### Entry into FAULT and OUT_OF_SERVICE (R117, R124) -/

/-- Takes a bay to OUT_OF_SERVICE with its event; the hold stops (R121, R124, R125, R167). -/
def State.takeOut (s : State) (b : BayNo) : State :=
  ((s.modFault b fun f => { f with hold := none }).setBayState b .outOfService).raiseFleet .outOfService

/-- The cause an order ends with at a fault: BIND_FAILURE for a WAIT_BIND order at PRECHARGE_TIMEOUT, FAULT otherwise
(R108, R117). -/
def faultEndCause (o : Option Order) (first : FaultKind) : EndCause :=
  match o with
  | some o => if o.phase = .waitBind ∧ first = .prechargeTimeout then .bindFailure else .fault
  | none => .fault

/-- A new fault record, over whatever record the bay held (step 1 of R117). -/
def State.openFault (s : State) (b : BayNo) (first : FaultKind) (others : List FaultKind) : State :=
  s.modFault b fun f => { f with record := openRecord first others s.uptime }

/-- The hold starts at the fault hold of the site settings (step 5 of R117, R121). -/
def State.startHold (s : State) (b : BayNo) : State := s.modFault b fun f => { f with hold := some s.site.hold }

/-- A bay whose history holds three stamps goes on to OUT_OF_SERVICE (R124). -/
def State.outAtThird (s : State) (b : BayNo) : State :=
  if 3 ≤ (s.faultSet b).history.length then s.takeOut b else s

/-- The history entry of a fault entry (step 6 of R117, R124). -/
def State.countEntry (s : State) (b : BayNo) (kinds : List FaultKind) : State :=
  if kinds.any s.policy.counts then
    (s.modFault b fun f => { f with history := historyAfter f.history s.uptime }).outAtThird b
  else s

/-- Entry into FAULT, steps 1 to 7 of R117; the event hands its notice at its end (R24). -/
def State.enterFault (s : State) (b : BayNo) (first : FaultKind) (others : List FaultKind) : State :=
  (((((((s.openFault b first others).abortOrder b (faultEndCause (s.order b) first) true).stopTimers b).setBayState b
    .fault).releaseFrom b (s.bay b).state).startHold b).raiseFleet .bayFault).countEntry b (first :: others)

/-- Faults of kinds not yet held in the open record of a bay in FAULT: the kinds are appended, the hold restarts,
BAY_FAULT is raised (R119). -/
def State.faultInFault (s : State) (b : BayNo) (kinds : List FaultKind) : State :=
  let f := s.faultSet b
  if kinds.any (fun k => !f.record.holds k) then
    (s.setFaultSet b { f with record := kinds.foldl FaultRecord.append f.record, hold := some s.site.hold }).raiseFleet
      .bayFault
  else s

/-- Faults of a bay in OUT_OF_SERVICE: recorded only, with BAY_FAULT unless every kind is already held in the open
record (R120). -/
def State.faultInOut (s : State) (b : BayNo) (first : FaultKind) (others : List FaultKind) : State :=
  let f := s.faultSet b
  if f.record.status = .opened then
    if (first :: others).any (fun k => !f.record.holds k) then
      (s.setFaultSet b { f with record := (first :: others).foldl FaultRecord.append f.record }).raiseFleet .bayFault
    else s
  else (s.setFaultSet b { f with record := openRecord first others s.uptime }).raiseFleet .bayFault

/-- A fault taken by the bay's state, the causes found with it behind the first (R113, R114). -/
def State.takeFault (s : State) (b : BayNo) (first : FaultKind) (others : List FaultKind) : State :=
  match (s.bay b).state with
  | .empty | .detected => s
  | .parked | .binding | .bound | .transfer | .checking | .releasing | .cooldown => s.enterFault b first others
  | .fault => s.faultInFault b (first :: others)
  | .outOfService => s.faultInOut b first others

/-- A fault reported for a bay as an event of its own, with the notice its transitions hand (R24, R113). -/
def State.reportFault (s : State) (b : BayNo) (k : FaultKind) : State :=
  (s.takeFault b k []).handIfChanged b (s.bay b).state

/-! ### The way out (R122) -/

/-- The exit test of a bay in FAULT (R122). -/
def State.exitTest (s : State) (b : BayNo) : Bool :=
  let t := (s.bay b).tele
  (s.line b).miss == 0 && (!s.siteValid || t.temp < s.site.thz) && t.faultCode == 0 && !t.contactorClosed

/-- Makes the exit test; where it passes, the hold stops, the record is closed and the bay enters PARKED (R122). -/
def State.tryExit (s : State) (b : BayNo) : State :=
  if s.exitTest b then
    let f := s.faultSet b
    (s.setFaultSet b { f with hold := none, record := f.record.close s.uptime }).enterParked b
  else s

/-! ### The reply checks (R114, R115) -/

/-- The tolerance of the tracking check for an answered set-point (R115). -/
def tolerance (setPoint : Nat) : Nat := max 20 (setPoint / 10)

/-- Whether a measured power is out of tolerance of the answered set-point (R115). -/
def outOfTolerance (setPoint : Nat) (power : Int) : Bool := tolerance setPoint < (power - setPoint).natAbs

/-- The tracking check of a reply: the new count, and whether TRACKING is found (R115). -/
def State.trackingCheck (s : State) (b : BayNo) (answered : Nat) : Nat × Bool :=
  if (s.bay b).state = .transfer ∧ s.policy.detectTracking = true then
    if outOfTolerance answered (s.bay b).tele.power then
      if 4 ≤ (s.faultSet b).tracking then (0, true) else ((s.faultSet b).tracking + 1, false)
    else (0, false)
  else (0, false)

/-- The causes a reply gives, in check order: BAY_REPORTED, OVER_TEMP, TRACKING (R114). -/
def State.replyCauses (s : State) (b : BayNo) (answered : Nat) : List FaultKind :=
  let t := (s.bay b).tele
  (if t.faultCode ≠ 0 then [FaultKind.bayReported] else [])
    ++ (if s.siteValid ∧ s.site.tmax ≤ t.temp then [FaultKind.overTemp] else [])
    ++ (if (s.trackingCheck b answered).2 then [FaultKind.tracking] else [])

/-- The causes of one reply are taken as one fault, the first with the others behind it (R114). -/
def State.takeCauses (s : State) (b : BayNo) : List FaultKind → State
  | [] => s
  | first :: others => s.takeFault b first others

/-- Whether faults are detected in a state (R113). -/
def BayState.detecting : BayState → Bool
  | .empty | .detected => false
  | .parked | .binding | .bound | .transfer | .checking | .releasing | .cooldown | .fault | .outOfService => true

/-- The Fault Monitor's checks of a valid reply, in a detecting state (R113, R114). -/
def State.checkReply (s : State) (b : BayNo) (answered : Nat) : State :=
  if (s.bay b).state.detecting then
    (s.modFault b fun f => { f with tracking := (s.trackingCheck b answered).1 }).takeCauses b
      (s.replyCauses b answered)
  else s

end Sys2Proof.Machine
end

