-- ==== Sys2Proof/Machine/Bays.lean ====
section
/-! DEFINITION. The Bay Controller's operations (02_bays.md): the taking of a valid reply, unplug and change of bus,
the departure guard, and the release timeout. -/

namespace Sys2Proof.Machine

open Config

/-! ### Transitions of a reply (R19 step 3) -/

/-- An unplug: the order ends abruptly, the link is cleared, every timer stops, a bay in FAULT leaves it with its
record closed, and the bay goes to EMPTY (R22). -/
def State.unplug (s : State) (b : BayNo) : State :=
  ((((((s.dropOrder b (some .unplug) true).clearLink b).stopTimers b).modBay b fun r =>
    { r with releasePending := false, releaseTimer := none, guardArmed := false }).modFault b fun f =>
      { f with
        hold := none, releaseTimedOut := false,
        record := if (s.bay b).state = .fault then f.record.close s.uptime else f.record }).setBayState b .empty)

/-- The EMPTY entry of a reply with plug yes: DETECTED with the reported number as candidate (R20). -/
def State.detect (s : State) (b : BayNo) : State :=
  (s.setBayState b .detected).modBay b fun r => { r with candidate := some r.tele.vehicle }

/-- Bind completion (R26). -/
def State.completeBind (s : State) (b : BayNo) : State :=
  (s.modBay b fun r =>
    { r with
      stateTimer := none, settleTimer := some settleTime, interval := 0, checkDue := false,
      bindTime := s.uptime }).setBayState b .bound

/-- A passed check: the timer stops, the interval restarts, the bay goes to BOUND (R34). -/
def State.passCheck (s : State) (b : BayNo) : State :=
  (s.modBay b fun r => { r with stateTimer := none, interval := 0 }).setBayState b .bound

/-- A release completed in RELEASING: COOLDOWN with its timer (R30). -/
def State.completeRelease (s : State) (b : BayNo) : State :=
  ((s.endRelease b).modBay b fun r => { r with stateTimer := some cooldownTime }).setBayState b .cooldown

/-- The number a bay holds: its linked number, or that of the valid reply before this one (R23). -/
def heldNumber (link : Option Nat) (before : Nat) : Nat := link.getD before

/-- A reply showing the contactor open ends a release pending (R30). -/
def State.endReleaseIf (s : State) (b : BayNo) (ends : Bool) : State := if ends then s.endRelease b else s

/-- A valid reply of a bay in OUT_OF_SERVICE: a release pending may end, and plug no or a number other than the linked
one clears the link (R30, R39). -/
def State.replyOutOfService (s : State) (b : BayNo) : State :=
  let r := s.bay b
  let t := r.tele
  if !t.plug || (r.link.isSome && r.link != some t.vehicle) then
    (s.endReleaseIf b (r.releasePending && !t.contactorClosed)).clearLink b
  else s.endReleaseIf b (r.releasePending && !t.contactorClosed)

/-- A valid reply of a bay in EMPTY (R20). -/
def State.replyEmpty (s : State) (b : BayNo) : State := if (s.bay b).tele.plug then s.detect b else s

/-- A valid reply of a bay in DETECTED: plug out, confirmation, or another number (R20). -/
def State.replyDetected (s : State) (b : BayNo) : State :=
  if (s.bay b).tele.plug = false then s.setBayState b .empty
  else if (s.bay b).candidate = some (s.bay b).tele.vehicle then s.enterParked b
  else (s.setBayState b .empty).detect b

/-- What a valid reply of the bus that stands there does, by the bay's state: bind completion, check result, release
(R26, R30, R34). -/
def State.replySameBus (s : State) (b : BayNo) : State :=
  let t := (s.bay b).tele
  match (s.bay b).state with
  | .binding => if t.contactorClosed && t.dcReady then s.completeBind b else s
  | .checking =>
    match t.check with
    | .passed => s.passCheck b
    | .failed => s.takeFault b .isolation []
    | .none | .running => s
  | .releasing => if t.contactorClosed then s else s.completeRelease b
  | .fault => s.endReleaseIf b ((s.bay b).releasePending && !t.contactorClosed)
  | .empty | .detected | .parked | .bound | .transfer | .cooldown | .outOfService => s

/-- A valid reply of a bay from PARKED through COOLDOWN or in FAULT: unplug, change of bus, or the same bus (R22, R23).
`before` is the vehicle number of the valid reply before it. DESIGN CHOICE (log entry 29): the order that a change of bus
ends is an order ended by an unplug, not one on a bay that stays plugged, so the bay makes no join under R136. -/
def State.replyPlugged (s : State) (b : BayNo) (before : Nat) : State :=
  if (s.bay b).tele.plug = false then s.unplug b
  else if (s.bay b).tele.vehicle ≠ heldNumber (s.bay b).link before then (s.unplug b).detect b
  else s.replySameBus b

/-- The transitions a valid reply causes, its telemetry already written; `before` is the vehicle number of the valid
reply before it (R20, R22, R23, R26, R30, R34, R39). -/
def State.replyTransition (s : State) (b : BayNo) (before : Nat) : State :=
  match (s.bay b).state with
  | .empty => s.replyEmpty b
  | .detected => s.replyDetected b
  | .outOfService => s.replyOutOfService b
  | .parked | .binding | .bound | .transfer | .checking | .releasing | .cooldown | .fault => s.replyPlugged b before

/-- The remaining window of the ACTIVE request of an ID (R106). -/
def State.remainingWindow? (s : State) (id : Nat) : Option Nat :=
  match s.request? id with
  | some r =>
    match r.state with
    | .active remaining _ => some remaining
    | .held _ | .ending _ => none
  | none => none

/-- Whether the reserve guard's test fails for an order: E < N + L + D(L) (R106). -/
def State.reserveShort (s : State) (b : BayNo) (o : Order) (v : Vehicle) (windowEnd : Nat) : Bool :=
  let p := s.profileOf o.request
  (s.bay b).tele.energy < reserveNeed v s.site.eta s.clock windowEnd + o.level + p.declineEnergy o.level

/-- The reserve guard of an order in RISE, HOLD or LOWER on a bay in TRANSFER (R106). -/
def State.reserveGuard (s : State) (b : BayNo) : State :=
  match (s.bay b).state, s.order b, s.linkedVehicle? b with
  | .transfer, some o, some v =>
    if o.phase = .rise ∨ o.phase = .hold ∨ o.phase = .lower then
      match s.remainingWindow? o.request with
      | some w =>
        if s.reserveShort b o v w then
          (s.setOrder b (some (o.declineFor .reserveGuard))).raiseFleet .reserveGuard
        else s
      | none => s
    else s
  | _, _, _ => s

/-- The exit test at a valid reply for a bay in FAULT whose hold has expired (R122). -/
def State.exitAtReply (s : State) (b : BayNo) : State :=
  if (s.bay b).state = .fault ∧ (s.faultSet b).hold = none then s.tryExit b else s

/-- A valid reply, decoded, taken by the Bay Controller with the set-point of the answered poll (R19, R140). -/
def State.takeReply (s : State) (b : BayNo) (t : Telemetry) (answered : Nat) : State :=
  (((((((s.modBay b fun r => { r with tele := t }).recomputeCaps b).replyTransition b (s.bay b).tele.vehicle).checkReply b
    answered).exitAtReply b).reserveGuard b).handIfChanged b (s.bay b).state)

/-! ### The departure guard (R35, R36) -/

/-- The guard acts: the bay by its state, RESERVE_GUARD, the mark in the change set, the guard disarmed (R35). -/
def State.guardActs (s : State) (b : BayNo) : State :=
  (((s.releaseFor b .departureGuard).raiseFleet .reserveGuard).markBay b).modBay b fun r =>
    { r with guardArmed := false }

/-- The evaluation of one bay's guard at a timebase second with a valid clock (R35, R36). -/
def State.evaluateGuard (s : State) (b : BayNo) : State :=
  match (s.linkedVehicle? b).bind (·.departure) with
  | none => s
  | some d =>
    let t := timeToDeparture d.minute s.clock
    if t ≤ s.site.guard then
      if (s.bay b).guardArmed then s.guardActs b else s
    else s.modBay b fun r => { r with guardArmed := true }

/-! ### Fleet and roster actions on bays (R12, R38) -/

/-- Unlinks a bay for a withdrawal or a loss of consent, and acts on it by its state (R12). -/
def State.unlinkBay (s : State) (b : BayNo) : State := (s.clearLink b).releaseFor b .withdrawn

/-- Takes a bay to OUT_OF_SERVICE by TAKE BAY OUT from another state (R38). -/
def State.takeBayOut (s : State) (b : BayNo) : State :=
  (((((s.abortOrder b .withdrawn true).stopTimers b).releaseFrom b (s.bay b).state).takeOut b).handIfChanged b
    (s.bay b).state)

/-- The lowest-numbered bay waiting for a vehicle number: PARKED, unlinked, its last valid reply reporting it (R7). -/
def State.waitingBay? (s : State) (n : Nat) : Option BayNo :=
  allBays.find? fun b => (s.bay b).state == .parked && (s.bay b).link == none && (s.bay b).tele.vehicle == n

/-! ### The release timeout (R30, R125) -/

/-- RELEASE_TIMEOUT taken by the bay's state and its release timed out flag (R125). -/
def State.takeReleaseTimeout (s : State) (b : BayNo) : State :=
  match (s.bay b).state with
  | .releasing => ((s.openFault b .releaseTimeout []).takeOut b).raiseFleet .bayFault
  | .fault => ((s.modFault b fun f => { f with record := f.record.append .releaseTimeout }).takeOut b).raiseFleet .bayFault
  | .outOfService => if (s.faultSet b).releaseTimedOut then s else s.faultInOut b .releaseTimeout []
  | .empty | .detected | .parked | .binding | .bound | .transfer | .checking | .cooldown => s

/-- The release goes on with its timer restarted and its release timed out flag set (R125). -/
def State.restartRelease (s : State) (b : BayNo) : State :=
  (s.modBay b fun r => { r with releaseTimer := some releaseTime }).modFault b fun f => { f with releaseTimedOut := true }

/-- A release timer expires (R30, R125). -/
def State.releaseTimeout (s : State) (b : BayNo) : State :=
  ((s.takeReleaseTimeout b).restartRelease b).handIfChanged b (s.bay b).state

/-! ### Misses (R116, R141) -/

/-- The miss count of a bay rises by 1, up to 3 (R141). -/
def State.countMiss (s : State) (b : BayNo) : State :=
  s.setLine b { s.line b with miss := min 3 ((s.line b).miss + 1) }

/-- A miss of the polled bay; the third in a row is reported as LINK_LOST (R116, R141), with which the part meets a failed
link on its own side (R145). -/
def State.miss (s : State) (b : BayNo) : State :=
  if (s.line b).miss = 2 then (s.countMiss b).reportFault b .linkLost else s.countMiss b

end Sys2Proof.Machine
end

