-- ==== Sys2Proof/Machine/BayEvents.lean ====
section
/-! DEFINITION. The expiries of the bays' timers. A command whose expiry does not stand changes nothing. -/

namespace Sys2Proof.Machine

/-- CHECK_DUE: the interval has reached 900 s; check due is set and, in BOUND, the check starts at once (R31, R32). A
settle expiry that still waits fell due first and is taken first, so no check starts over a WAIT_BIND order (R32, log
entry 30). -/
def execCheckDue (b : BayNo) (s : State) : Host.Outcome State Fault Refusal :=
  let r := s.bay b
  if checkInterval ≤ r.interval ∧ r.checkDue = false then
    match r.state with
    | .bound =>
      if r.settleTimer.isSome then .next s else .next ((s.modBay b fun r => { r with checkDue := true }).startCheck b)
    | .transfer => .next (s.modBay b fun r => { r with checkDue := true })
    | _ => .next s
  else .next s

/-- DEFERRAL_LIMIT: the interval of a bay in TRANSFER has reached 1800 s; its order takes ISOLATION_DUE (R33). -/
def execDeferralLimit (b : BayNo) (s : State) : Host.Outcome State Fault Refusal :=
  if (s.bay b).state = .transfer ∧ deferralInterval ≤ (s.bay b).interval then .next (s.declineBay b .isolationDue)
  else .next s

/-- BINDING_TIMER_EXPIRY: PRECHARGE_TIMEOUT is reported (R26, R117). -/
def execBindingTimerExpiry (b : BayNo) (s : State) : Host.Outcome State Fault Refusal :=
  if (s.bay b).state = .binding ∧ (s.bay b).stateTimer = some 0 then .next (s.reportFault b .prechargeTimeout)
  else .next s

/-- At settle expiry a WAIT_BIND order on the bay takes its first step (R27, R95). -/
def State.settled (s : State) (b : BayNo) : State :=
  match (s.bay b).state, s.order b with
  | .bound, some o => if o.phase = .waitBind then s.firstStep b o else s
  | _, _ => s

/-- SETTLE_EXPIRY: the timer stops, and a WAIT_BIND order on the bay takes its first step (R27, R95). -/
def execSettleExpiry (b : BayNo) (s : State) : Host.Outcome State Fault Refusal :=
  if (s.bay b).settleTimer = some 0 then .next ((s.modBay b fun r => { r with settleTimer := none }).settled b)
  else .next s

/-- COOLDOWN_EXPIRY: the bay enters PARKED with the link test (R30). -/
def execCooldownExpiry (b : BayNo) (s : State) : Host.Outcome State Fault Refusal :=
  if (s.bay b).state = .cooldown ∧ (s.bay b).stateTimer = some 0 then .next (s.enterParked b) else .next s

/-- CHECK_TIMER_EXPIRY: ISOLATION is reported (R34). -/
def execCheckTimerExpiry (b : BayNo) (s : State) : Host.Outcome State Fault Refusal :=
  if (s.bay b).state = .checking ∧ (s.bay b).stateTimer = some 0 then .next (s.reportFault b .isolation) else .next s

/-- RELEASE_TIMER_EXPIRY: RELEASE_TIMEOUT is reported and the timer restarts (R30, R125). -/
def execReleaseTimerExpiry (b : BayNo) (s : State) : Host.Outcome State Fault Refusal :=
  if (s.bay b).releasePending = true ∧ (s.bay b).releaseTimer = some 0 then .next (s.releaseTimeout b) else .next s

/-- HOLD_EXPIRY: the hold stops and the exit test is made; a bay that leaves FAULT hands its notice (R121, R122). -/
def execHoldExpiry (b : BayNo) (s : State) : Host.Outcome State Fault Refusal :=
  if (s.bay b).state = .fault ∧ (s.faultSet b).hold = some 0 then
    .next (((s.modFault b fun f => { f with hold := none }).tryExit b).handIfChanged b .fault)
  else .next s

end Sys2Proof.Machine
end

