-- ==== Sys2Proof/Machine/Operands.lean ====
section
/-! DEFINITION. The operand forms that cross the interfaces: the Bay Link poll and reply with their CRC (R130 to R133,
R138, R139, R179), and the enumeration codes and excess-80 temperatures of frames and replies (R175). -/

namespace Sys2Proof.Machine

/-! ### CRC-8 (R133) -/

/-- One shift of the CRC register toward its most significant bit (R133). -/
def crcShift (c : Byte) : Byte := if c.msb then (c <<< 1) ^^^ 0x2F else c <<< 1

/-- One covered byte combined into the CRC register (R133). -/
def crcByte (c x : Byte) : Byte :=
  crcShift (crcShift (crcShift (crcShift (crcShift (crcShift (crcShift (crcShift (c ^^^ x))))))))

/-- The CRC-8 of the covered bytes (R133). -/
def crc8 (bytes : List Byte) : Byte := bytes.foldl crcByte 0xFF

/-! ### Codes (R175) -/

/-- The code of a device state. -/
def DeviceState.code : DeviceState → Nat
  | .config => 0
  | .run => 1
  | .halted => 2

/-- The code of a bay state. -/
def BayState.code : BayState → Nat
  | .empty => 0
  | .detected => 1
  | .parked => 2
  | .binding => 3
  | .bound => 4
  | .transfer => 5
  | .checking => 6
  | .releasing => 7
  | .cooldown => 8
  | .fault => 9
  | .outOfService => 10

/-- The bay states in code order. -/
def bayStates : List BayState :=
  [.empty, .detected, .parked, .binding, .bound, .transfer, .checking, .releasing, .cooldown, .fault, .outOfService]

/-- The code of a check status. -/
def CheckStatus.code : CheckStatus → Nat
  | .none => 0
  | .running => 1
  | .passed => 2
  | .failed => 3

/-- The check status of a code. -/
def checkOfCode (n : Nat) : CheckStatus :=
  if n = 0 then .none else if n = 1 then .running else if n = 2 then .passed else .failed

/-- The code of a request state. -/
def RequestState.code : RequestState → Nat
  | .held _ => 0
  | .active _ _ => 1
  | .ending _ => 2

/-- The code of a request's end cause. -/
def RequestCause.code : RequestCause → Nat
  | .window => 1
  | .curtail => 2
  | .trip => 3

/-- The code of a fault kind, 0 for none. -/
def faultCodeOf : Option FaultKind → Nat
  | none => 0
  | some .linkLost => 1
  | some .prechargeTimeout => 2
  | some .tracking => 3
  | some .overTemp => 4
  | some .isolation => 5
  | some .bayReported => 6
  | some .releaseTimeout => 7

/-- The code of a fault record's status. -/
def RecordStatus.code : RecordStatus → Nat
  | .none => 0
  | .opened => 1
  | .closed => 2

/-- The code of yes and no. -/
def yesNo (b : Bool) : Nat := if b then 1 else 0

/-- The flag a yes or no byte carries; none for another value (R175). -/
def yesNo? (x : Byte) : Option Bool := if x = 0 then some false else if x = 1 then some true else none

/-- A temperature byte read in excess-80 form (R175). -/
def tempOfByte (x : Byte) : Int := (x.toNat : Int) - 80

/-- A temperature as a number in excess-80 form (R175). -/
def tempCode (t : Int) : Nat := (t + 80).toNat

/-- A signed power as a two's-complement word (R175). -/
def powerCode (p : Int) : Nat := (p % 65536).toNat

/-- The signed power of a two's-complement word (R175). -/
def powerOfWord (w : BitVec 16) : Int := w.toInt

/-- A bay number in a reply, 255 when absent (R175). -/
def bayCode : Option BayNo → Nat
  | some b => b.val
  | none => 255

/-- The bay a command's bay byte names; none above 15. -/
def bayOfByte (x : Byte) : Option BayNo := if h : x.toNat < 16 then some ⟨x.toNat, h⟩ else none

/-! ### The poll (R130, R131, R143, R179) -/

/-- The address byte of a poll and of its reply (R179). -/
def addressByte (b : BayNo) (seq : BitVec 4) : Byte := BitVec.ofNat 8 (16 * b.val + seq.toNat)

/-- The flags of a poll (R130). -/
structure PollFlags where
  exportEnable : Bool
  chargePermit : Bool
  bindRequest : Bool
  releaseRequest : Bool
  checkRequest : Bool
  deriving DecidableEq, Repr

/-- Whether a request is ACTIVE or ENDING, which withholds the charge permit (R131). -/
def State.exportClaimed (s : State) : Bool := s.queue.any fun r => !r.isHeld

/-- The flags of a poll started now, by the bay's state (R130), with the charge permit of R131. -/
def State.pollFlags (s : State) (b : BayNo) : PollFlags :=
  let r := s.bay b
  let permit := (r.state == .parked || r.state == .bound) && !s.exportClaimed
  match r.state with
  | .empty | .detected | .cooldown => ⟨false, false, false, false, false⟩
  | .parked => ⟨false, permit, false, false, false⟩
  | .binding => ⟨false, false, true, false, false⟩
  | .bound => ⟨true, permit, false, false, false⟩
  | .transfer => ⟨true, false, false, false, false⟩
  | .checking => ⟨true, false, false, false, true⟩
  | .releasing => ⟨false, false, false, true, false⟩
  | .fault | .outOfService => ⟨false, false, false, r.releasePending, false⟩

/-- The flags of a resync poll (R143). -/
def resyncFlags : PollFlags := ⟨false, false, false, true, false⟩

/-- The flags byte of a poll (R179). -/
def PollFlags.byte (f : PollFlags) : Byte :=
  flagAt f.exportEnable 7 ||| flagAt f.chargePermit 6 ||| flagAt f.bindRequest 5 ||| flagAt f.releaseRequest 4
    ||| flagAt f.checkRequest 3

/-- The bytes of a poll that its CRC covers (R133, R179). -/
def pollBody (b : BayNo) (seq : BitVec 4) (f : PollFlags) (setPoint : Nat) : List Byte :=
  [addressByte b seq, f.byte, 0x00] ++ le2 setPoint ++ (le2 setPoint).map (~~~ ·)

/-- The nine bytes of a poll (R179). -/
def pollFrame (b : BayNo) (seq : BitVec 4) (f : PollFlags) (setPoint : Nat) : List Byte :=
  let body := pollBody b seq f setPoint
  [0xC3] ++ body ++ [crc8 body]

/-! ### The reply (R138, R139, R179) -/

/-- Whether fourteen received bytes are a valid reply to the exchange's poll: the CRC and the echoed address byte, with
its bay and its sequence number, agree (R138). A framing error fails the CRC check (R137). -/
def Exchange.accepts (x : Exchange) (bytes : List Byte) (framingError : Bool) : Bool :=
  !framingError && crc8 (bytes.take 13) == byteAt bytes 13 && byteAt bytes 0 == addressByte x.bay x.seq

/-- The telemetry of a valid reply, decoded and limited to its ranges; `capacity` is that of the linked vehicle, if
the bay is linked (R139, R179). -/
def decodeTelemetry (bytes : List Byte) (capacity : Option Nat) : Telemetry :=
  let status := byteAt bytes 1
  let energy := (tripleAt bytes 7).toNat
  { plug := status.getLsbD 7
    contactorClosed := status.getLsbD 6
    dcReady := status.getLsbD 5
    check := checkOfCode (status.toNat / 8 % 4)
    faultCode := min (byteAt bytes 2).toNat 15
    vehicle := (wordAt bytes 3).toNat
    power := max (-1200) (min 1200 (powerOfWord (wordAt bytes 5)))
    energy := match capacity with
      | some c => min energy c
      | none => energy
    temp := min 170 (tempOfByte (byteAt bytes 10)) }

/-- The status byte of last telemetry, in the layout of the Bay Link reply (R178). Bits 2 to 0, which the part does not read
in a reply and for which the manual gives READ BAY no value, are sent as 0: DESIGN CHOICE, log entry 31. -/
def Telemetry.statusByte (t : Telemetry) : Nat :=
  128 * yesNo t.plug + 64 * yesNo t.contactorClosed + 32 * yesNo t.dcReady + 8 * t.check.code

end Sys2Proof.Machine
end

