-- ==== Sys2Proof/Machine/Ports.lean ====
section
/-! DEFINITION. The master ports (09_master_ports.md): transactions, the taking and completion of commands, and the
commands the port itself carries out. -/

namespace Sys2Proof.Machine

/-! ### Transactions (R159, R160, R162) -/

/-- TRANSACTION_START: CS falls and the port takes its snapshot (R159). -/
def execTransactionStart (p : Port) (s : State) : Host.Outcome State Fault Refusal :=
  let x := s.port p
  match x.transaction with
  | none => .next (s.setPort p { x with transaction := some ⟨⟨s.statusByte p, x.reply⟩, false⟩ })
  | some _ => .next s

/-- The byte a transaction shifts out at a place, the first place being 0: status byte, reply length, reply, zeros
(R159, R176). -/
def Snapshot.byteOut (t : Snapshot) (place : Nat) : Byte :=
  byteAt (t.status :: BitVec.ofNat 8 t.reply.length :: t.reply) place

/-- The bit on MISO at a clock of a transaction, the first clock being 0: each byte most significant bit first (R159). -/
def Snapshot.bitOut (t : Snapshot) (clock : Nat) : Bool := (t.byteOut (clock / 8)).getLsbD (7 - clock % 8)

/-- The bits a transaction of so many clocks shifts out, those of a partial last byte among them (R159, R160). -/
def shiftOut (t : Snapshot) (clocks : Nat) : List Bool := (List.range clocks).map t.bitOut

/-- The level of a port's MISO pin at a clock of its transaction; `none`, high impedance, while CS is high (R159). -/
def PortState.misoPin (x : PortState) (clock : Nat) : Option Bool := x.transaction.map fun t => t.snapshot.bitOut clock

/-- The frame buffer holds 64 bytes (R160). -/
def frameCapacity : Nat := 64

/-- The port at CS's rise, before its frame is handled: the bytes in the frame buffer, the overflow indication, and the
transaction ended after the complete bytes `mosi` and the clocks `bits` of a partial byte, which the frame buffer does
not take (R160). -/
def PortState.collect (x : PortState) (t : Transaction) (mosi : List Byte) (bits : Nat) : PortState :=
  { x with
    frameBuffer := (x.frameBuffer ++ mosi).take frameCapacity
    overflow := x.overflow || decide (frameCapacity < (x.frameBuffer ++ mosi).length)
    transaction := none
    miso := shiftOut t.snapshot (8 * mosi.length + bits) }

/-- The frame buffer emptied for the next transaction (R160). -/
def PortState.emptied (x : PortState) : PortState := { x with frameBuffer := [], overflow := false }

/-- The port completes a command with a reply: result code first, BUSY cleared, READY set, ERR by the result (R165). -/
def PortState.complete (x : PortState) (reply : List Byte) : PortState :=
  { x with reply := reply, progress := .idle, ready := true, err := byteAt reply 0 != 0 }

/-- A frame taken as a command: BUSY set, READY and OVERRUN cleared; a command that fails the port's checks is completed
at the port with its result alone, any other is handed to its owning block (R162, R163). -/
def PortState.take (x : PortState) (p : Port) : PortState :=
  let y := { x with ready := false, overrun := false }
  match decodeFrame p x.frameBuffer x.overflow with
  | .error r => y.complete [r.code]
  | .ok c => { y with progress := .handed c }

/-- A frame handled at its end: none, a NOP, discarded with OVERRUN, or taken (R160, R161, R162). -/
def PortState.handleFrame (x : PortState) (p : Port) : PortState :=
  if x.frameBuffer = [] then x
  else if x.frameBuffer = [0x00] ∧ x.overflow = false then x
  else if x.busy then { x with overrun := true }
  else x.take p

/-- FRAME_END: CS rises and the frame ends (R160, R161, R162). A frame marked to be discarded is not handled (R174); a
rise without a transaction since the last power-on reset ends no frame (R173). -/
def execFrameEnd (p : Port) (mosi : List Byte) (bits : Nat) (s : State) : Host.Outcome State Fault Refusal :=
  let x := s.port p
  match x.transaction with
  | none => .next s
  | some t =>
    let y := x.collect t mosi bits
    .next (s.setPort p (if t.discard then y else y.handleFrame p).emptied)

/-! ### Carrying out and completing (R165) -/

/-- What a block hands back: a result code with no change of its state, or the state it made and the reply data. -/
abbrev CmdResult := Except ResultCode (State × List Byte)

/-- A command carried out, its reply data read from the state it made. -/
def withReply (s : State) (data : State → List Byte) : CmdResult := .ok (s, data s)

/-- Marks the command in progress at a port as carried out, with its reply. -/
def State.answer (s : State) (p : Port) (reply : List Byte) : State :=
  s.setPort p { s.port p with progress := .done reply }

/-- A block carries out the command handed to it by a port and hands the reply back (R165). A command the port has not
handed is not taken. -/
def carryOut (p : Port) (c : Instr) (run : State → CmdResult) (s : State) : Host.Outcome State Fault Refusal :=
  if (s.port p).progress = .handed c then
    match run s with
    | .error r => .next (s.answer p [r.code])
    | .ok (s', data) => .next (s'.answer p (0 :: data))
  else .next s

/-- COMMAND_COMPLETION: the reply buffer is replaced, BUSY cleared, READY set, ERR set or cleared (R165). -/
def execCommandCompletion (p : Port) (s : State) : Host.Outcome State Fault Refusal :=
  match (s.port p).progress with
  | .done reply => .next (s.setPort p ((s.port p).complete reply))
  | .idle => .next s
  | .handed _ => .next s

/-- NOP: it does nothing (R161). -/
def execNop (_p : Port) (s : State) : Host.Outcome State Fault Refusal := .next s

/-! ### Events and masks (R169 to R171) -/

/-- READ EVENTS: flags, mask and, on the fleet port, change set; then every flag but RESET is cleared and the change
set unmarked (R169, R178). -/
def readEvents (p : Port) (s : State) : CmdResult :=
  let x := s.port p
  let kept := s.setPort p { x with flags := x.flags &&& resetBit p }
  match p with
  | .grid => .ok (kept, [x.flags, x.mask])
  | .fleet => .ok ({ kept with changeSet := 0 }, [x.flags, x.mask] ++ le2 s.changeSet.toNat)

/-- SET EVENT MASK: a bit that names no event is refused; otherwise the mask is replaced (R171). -/
def setEventMask (p : Port) (mask : BitVec 8) (s : State) : CmdResult :=
  if mask &&& ~~~ eventBits p ≠ 0 then .error .range
  else .ok (s.setPort p { s.port p with mask := mask }, [mask])

/-- ACK RESET: the RESET flag of its own port is cleared (R170). -/
def ackReset (p : Port) (s : State) : CmdResult :=
  .ok (s.setPort p { s.port p with flags := (s.port p).flags &&& ~~~ resetBit p }, [])

/-- READ_EVENTS (R169). -/
def execReadEvents (p : Port) (s : State) : Host.Outcome State Fault Refusal :=
  carryOut p (.readEvents p) (readEvents p) s

/-- SET_EVENT_MASK (R171). -/
def execSetEventMask (p : Port) (mask : BitVec 8) (s : State) : Host.Outcome State Fault Refusal :=
  carryOut p (.setEventMask p mask) (setEventMask p mask) s

/-- ACK_RESET (R170). -/
def execAckReset (p : Port) (s : State) : Host.Outcome State Fault Refusal :=
  carryOut p (.ackReset p) (ackReset p) s

end Sys2Proof.Machine
end

