-- ==== Sys2Proof/Machine/ReadCommands.lean ====
section
/-! DEFINITION. The commands that read a record and change no state (R14, R15, R43, R80, R92, R127, R157, R178). -/

namespace Sys2Proof.Machine

/-! ### Reply data (R178) -/

/-- READ CLOCK data. -/
def clockData (s : State) : List Byte := le3 s.clock ++ le1 (yesNo s.clockValid) ++ le4 s.uptime.toNat

/-- The thirteen bytes of the site settings. -/
def siteData (x : Site) : List Byte :=
  le2 x.limit ++ le2 x.eta ++ le2 x.guard ++ le2 x.hold ++ le1 (tempCode x.tcz) ++ le1 (tempCode x.tcf)
    ++ le1 (tempCode x.thf) ++ le1 (tempCode x.thz) ++ le1 (tempCode x.tmax)

/-- The six bytes of the fault policy. -/
def policyData (p : FaultPolicy) : List Byte :=
  [p.linkLost, p.precharge, p.tracking, p.overTemp, p.bayReported, p.detectTracking].flatMap fun f => le1 (yesNo f)

/-- The number of bays in a state. -/
def State.bayCount (s : State) (st : BayState) : Nat := (allBays.filter fun b => (s.bay b).state == st).length

/-- READ DEVICE data. -/
def deviceData (s : State) : List Byte :=
  le1 s.device.code ++ le3 s.clock ++ le1 (yesNo s.clockValid) ++ le4 s.uptime.toNat ++ le1 (yesNo s.siteValid)
    ++ policyData s.policy ++ le1 s.queue.length ++ bayStates.flatMap fun st => le1 (s.bayCount st)

/-- READ PROFILE data. -/
def profileData (p : Profile) (inUse : Bool) : List Byte :=
  le2 p.ps ++ le2 p.lead ++ le1 (yesNo inUse) ++ le1 p.bands.length ++ p.bands.flatMap fun b => le2 b.bound ++ le2 b.step

/-- The countdown or remaining window of a request, 0 in ENDING (R80). -/
def Request.clockField (r : Request) : Nat :=
  match r.state with
  | .held countdown => countdown
  | .active remaining _ => remaining
  | .ending _ => 0

/-- The end cause code of a request, 0 while absent. -/
def Request.causeCode (r : Request) : Nat :=
  match r.state with
  | .ending cause => cause.code
  | .held _ | .active _ _ => 0

/-- READ REQUEST data of a queued request. -/
def requestData (r : Request) : List Byte :=
  le1 r.id ++ le1 r.state.code ++ le2 r.clockField ++ le2 r.length ++ le2 r.power ++ le2 r.submitted ++ le2 r.current
    ++ le1 r.profile ++ le1 (yesNo r.releaseOnEnd) ++ le4 r.delivered ++ le1 r.causeCode ++ le1 r.list.length
    ++ r.list.flatMap fun e => le1 e.bay.val ++ le2 e.target ++ le3 e.committed

/-- READ REQUEST data of the queue. -/
def queueData (q : List Request) : List Byte := le1 q.length ++ q.flatMap fun r => le1 r.id ++ le1 r.state.code

/-- READ RESULT data; all fields 0 while not present. -/
def resultData : Option LastResult → List Byte
  | none => List.replicate 13 0
  | some r => le1 1 ++ le1 r.id ++ le1 r.cause.code ++ le2 r.submitted ++ le4 r.delivered ++ le4 r.shortfall

/-- READ VEHICLE data at a roster position. -/
def vehicleData (v : Vehicle) (position : Nat) : List Byte :=
  le2 v.number ++ le1 position ++ le3 v.capacity ++ le3 v.floor ++ le2 v.pChg ++ le2 v.pDis ++ le1 (yesNo v.consent)
    ++ (match v.departure with
        | some d => le1 1 ++ le2 d.minute ++ le3 d.qDep
        | none => le1 0 ++ le2 0 ++ le3 0)
    ++ le1 (bayCode v.bayLink)

/-- The timer READ BAY shows: the state timer, the release timer in RELEASING, the hold in FAULT, 0 when stopped
(R43, R127). -/
def State.shownTimer (s : State) (b : BayNo) : Nat :=
  let r := s.bay b
  match r.state with
  | .binding | .cooldown | .checking => r.stateTimer.getD 0
  | .releasing => r.releaseTimer.getD 0
  | .fault => (s.faultSet b).hold.getD 0
  | _ => 0

/-- Last telemetry in the READ BAY reply. -/
def telemetryData (t : Telemetry) : List Byte :=
  le1 t.statusByte ++ le1 t.faultCode ++ le2 t.vehicle ++ le2 (powerCode t.power) ++ le3 t.energy
    ++ le1 (tempCode t.temp)

/-- The fault set in the READ BAY reply; ages are taken at the command (R127). -/
def faultData (f : FaultSet) (now : Stamp) : List Byte :=
  le1 f.record.status.code ++ le1 (faultCodeOf f.record.first) ++ le1 f.record.later.length
    ++ ((f.record.later.map fun k => BitVec.ofNat 8 (faultCodeOf (some k))) ++ List.replicate 4 0).take 4
    ++ le4 f.record.entry.toNat ++ le4 (if f.record.status = .closed then f.record.exit.toNat else 0)
    ++ le1 f.history.length
    ++ (f.history.flatMap (fun t : Stamp => le4 t.toNat) ++ List.replicate 12 0).take 12
    ++ (f.history.flatMap (fun t : Stamp => le4 (stampAge now t)) ++ List.replicate 12 0).take 12
    ++ le1 f.tracking

/-- READ BAY data (R43, R127, R178). -/
def bayData (s : State) (b : BayNo) : List Byte :=
  let r := s.bay b
  let f := s.faultSet b
  le1 b.val ++ le1 r.state.code ++ le2 (r.link.getD 0) ++ le2 (r.candidate.getD 0) ++ telemetryData r.tele
    ++ le2 r.ratedCap ++ le2 r.tempCap ++ le2 r.capEff ++ le2 (s.setPoint b) ++ le2 (s.shownTimer b)
    ++ le2 (min r.interval 65535)
    ++ le1 (yesNo r.checkDue + 2 * yesNo r.releasePending + 4 * yesNo r.guardArmed + 8 * yesNo f.releaseTimedOut)
    ++ le4 r.bindTime.toNat ++ faultData f s.uptime

/-- READ ROSTER data (R15). -/
def rosterData (roster : List Vehicle) (start count : Nat) : List Byte :=
  let listed := (roster.drop start).take count
  le1 roster.length ++ le1 listed.length
    ++ listed.flatMap fun v => le2 v.number ++ le1 (yesNo v.consent) ++ le1 (bayCode v.bayLink)

/-! ### The commands -/

/-- Whether a number is no valid vehicle number: 0 or 65 535 (00_scope.md). -/
def badNumber (n : Nat) : Bool := n == 0 || n == 65535

/-- READ PROFILE (R92). -/
def readProfile (index : BitVec 8) (s : State) : CmdResult :=
  if 7 < index.toNat then .error .range
  else match s.profiles[index.toNat]? with
    | some (some p) => .ok (s, profileData p (s.profileInUse index.toNat))
    | _ => .error .profileEmpty

/-- READ REQUEST (R80). -/
def readRequest (id : BitVec 8) (s : State) : CmdResult :=
  if id = 0 then .ok (s, queueData s.queue)
  else match s.request? id.toNat with
    | some r => .ok (s, requestData r)
    | none => .error .noSuchRequest

/-- The position of a vehicle number in the roster (R1). -/
def State.position (s : State) (n : Nat) : Nat := s.roster.findIdx (fun v => v.number == n)

/-- READ VEHICLE (R14). -/
def readVehicle (number : BitVec 16) (s : State) : CmdResult :=
  if badNumber number.toNat then .error .range
  else match s.vehicle? number.toNat with
    | some v => .ok (s, vehicleData v (s.position number.toNat))
    | none => .error .noSuchVehicle

/-- READ BAY (R43, R127). -/
def readBay (bay : BitVec 8) (s : State) : CmdResult :=
  match bayOfByte bay with
  | some b => .ok (s, bayData s b)
  | none => .error .badBay

/-- READ ROSTER (R15). -/
def readRoster (start count : BitVec 8) (s : State) : CmdResult :=
  if 47 < start.toNat ∨ count = 0 ∨ 16 < count.toNat then .error .range
  else .ok (s, rosterData s.roster start.toNat count.toNat)

/-- READ_CLOCK (R157). -/
def execReadClock (p : Port) (s : State) : Host.Outcome State Fault Refusal :=
  carryOut p (.readClock p) (fun s => .ok (s, clockData s)) s

/-- READ_SITE (R157). -/
def execReadSite (p : Port) (s : State) : Host.Outcome State Fault Refusal :=
  carryOut p (.readSite p) (fun s => .ok (s, siteData s.site ++ le1 (yesNo s.siteValid))) s

/-- READ_DEVICE (R157). -/
def execReadDevice (p : Port) (s : State) : Host.Outcome State Fault Refusal :=
  carryOut p (.readDevice p) (fun s => .ok (s, deviceData s)) s

/-- READ_PROFILE (R92). -/
def execReadProfile (p : Port) (index : BitVec 8) (s : State) : Host.Outcome State Fault Refusal :=
  carryOut p (.readProfile p index) (readProfile index) s

/-- READ_REQUEST (R80). -/
def execReadRequest (p : Port) (id : BitVec 8) (s : State) : Host.Outcome State Fault Refusal :=
  carryOut p (.readRequest p id) (readRequest id) s

/-- READ_RESULT (R80). -/
def execReadResult (p : Port) (s : State) : Host.Outcome State Fault Refusal :=
  carryOut p (.readResult p) (fun s => .ok (s, resultData s.lastResult)) s

/-- READ_VEHICLE (R14). -/
def execReadVehicle (p : Port) (number : BitVec 16) (s : State) : Host.Outcome State Fault Refusal :=
  carryOut p (.readVehicle p number) (readVehicle number) s

/-- READ_BAY (R43). -/
def execReadBay (p : Port) (bay : BitVec 8) (s : State) : Host.Outcome State Fault Refusal :=
  carryOut p (.readBay p bay) (readBay bay) s

/-- READ_ROSTER (R15). -/
def execReadRoster (start count : BitVec 8) (s : State) : Host.Outcome State Fault Refusal :=
  carryOut .fleet (.readRoster start count) (readRoster start count) s

end Sys2Proof.Machine
end

