-- ==== Sys2Proof/Machine/FleetCommands.lean ====
section
/-! DEFINITION. The fleet port's commands on site settings, fault policy, vehicles and bays (R4 to R12, R37 to R41, R126,
R155, R156). -/

namespace Sys2Proof.Machine

/-! ### Site settings and fault policy -/

/-- The site settings a SET SITE spells (R155, R175). -/
def siteOfFields (limit eta guard hold : BitVec 16) (tcz tcf thf thz tmax : BitVec 8) : Site :=
  ⟨limit.toNat, eta.toNat, guard.toNat, hold.toNat, tempOfByte tcz, tempOfByte tcf, tempOfByte thf, tempOfByte thz,
    tempOfByte tmax⟩

/-- Whether every field is in its range and the points are ordered (R154, R155). -/
def Site.valid (x : Site) : Bool :=
  (1 ≤ x.limit && x.limit ≤ 19200) && (700 ≤ x.eta && x.eta ≤ 1000) && (300 ≤ x.guard && x.guard ≤ 3600)
    && (30 ≤ x.hold && x.hold ≤ 600)
    && [x.tcz, x.tcf, x.thf, x.thz, x.tmax].all (fun t => -80 ≤ t && t ≤ 170)
    && (x.tcz < x.tcf && x.tcf ≤ x.thf && x.thf < x.thz && x.thz ≤ x.tmax)

/-- The effects of an accepted SET SITE, in order: the fields, the caps of every bay, the site-limit cut, the change
notice (R156). -/
def State.writeSite (s : State) (x : Site) : State :=
  ((allBays.foldl State.recomputeCaps { s with site := x, siteValid := true }).siteLimitCut).hand (.change .site)

/-- SET SITE (R155, R156). -/
def setSite (x : Site) (s : State) : CmdResult :=
  if x.valid then .ok (s.writeSite x, siteData x) else .error .range

/-- The policy of six flag bytes, if each is yes or no (R126). -/
def policyOfFields (linkLost precharge tracking overTemp bayReported detect : Byte) : Option FaultPolicy := do
  let a ← yesNo? linkLost
  let b ← yesNo? precharge
  let c ← yesNo? tracking
  let d ← yesNo? overTemp
  let e ← yesNo? bayReported
  let f ← yesNo? detect
  pure ⟨a, b, c, d, e, f⟩

/-- SET FAULT POLICY: the policy is replaced whole and every tracking count starts from 0 (R126). -/
def setFaultPolicy (policy : Option FaultPolicy) (s : State) : CmdResult :=
  match policy with
  | none => .error .range
  | some p => .ok ({ s with policy := p, faults := mapBank (fun f => { f with tracking := 0 }) s.faults }, policyData p)

/-! ### Vehicles -/

/-- Links a consenting unlinked vehicle to the lowest-numbered waiting bay, if there is one (R7). -/
def State.linkWaiting (s : State) (n : Nat) : State :=
  match s.vehicle? n with
  | some v =>
    if v.consent = true ∧ v.bayLink = none then
      match s.waitingBay? n with
      | some b => s.linkBay b v
      | none => s
    else s
  | none => s

/-- Whether ENROLL VEHICLE's own fields are in range (checks 1 to 5 of R4). -/
def enrollInRange (number capacity floor pChg pDis : Nat) (consent : Byte) : Bool :=
  !badNumber number && capacity != 0 && floor ≤ capacity && pChg ≤ 1200 && pDis ≤ 1200 && (yesNo? consent).isSome

/-- A changed effective cap of a linked bay hands a bay-change notice (R24). -/
def State.handIfCap (s : State) (b : BayNo) (before : Nat) : State :=
  if (s.bay b).capEff = before then s else s.hand (.change .bay)

/-- The Bay Controller acts on the new values of a linked vehicle: held stored energy and effective cap (R6). -/
def State.refreshLinked (s : State) (b : BayNo) (capacity : Nat) : State :=
  (((s.modBay b fun r => { r with tele := { r.tele with energy := min r.tele.energy capacity } }).recomputeCaps
    b).handIfCap b (s.bay b).capEff)

/-- A replaced record's link: cleared with the bay's action on loss of consent, else refreshed, else sought (R6, R7,
R12). -/
def State.replaceLink (s : State) (n : Nat) (link : Option BayNo) (capacity : Nat) (consent : Bool) : State :=
  match link with
  | some b => if consent then s.refreshLinked b capacity else s.unlinkBay b
  | none => s.linkWaiting n

/-- The bay link of a vehicle number as it stands. -/
def State.linkOf (s : State) (n : Nat) : Option BayNo := (s.vehicle? n).bind (·.bayLink)

/-- ENROLL VEHICLE of a number not in the roster: the record is appended and a waiting bay sought (R5, R7). -/
def State.appendVehicle (s : State) (v : Vehicle) : State :=
  ({ s with roster := s.roster ++ [v] }.linkWaiting v.number).hand (.change .roster)

/-- ENROLL VEHICLE of a number in the roster: its fields are overwritten; position, departure and, unless consent is
lost, link are kept (R6). -/
def State.replaceVehicle (s : State) (old : Vehicle) (capacity floor pChg pDis : Nat) (consent : Bool) : State :=
  ((s.modVehicle old.number fun v =>
    { v with capacity := capacity, floor := floor, pChg := pChg, pDis := pDis, consent := consent }).replaceLink
      old.number old.bayLink capacity consent).hand (.change .roster)

/-- Whether a departure asks for more than a capacity (check 6 of R4). -/
def Vehicle.exceeds (v : Vehicle) (capacity : Nat) : Bool :=
  match v.departure with
  | some d => capacity < d.qDep
  | none => false

/-- ENROLL VEHICLE: the checks in order, then append or replace (R4 to R7, R13). -/
def enrollVehicle (number capacity floor pChg pDis : Nat) (consent : Byte) (s : State) : CmdResult :=
  if !enrollInRange number capacity floor pChg pDis consent then .error .range
  else
    match s.vehicle? number with
    | some old =>
      if old.exceeds capacity then .error .range
      else
        let position := s.position number
        withReply (s.replaceVehicle old capacity floor pChg pDis (consent == 1)) fun s =>
          le1 position ++ le1 1 ++ le1 (bayCode (s.linkOf number))
    | none =>
      if 48 ≤ s.roster.length then .error .rosterFull
      else
        let position := s.roster.length
        withReply (s.appendVehicle ⟨number, capacity, floor, pChg, pDis, consent == 1, none, none⟩) fun s =>
          le1 position ++ le1 0 ++ le1 (bayCode (s.linkOf number))

/-- Re-arms the guard of a linked vehicle's bay (R10, R36). -/
def State.rearm (s : State) (link : Option BayNo) : State :=
  match link with
  | some b => s.modBay b fun r => { r with guardArmed := true }
  | none => s

/-- SET DEPARTURE: the checks in order, then the departure set or removed and the guard re-armed (R9, R10, R13). -/
def setDeparture (number form minute qDep : Nat) (s : State) : CmdResult :=
  if badNumber number = true ∨ 1 < form then .error .range
  else if form = 1 ∧ 1439 < minute then .error .range
  else match s.vehicle? number with
    | none => .error .noSuchVehicle
    | some v =>
      if form = 1 ∧ v.capacity < qDep then .error .range
      else
        let departure : Option Departure := if form = 1 then some ⟨minute, qDep⟩ else none
        .ok ((((s.modVehicle number fun v => { v with departure := departure }).rearm v.bayLink).hand (.change .roster)),
          le2 number ++ le1 (bayCode v.bayLink))

/-- The Roster unlinks a vehicle's bay, if it has one (R12). -/
def State.unlinkIf (s : State) (link : Option BayNo) : State :=
  match link with
  | some b => s.unlinkBay b
  | none => s

/-- Removes the record of a vehicle number; the records behind it move up (R1). -/
def State.removeVehicle (s : State) (n : Nat) : State :=
  { s with roster := s.roster.filter fun v => v.number != n }

/-- WITHDRAW VEHICLE: the bay is unlinked, the record removed, the change handed (R11, R12, R13). -/
def withdrawVehicle (number : Nat) (s : State) : CmdResult :=
  if badNumber number then .error .range
  else match s.vehicle? number with
    | none => .error .noSuchVehicle
    | some v =>
      .ok (((s.unlinkIf v.bayLink).removeVehicle number).hand (.change .roster),
        le1 (s.position number) ++ le1 (bayCode v.bayLink))

/-! ### Bays -/

/-- SET BAY (R41). -/
def setRatedCap (bay : BitVec 8) (cap : Nat) (s : State) : CmdResult :=
  match bayOfByte bay with
  | none => .error .badBay
  | some b =>
    if 1200 < cap then .error .range
    else
      withReply (((s.modBay b fun r => { r with ratedCap := cap }).recomputeCaps b).hand (.change .bay)) fun s =>
        le1 b.val ++ le2 cap ++ le2 (s.bay b).capEff

/-- RELEASE BAY (R37). -/
def releaseBay (bay : BitVec 8) (s : State) : CmdResult :=
  match bayOfByte bay with
  | none => .error .badBay
  | some b =>
    if (s.bay b).state.exporting then
      withReply (s.releaseFor b .withdrawn) fun s => le1 b.val ++ le1 (s.bay b).state.code
    else .error .bayState

/-- TAKE BAY OUT (R38). -/
def takeBayOut (bay : BitVec 8) (s : State) : CmdResult :=
  match bayOfByte bay with
  | none => .error .badBay
  | some b =>
    let left := (s.bay b).state
    .ok (if left = .outOfService then s else s.takeBayOut b, le1 b.val ++ le1 left.code)

/-- A bay that leaves OUT_OF_SERVICE goes to DETECTED or EMPTY by its last valid reply (R40). -/
def State.restart (s : State) (b : BayNo) : State :=
  if (s.bay b).tele.plug then s.detect b else s.setBayState b .empty

/-- A bay restored: fault history and fault record cleared, link cleared, DETECTED or EMPTY by its last valid reply
(R40). -/
def State.restoreBay (s : State) (b : BayNo) : State :=
  ((((s.modFault b fun f => { f with history := [], record := .cleared }).clearLink b).restart b).handIfChanged b
    .outOfService)

/-- RESTORE BAY (R40). -/
def restoreBay (bay : BitVec 8) (s : State) : CmdResult :=
  match bayOfByte bay with
  | none => .error .badBay
  | some b =>
    if (s.bay b).state ≠ .outOfService ∨ (s.bay b).releasePending = true then .error .bayState
    else
      withReply (s.restoreBay b) fun s => le1 b.val ++ le1 (s.bay b).state.code

/-! ### The commands -/

/-- SET_SITE (R155, R156). -/
def execSetSite (limit eta guard hold : BitVec 16) (tcz tcf thf thz tmax : BitVec 8) (s : State) :
    Host.Outcome State Fault Refusal :=
  carryOut .fleet (.setSite limit eta guard hold tcz tcf thf thz tmax)
    (setSite (siteOfFields limit eta guard hold tcz tcf thf thz tmax)) s

/-- SET_FAULT_POLICY (R126). -/
def execSetFaultPolicy (linkLost precharge tracking overTemp bayReported detect : BitVec 8) (s : State) :
    Host.Outcome State Fault Refusal :=
  carryOut .fleet (.setFaultPolicy linkLost precharge tracking overTemp bayReported detect)
    (setFaultPolicy (policyOfFields linkLost precharge tracking overTemp bayReported detect)) s

/-- ENROLL_VEHICLE (R4 to R7). -/
def execEnrollVehicle (number : BitVec 16) (capacity floor : BitVec 24) (pChg pDis : BitVec 16) (consent : BitVec 8)
    (s : State) : Host.Outcome State Fault Refusal :=
  carryOut .fleet (.enrollVehicle number capacity floor pChg pDis consent)
    (enrollVehicle number.toNat capacity.toNat floor.toNat pChg.toNat pDis.toNat consent) s

/-- SET_DEPARTURE (R9, R10). -/
def execSetDeparture (number : BitVec 16) (form : BitVec 8) (minute : BitVec 16) (qDep : BitVec 24) (s : State) :
    Host.Outcome State Fault Refusal :=
  carryOut .fleet (.setDeparture number form minute qDep)
    (setDeparture number.toNat form.toNat minute.toNat qDep.toNat) s

/-- WITHDRAW_VEHICLE (R11, R12). -/
def execWithdrawVehicle (number : BitVec 16) (s : State) : Host.Outcome State Fault Refusal :=
  carryOut .fleet (.withdrawVehicle number) (withdrawVehicle number.toNat) s

/-- SET_BAY (R41). -/
def execSetBay (bay : BitVec 8) (cap : BitVec 16) (s : State) : Host.Outcome State Fault Refusal :=
  carryOut .fleet (.setBay bay cap) (setRatedCap bay cap.toNat) s

/-- RELEASE_BAY (R37). -/
def execReleaseBay (bay : BitVec 8) (s : State) : Host.Outcome State Fault Refusal :=
  carryOut .fleet (.releaseBay bay) (releaseBay bay) s

/-- TAKE_BAY_OUT (R38). -/
def execTakeBayOut (bay : BitVec 8) (s : State) : Host.Outcome State Fault Refusal :=
  carryOut .fleet (.takeBayOut bay) (takeBayOut bay) s

/-- RESTORE_BAY (R40). -/
def execRestoreBay (bay : BitVec 8) (s : State) : Host.Outcome State Fault Refusal :=
  carryOut .fleet (.restoreBay bay) (restoreBay bay) s

end Sys2Proof.Machine
end

