-- ==== Sys2Proof/Machine/GridCommands.lean ====
section
/-! DEFINITION. The grid port's commands: clock, profiles, requests (R69, R70, R77 to R79, R91, R148). -/

namespace Sys2Proof.Machine

open Config

/-- SET CLOCK (R148). -/
def setClock (second : BitVec 24) (s : State) : CmdResult :=
  if daySeconds ≤ second.toNat then .error .range
  else
    withReply { s with clock := second.toNat, clockValid := true } fun s => le3 s.clock ++ le1 (yesNo s.clockValid)

/-- The profile entry a LOAD PROFILE spells. -/
def profileOfFields (ps lead : BitVec 16) (bands : List (BitVec 16 × BitVec 16)) : Profile :=
  ⟨ps.toNat, lead.toNat, bands.map fun b => ⟨b.1.toNat, b.2.toNat⟩⟩

/-- LOAD PROFILE, its checks in order (R91). -/
def loadProfile (index : BitVec 8) (ps lead : BitVec 16) (bands : List (BitVec 16 × BitVec 16)) (s : State) :
    CmdResult :=
  if h : index.toNat < 8 then
    let p := profileOfFields ps lead bands
    if s.profileInUse index.toNat then .error .profileInUse
    else if !p.valid then .error .profileInvalid
    else .ok ({ s with profiles := s.profiles.set index.toNat (some p) }, le1 index.toNat ++ le1 p.bands.length)
  else .error .range

/-- The start countdown of a window start: (window start − clock) mod 86 400 (R69). -/
def startCountdown (start clock : Nat) : Nat := (((start : Int) - (clock : Int)) % (daySeconds : Int)).toNat

/-- Whether the fields of SUBMIT REQUEST are in range (check 2 of R69). -/
def submitInRange (id start length power profile release : Nat) : Bool :=
  id != 0 && start < daySeconds && (60 ≤ length && length ≤ 14400) && (1 ≤ power && power ≤ 19200) && profile ≤ 7
    && release ≤ 1

/-- Whether a request's interval meets that of a HELD or ACTIVE request (check 7 of R69). -/
def State.overlapsQueue (s : State) (span : Int × Int) : Bool :=
  s.queue.any fun r =>
    match s.occupied r with
    | some q => overlaps span q
    | none => false

/-- The record a SUBMIT REQUEST stores (R70). -/
def newRequest (id length power profile countdown : Nat) (release : Bool) (a : Allocation) : Request :=
  { id := id, state := .held countdown, length := length, power := power, submitted := a.grant, current := a.grant,
    profile := profile, releaseOnEnd := release, list := a.list, delivered := 0 }

/-- SUBMIT REQUEST: the checks in order, the offer, the record stored (R69, R70). -/
def submitRequest (id start length power profile release : Nat) (s : State) : CmdResult :=
  let c := startCountdown start s.clock
  if s.device ≠ .run then .error .notRunning
  else if !submitInRange id start length power profile release then .error .range
  else match s.profiles[profile]? with
    | some (some p) =>
      if (s.request? id).isSome then .error .duplicateId
      else if 4 ≤ s.queue.length then .error .queueFull
      else if c < p.lead + 30 ∨ 43200 < c then .error .horizon
      else if s.overlapsQueue ((c : Int) - p.lead, (c : Int) + length) then .error .overlap
      else
        let a := s.evaluate (offerTerms id p power c length)
        let r := newRequest id length power profile c (release == 1) a
        .ok ({ s with queue := insertRequest r c s.queue },
          le1 id ++ le2 a.grant ++ le2 c ++ le1 a.list.length)
    | _ => .error .profileEmpty

/-- RETARGET of the ACTIVE request (R77). -/
def retargetActive (s : State) (r : Request) (remaining power : Nat) : State :=
  if power = 0 then
    (s.endAllFor r.id .curtail).modRequest r.id fun q => { q with list := [], current := 0 }
  else s.resplitWith r remaining (min power r.submitted) true

/-- The reply data of RETARGET: the request's new grant and number of participants (R178). -/
def retargetData (s : State) (id : Nat) : List Byte :=
  match s.request? id with
  | some r => le1 id ++ le2 r.current ++ le1 r.list.length
  | none => le1 id ++ le2 0 ++ le1 0

/-- RETARGET (R77). -/
def retarget (id power : Nat) (s : State) : CmdResult :=
  if id = 0 ∨ 19200 < power then .error .range
  else match s.request? id with
    | none => .error .noSuchRequest
    | some r =>
      match r.state with
      | .active remaining _ =>
        withReply (retargetActive s r remaining power) (retargetData · id)
      | .held _ | .ending _ => .error .requestNotActive

/-- CURTAIL (R78). -/
def curtail (id : Nat) (s : State) : CmdResult :=
  if id = 0 then .error .range
  else match s.request? id with
    | none => .error .noSuchRequest
    | some r =>
      match r.state with
      | .active _ _ =>
        withReply (s.endRequest id .curtail .curtail) fun s => le1 id ++ le1 (s.orderCount id)
      | .held _ | .ending _ => .error .requestNotActive

/-- CANCEL (R79). -/
def cancel (id : Nat) (s : State) : CmdResult :=
  if id = 0 then .error .range
  else match s.request? id with
    | none => .error .noSuchRequest
    | some r =>
      match r.state with
      | .held _ => .ok (s.dropRequest id, le1 id)
      | .active _ _ | .ending _ => .error .requestActive

/-- SET_CLOCK (R148). -/
def execSetClock (second : BitVec 24) (s : State) : Host.Outcome State Fault Refusal :=
  carryOut .grid (.setClock second) (setClock second) s

/-- LOAD_PROFILE (R91). -/
def execLoadProfile (index : BitVec 8) (ps lead : BitVec 16) (bands : List (BitVec 16 × BitVec 16)) (s : State) :
    Host.Outcome State Fault Refusal :=
  carryOut .grid (.loadProfile index ps lead bands) (loadProfile index ps lead bands) s

/-- SUBMIT_REQUEST (R69, R70). -/
def execSubmitRequest (id : BitVec 8) (start : BitVec 24) (length power : BitVec 16) (profile release : BitVec 8)
    (s : State) : Host.Outcome State Fault Refusal :=
  carryOut .grid (.submitRequest id start length power profile release)
    (submitRequest id.toNat start.toNat length.toNat power.toNat profile.toNat release.toNat) s

/-- RETARGET (R77). -/
def execRetarget (id : BitVec 8) (power : BitVec 16) (s : State) : Host.Outcome State Fault Refusal :=
  carryOut .grid (.retarget id power) (retarget id.toNat power.toNat) s

/-- CURTAIL (R78). -/
def execCurtail (id : BitVec 8) (s : State) : Host.Outcome State Fault Refusal :=
  carryOut .grid (.curtail id) (curtail id.toNat) s

/-- CANCEL (R79). -/
def execCancel (id : BitVec 8) (s : State) : Host.Outcome State Fault Refusal :=
  carryOut .grid (.cancel id) (cancel id.toNat) s

end Sys2Proof.Machine
end

