-- ==== Sys2Proof/Machine/DeviceCommands.lean ====
section
/-! DEFINITION. The device state: START, RESUME, TRIP and RESET DEVICE (R85, R86, R150 to R153, R174). -/

namespace Sys2Proof.Machine

/-! ### START and RESUME (R151) -/

/-- Entry to RUN with its checks in order; in RUN the command changes nothing (R151). -/
def enterRun (isResume : Bool) (s : State) : CmdResult :=
  if isResume = true ∧ s.device = .config then .error .notConfigured
  else if s.device = .run then .ok (s, le1 s.device.code)
  else if !s.siteValid then .error .notConfigured
  else if !s.clockValid then .error .clockUnset
  else
    withReply { s with device := .run }.raiseDeviceState fun s => le1 s.device.code

/-! ### TRIP (R85, R152) -/

/-- Whether a bay is in BINDING or in export mode (R150). -/
def BayState.engaged (st : BayState) : Bool := st == .binding || st.exporting

/-- Releases a bay that is in BINDING or in export mode (R29). -/
def State.releaseIfEngaged (s : State) (b : BayNo) : State :=
  if (s.bay b).state.engaged then s.release b else s

/-- Part 1 of R152 at one bay: its order ends, its delivered energy is added to its request at once and starts no
re-split, and the bay goes to RELEASING. -/
def State.tripOrder (s : State) (b : BayNo) : State :=
  match s.order b with
  | none => s
  | some o =>
    ((((s.setOrder b none).modRequest o.request fun r =>
      { r with delivered := addDelivered r.delivered o.delivered }).join b).releaseIfEngaged b)

/-- Part 2 of R152 at one bay: a bay still in BOUND or CHECKING is released, a running check abandoned. -/
def State.tripBay (s : State) (b : BayNo) : State := s.releaseIfEngaged b

/-- A request removed by a TRIP: ACTIVE and ENDING ones write the last-result record (R85). -/
def State.tripRequest (s : State) (r : Request) : State :=
  match r.state with
  | .held _ => s.dropRequest r.id
  | .active _ _ | .ending _ => { s with lastResult := some (r.result .trip) }.dropRequest r.id

/-- The Request Queue empties itself, in queue order; REQUEST_ENDED when any request left (R85). -/
def State.tripQueue (s : State) : State :=
  if s.queue = [] then s else (s.queue.foldl State.tripRequest s).raiseGrid .requestEnded

/-- The number of bays a TRIP releases. -/
def State.tripReleases (s : State) : Nat :=
  (allBays.filter fun b => (s.bay b).state.engaged).length

/-- RUN becomes HALTED; CONFIG and HALTED are unchanged (part 4 of R152). -/
def State.halt (s : State) : State := if s.device = .run then { s with device := .halted } else s

/-- A TRIP, taken whole (R152). -/
def State.doTrip (s : State) : State :=
  ((allBays.foldl State.tripBay (allBays.foldl State.tripOrder s)).tripQueue.halt).raiseDeviceState

/-- TRIP with its reply: device state, requests removed, bays released (R152, R178). -/
def trip (s : State) : CmdResult :=
  withReply s.doTrip fun t => le1 t.device.code ++ le1 s.queue.length ++ le1 s.tripReleases

/-! ### RESET DEVICE (R153, R174) -/

/-- A bay record after a soft reset: its rated cap is kept (R44). -/
def BayRecord.softReset (r : BayRecord) : BayRecord := { BayRecord.reset with ratedCap := r.ratedCap }

/-- The grid port after a soft reset: mask kept, RESET alone set, reply buffer emptied, the command in progress lost,
a transaction in progress marked for its frame to be discarded (R174). -/
def PortState.softResetGrid (x : PortState) : PortState :=
  { x with
    flags := gridBit .reset, overrun := false, err := false, reply := [], progress := .idle, ready := false
    transaction := x.transaction.map fun t => { t with discard := true } }

/-- The fleet port after a soft reset, before its command is completed: mask kept, RESET alone set (R174). -/
def PortState.softResetFleet (x : PortState) : PortState :=
  { x with flags := fleetBit .reset, overrun := false, err := false }

/-- The soft-reset values of every block, after the TRIP (R16, R44, R86, R111, R128, R143, R153, R174). -/
def State.softReset (s : State) : State :=
  { s with
    device := .config
    uptime := 0
    roster := s.roster.map fun v => { v with bayLink := none }
    bays := mapBank BayRecord.softReset s.bays
    faults := Vector.replicate 16 .reset
    orders := Vector.replicate 16 none
    queue := []
    lastResult := none
    notices := []
    lines := Vector.replicate 16 .reset
    pollQueue := allBays
    exchange := none
    grid := s.grid.softResetGrid
    fleet := s.fleet.softResetFleet
    changeSet := 0 }

/-- RESET DEVICE: a TRIP, then the soft reset; the reply gives CONFIG (R153). -/
def resetDevice (s : State) : CmdResult := .ok (s.doTrip.softReset, le1 DeviceState.config.code)

/-! ### The commands -/

/-- START (R151). -/
def execStart (s : State) : Host.Outcome State Fault Refusal := carryOut .fleet .start (enterRun false) s

/-- RESUME (R151). -/
def execResume (s : State) : Host.Outcome State Fault Refusal := carryOut .fleet .resume (enterRun true) s

/-- TRIP (R152). -/
def execTrip (p : Port) (s : State) : Host.Outcome State Fault Refusal := carryOut p (.trip p) trip s

/-- RESET_DEVICE (R153). -/
def execResetDevice (s : State) : Host.Outcome State Fault Refusal := carryOut .fleet .resetDevice resetDevice s

end Sys2Proof.Machine
end

