-- ==== Sys2Proof/Machine/LinkEvents.lean ====
section
/-! DEFINITION. The Bay Link: joins by class, polls, replies, misses and noise (07_bay_link.md). -/

namespace Sys2Proof.Machine

/-- POLL_CLASS_PERIOD: a bay whose class period was reached at this second joins the poll queue (R135). -/
def execPollClassPeriod (b : BayNo) (s : State) : Host.Outcome State Fault Refusal :=
  if (s.line b).periodDue then .next ((s.setLine b { s.line b with periodDue := false }).join b) else .next s

/-- What the Bay Link Controller holds for a bay once its poll has started (R132, R135, R143). -/
def LineRecord.started (l : LineRecord) : LineRecord :=
  { l with seq := l.seq + 1, classTimer := 0, resync := false, periodDue := false }

/-- The exchange a poll started now opens: the raised sequence number, and flags and set-point by R130, or by R143 for a
bay marked for a resync poll. -/
def State.exchangeFor (s : State) (b : BayNo) : Exchange :=
  let l := s.line b
  let flags := if l.resync then resyncFlags else s.pollFlags b
  let setPoint := if l.resync then 0 else s.setPoint b
  ⟨b, l.seq + 1, setPoint, pollFrame b (l.seq + 1) flags setPoint, false⟩

/-- Starts the poll of a bay: the sequence number rises, the class timer restarts, the resync mark is cleared, and the
poll is formed from the state as it stands (R130, R132, R135, R143). -/
def State.startPoll (s : State) (b : BayNo) : State :=
  { s.setLine b ((s.line b).started) with exchange := some (s.exchangeFor b) }

/-- POLL_START: with the line free, the head of the poll queue is removed and its poll is started (R129, R134). -/
def execPollStart (s : State) : Host.Outcome State Fault Refusal :=
  match s.exchange, s.pollQueue with
  | none, b :: rest => .next ({ s with pollQueue := rest }.startPoll b)
  | _, _ => .next s

/-- POLL_END: the part lowers BL_DE and listens (R129). -/
def execPollEnd (s : State) : Host.Outcome State Fault Refusal :=
  match s.exchange with
  | some x => .next { s with exchange := some { x with listening := true } }
  | none => .next s

/-- BL_DE is high while the part sends a poll (R129). -/
def State.driving (s : State) : Bool :=
  match s.exchange with
  | some x => !x.listening
  | none => false

/-- What the Bay Link carries in one bit time of a byte (R129). The manual gives the start bit and the stop bit no level
(log entry 32). -/
inductive LineBit where
  | start
  | data (value : Bool)
  | stop
  deriving DecidableEq, Repr

/-- A byte on the Bay Link: one start bit, eight data bits least significant bit first, one stop bit (R129, R175,
R179). -/
def lineBits (b : Byte) : List LineBit := .start :: (List.range 8).map (fun k => .data (b.getLsbD k)) ++ [.stop]

/-- The bits of a poll on BL_TX, byte after byte (R129, R179). -/
def Exchange.bitsOut (x : Exchange) : List LineBit := x.frame.flatMap lineBits

/-- What BL_TX carries at a bit time of the poll, the first being 0; `none` while BL_DE is low and the part drives
nothing (R129). -/
def State.blTx (s : State) (time : Nat) : Option LineBit :=
  match s.exchange with
  | some x => if x.listening then none else x.bitsOut[time]?
  | none => none

/-- A valid reply to the exchange: the miss count returns to 0, the telemetry is decoded and the Bay Controller takes
it with the set-point of the answered poll (R139, R140). -/
def State.acceptReply (s : State) (x : Exchange) (bytes : List Byte) : State :=
  (s.setLine x.bay { s.line x.bay with miss := 0 }).takeReply x.bay
    (decodeTelemetry bytes ((s.linkedVehicle? x.bay).map (·.capacity))) x.setPoint

/-- REPLY_RECEIVED: the fourteenth byte ends the exchange, and the reply is judged valid or counted as a miss (R137,
R138). Bytes outside an exchange are noise (R142). -/
def execReplyReceived (bytes : List Byte) (framingError : Bool) (s : State) : Host.Outcome State Fault Refusal :=
  match s.exchange with
  | some x =>
    if x.listening = true ∧ bytes.length = 14 then
      if x.accepts bytes framingError then .next ({ s with exchange := none }.acceptReply x bytes)
      else .next ({ s with exchange := none }.miss x.bay)
    else .next s
  | none => .next s

/-- An exchange the part listens in ends as a miss (R137, R141). -/
def State.endAsMiss (s : State) : State :=
  match s.exchange with
  | some x => if x.listening then { s with exchange := none }.miss x.bay else s
  | none => s

/-- REPLY_START_TIMEOUT: no reply begun within 1 ms of the poll's end, a miss (R137). -/
def execReplyStartTimeout (s : State) : Host.Outcome State Fault Refusal := .next s.endAsMiss

/-- REPLY_INCOMPLETE_TIMEOUT: fewer than fourteen bytes within 1.5 ms, a miss; the bytes take no part (R137). -/
def execReplyIncompleteTimeout (_received : List Byte) (s : State) : Host.Outcome State Fault Refusal :=
  .next s.endAsMiss

/-- LINE_NOISE: bytes outside an exchange are discarded (R142). -/
def execLineNoise (_bytes : List Byte) (s : State) : Host.Outcome State Fault Refusal := .next s

end Sys2Proof.Machine
end

