-- ==== Sys2Proof/Machine/OrderEvents.lean ====
section
/-! DEFINITION. The steps and cuts of orders, and the events of the Request Queue (R71 to R74, R81, R96, R105). -/

namespace Sys2Proof.Machine

/-- ORDER_STEP: the step of a bay's order that is due in this second (R96). A step whose order is gone is not taken. -/
def execOrderStep (b : BayNo) (s : State) : Host.Outcome State Fault Refusal :=
  match s.order b with
  | some o => if (s.bay b).state = .transfer ∧ o.stepDue = true then .next (s.stepOrder b o) else .next s
  | none => .next s

/-- CUT_TIMER_EXPIRY: the set-point becomes 0 and the order ends with its end cause as it stands (R105). -/
def execCutTimerExpiry (b : BayNo) (s : State) : Host.Outcome State Fault Refusal :=
  match s.order b with
  | some o => if (s.bay b).state = .transfer ∧ o.cutTimer = some 0 then .next (s.finishOrder b o) else .next s
  | none => .next s

/-- WINDOW_END: the ACTIVE request, its remaining window 0, becomes ENDING with cause WINDOW (R73). -/
def execWindowEnd (s : State) : Host.Outcome State Fault Refusal :=
  match s.active? with
  | some r => if s.windowOver then .next (s.endRequest r.id .window .windowEnd) else .next s
  | none => .next s

/-- ACTIVATION: the HELD request whose countdown has reached its lead is activated (R72). While a request is ACTIVE
the window end comes first (R71), so nothing is taken. -/
def execActivation (s : State) : Host.Outcome State Fault Refusal :=
  match s.active?, s.dueRequest? with
  | none, some r => .next (s.activate r)
  | _, _ => .next s

/-- ORDER_END_NOTICE: the Request Queue takes the order-end notice at the front of its notices (R74). -/
def execOrderEndNotice (s : State) : Host.Outcome State Fault Refusal :=
  match s.notices with
  | .orderEnd id _ cause energy byTransition :: rest =>
    .next ({ s with notices := rest }.takeOrderEnd id cause energy byTransition)
  | _ => .next s

/-- CHANGE_NOTICE: the Request Queue takes the change notice at the front of its notices (R81). -/
def execChangeNotice (s : State) : Host.Outcome State Fault Refusal :=
  match s.notices with
  | .change _ :: rest => .next { s with notices := rest }.takeChange
  | _ => .next s

end Sys2Proof.Machine
end

