-- ==== Sys2Proof/Machine/TimeEvents.lean ====
section
/-! DEFINITION. POWER_ON_RESET and TIMEBASE_SECOND (R146, R147, R173). -/

namespace Sys2Proof.Machine

open Config

/-- The depot clock after one second (R147). -/
def clockAfter (clock : Nat) : Nat := if clock + 1 < daySeconds then clock + 1 else 0

/-- One second of a bay's timers, and of its isolation interval in export mode (R17, R31). -/
def BayRecord.second (r : BayRecord) : BayRecord :=
  { r with
    stateTimer := countDown r.stateTimer
    settleTimer := countDown r.settleTimer
    releaseTimer := countDown r.releaseTimer
    interval := if r.state.exporting then r.interval + 1 else r.interval }

/-- One second of a bay's fault hold (R121). -/
def FaultSet.second (f : FaultSet) : FaultSet := { f with hold := countDown f.hold }

/-- One second of an order: its cut timer counts, and its step falls due once it has taken its first (R96, R105). -/
def Order.second (o : Order) : Order :=
  { o with cutTimer := countDown o.cutTimer, stepDue := o.phase != .waitBind }

/-- The poll class periods by bay state: FAST 1 s, SLOW 5 s, SCAN 30 s (R135). So the part polls a bay in TRANSFER every
second and every other bay at least every 30 s, as R145 says of it (`BayRecord.period_transfer`, `BayRecord.period_le`). -/
def BayRecord.period (r : BayRecord) : Nat :=
  match r.state with
  | .binding | .transfer | .checking | .releasing => 1
  | .detected | .parked | .bound | .cooldown => 5
  | .empty => 30
  | .fault => if r.releasePending then 1 else 5
  | .outOfService => if r.releasePending then 1 else 30

/-- One second of a bay's poll-class timer: the join falls due when the count has reached the period of the present
class (R135). -/
def LineRecord.second (l : LineRecord) (period : Nat) : LineRecord :=
  { l with classTimer := l.classTimer + 1, periodDue := period ≤ l.classTimer + 1 }

/-- Every countdown and timer of the blocks advances by one second (R146). -/
def State.advanceTimers (s : State) : State :=
  { s with
    uptime := s.uptime + 1
    clock := clockAfter s.clock
    bays := mapBank BayRecord.second s.bays
    faults := mapBank FaultSet.second s.faults
    orders := mapBank (·.map Order.second) s.orders
    lines := Vector.ofFn fun b => s.lines[b].second s.bays[b].period
    queue := s.queue.map Request.second }

/-- The departure guards of all bays, while the clock is valid (R35). -/
def State.evaluateGuards (s : State) : State :=
  if s.clockValid then allBays.foldl State.evaluateGuard s else s

/-- The newly-eligible test of the second event, made unless the window has just ended (R71, R76). -/
def State.secondTest (s : State) : State := if s.windowOver then s else s.newlyEligible

/-- POWER_ON_RESET: every block takes its power-on values, and a transaction in progress is forgotten (R173). The
commands that wait are the sender's and stay. -/
def execPowerOnReset (s : State) : Host.Outcome State Fault Refusal :=
  .next { State.reset with pending := s.pending }

/-- TIMEBASE_SECOND: clock, uptime, countdowns and timers advance; then the newly-eligible test and the departure
guards (R35, R71, R76, R146, R147). The expiries are steps of their own. -/
def execTimebaseSecond (s : State) : Host.Outcome State Fault Refusal :=
  .next s.advanceTimers.secondTest.evaluateGuards

end Sys2Proof.Machine
end

