-- ==== Sys2Proof/Machine/Dispatch.lean ====
section
/-! DEFINITION. Each command's meaning. -/

namespace Sys2Proof.Machine

def exec (i : Instr) (s : State) : Host.Outcome State Fault Refusal :=
  match i with
  | .powerOnReset => Sys2Proof.Machine.execPowerOnReset s
  | .timebaseSecond => Sys2Proof.Machine.execTimebaseSecond s
  | .checkDue b => Sys2Proof.Machine.execCheckDue b s
  | .deferralLimit b => Sys2Proof.Machine.execDeferralLimit b s
  | .activation => Sys2Proof.Machine.execActivation s
  | .windowEnd => Sys2Proof.Machine.execWindowEnd s
  | .orderStep b => Sys2Proof.Machine.execOrderStep b s
  | .orderEndNotice => Sys2Proof.Machine.execOrderEndNotice s
  | .changeNotice => Sys2Proof.Machine.execChangeNotice s
  | .cutTimerExpiry b => Sys2Proof.Machine.execCutTimerExpiry b s
  | .bindingTimerExpiry b => Sys2Proof.Machine.execBindingTimerExpiry b s
  | .settleExpiry b => Sys2Proof.Machine.execSettleExpiry b s
  | .cooldownExpiry b => Sys2Proof.Machine.execCooldownExpiry b s
  | .checkTimerExpiry b => Sys2Proof.Machine.execCheckTimerExpiry b s
  | .releaseTimerExpiry b => Sys2Proof.Machine.execReleaseTimerExpiry b s
  | .holdExpiry b => Sys2Proof.Machine.execHoldExpiry b s
  | .pollClassPeriod b => Sys2Proof.Machine.execPollClassPeriod b s
  | .pollStart => Sys2Proof.Machine.execPollStart s
  | .replyReceived bytes framingError => Sys2Proof.Machine.execReplyReceived bytes framingError s
  | .replyStartTimeout => Sys2Proof.Machine.execReplyStartTimeout s
  | .replyIncompleteTimeout received => Sys2Proof.Machine.execReplyIncompleteTimeout received s
  | .lineNoise bytes => Sys2Proof.Machine.execLineNoise bytes s
  | .transactionStart p => Sys2Proof.Machine.execTransactionStart p s
  | .frameEnd p mosi bits => Sys2Proof.Machine.execFrameEnd p mosi bits s
  | .commandCompletion p => Sys2Proof.Machine.execCommandCompletion p s
  | .nop p => Sys2Proof.Machine.execNop p s
  | .readEvents p => Sys2Proof.Machine.execReadEvents p s
  | .setEventMask p mask => Sys2Proof.Machine.execSetEventMask p mask s
  | .ackReset p => Sys2Proof.Machine.execAckReset p s
  | .trip p => Sys2Proof.Machine.execTrip p s
  | .readClock p => Sys2Proof.Machine.execReadClock p s
  | .readSite p => Sys2Proof.Machine.execReadSite p s
  | .readDevice p => Sys2Proof.Machine.execReadDevice p s
  | .readProfile p index => Sys2Proof.Machine.execReadProfile p index s
  | .readRequest p id => Sys2Proof.Machine.execReadRequest p id s
  | .readResult p => Sys2Proof.Machine.execReadResult p s
  | .readVehicle p number => Sys2Proof.Machine.execReadVehicle p number s
  | .readBay p bay => Sys2Proof.Machine.execReadBay p bay s
  | .setClock second => Sys2Proof.Machine.execSetClock second s
  | .loadProfile index ps lead bands => Sys2Proof.Machine.execLoadProfile index ps lead bands s
  | .submitRequest id start length power profile release => Sys2Proof.Machine.execSubmitRequest id start length power profile release s
  | .retarget id power => Sys2Proof.Machine.execRetarget id power s
  | .curtail id => Sys2Proof.Machine.execCurtail id s
  | .cancel id => Sys2Proof.Machine.execCancel id s
  | .setSite limit eta guard hold tcz tcf thf thz tmax => Sys2Proof.Machine.execSetSite limit eta guard hold tcz tcf thf thz tmax s
  | .setFaultPolicy linkLost precharge tracking overTemp bayReported detect => Sys2Proof.Machine.execSetFaultPolicy linkLost precharge tracking overTemp bayReported detect s
  | .enrollVehicle number capacity floor pChg pDis consent => Sys2Proof.Machine.execEnrollVehicle number capacity floor pChg pDis consent s
  | .setDeparture number form minute qDep => Sys2Proof.Machine.execSetDeparture number form minute qDep s
  | .withdrawVehicle number => Sys2Proof.Machine.execWithdrawVehicle number s
  | .readRoster start count => Sys2Proof.Machine.execReadRoster start count s
  | .setBay bay cap => Sys2Proof.Machine.execSetBay bay cap s
  | .releaseBay bay => Sys2Proof.Machine.execReleaseBay bay s
  | .takeBayOut bay => Sys2Proof.Machine.execTakeBayOut bay s
  | .restoreBay bay => Sys2Proof.Machine.execRestoreBay bay s
  | .start => Sys2Proof.Machine.execStart s
  | .resume => Sys2Proof.Machine.execResume s
  | .resetDevice => Sys2Proof.Machine.execResetDevice s
  | .pollEnd => Sys2Proof.Machine.execPollEnd s

end Sys2Proof.Machine
end

