-- ==== Sys2Proof/Safety.lean ====
section
/-! DEFINITION. What statements about the part say: which parts of the state an operation leaves alone, and the
invariants that the rules give the state. -/

namespace Sys2Proof.Machine

open Config

/-! ### Frames -/

/-- The parts of the state: one for each field of `State`, and a port's event flags apart from the rest of the port. -/
inductive Part where
  | pending
  | device
  | clock
  | clockValid
  | uptime
  | site
  | siteValid
  | roster
  | bays
  | faults
  | policy
  | orders
  | profiles
  | queue
  | lastResult
  | notices
  | lines
  | pollQueue
  | exchange
  | grid
  | gridFlags
  | fleet
  | fleetFlags
  | changeSet
  deriving DecidableEq, Repr

/-- Two states agree on a part. -/
def State.agrees (s t : State) : Part → Prop
  | .pending => t.pending = s.pending
  | .device => t.device = s.device
  | .clock => t.clock = s.clock
  | .clockValid => t.clockValid = s.clockValid
  | .uptime => t.uptime = s.uptime
  | .site => t.site = s.site
  | .siteValid => t.siteValid = s.siteValid
  | .roster => t.roster = s.roster
  | .bays => t.bays = s.bays
  | .faults => t.faults = s.faults
  | .policy => t.policy = s.policy
  | .orders => t.orders = s.orders
  | .profiles => t.profiles = s.profiles
  | .queue => t.queue = s.queue
  | .lastResult => t.lastResult = s.lastResult
  | .notices => t.notices = s.notices
  | .lines => t.lines = s.lines
  | .pollQueue => t.pollQueue = s.pollQueue
  | .exchange => t.exchange = s.exchange
  | .grid => t.grid = { s.grid with flags := t.grid.flags }
  | .gridFlags => t.grid.flags = s.grid.flags
  | .fleet => t.fleet = { s.fleet with flags := t.fleet.flags }
  | .fleetFlags => t.fleet.flags = s.fleet.flags
  | .changeSet => t.changeSet = s.changeSet

/-- Nothing differs from `s` to `t` outside the listed parts. -/
def State.sameBut (s t : State) (parts : List Part) : Prop := ∀ p, p ∉ parts → s.agrees t p

/-- Every bay but `b` keeps its record, its fault set and its order slot. -/
def State.otherBays (s t : State) (b : BayNo) : Prop :=
  ∀ b', b' ≠ b → t.bay b' = s.bay b' ∧ t.faultSet b' = s.faultSet b' ∧ t.order b' = s.order b'

/-- A port is as it was, apart from the event flags given and its progress. -/
def PortState.raised (x : PortState) (flags : BitVec 8) (progress : Progress) : PortState :=
  { x with flags := x.flags ||| flags, progress := progress }

/-- The commands that read a record (R14, R15, R43, R80, R92, R157). -/
def isRead : Instr → Bool
  | .readClock _ | .readSite _ | .readDevice _ | .readProfile _ _ | .readRequest _ _ | .readResult _
  | .readVehicle _ _ | .readBay _ _ | .readRoster _ _ => true
  | .powerOnReset | .timebaseSecond | .checkDue _ | .deferralLimit _ | .activation | .windowEnd | .orderStep _
  | .orderEndNotice | .changeNotice | .cutTimerExpiry _ | .bindingTimerExpiry _ | .settleExpiry _
  | .cooldownExpiry _ | .checkTimerExpiry _ | .releaseTimerExpiry _ | .holdExpiry _ | .pollClassPeriod _
  | .pollStart | .replyReceived _ _ | .replyStartTimeout | .replyIncompleteTimeout _ | .lineNoise _
  | .transactionStart _ | .frameEnd _ _ _ | .commandCompletion _ | .pollEnd | .nop _ | .readEvents _
  | .setEventMask _ _ | .ackReset _ | .trip _ | .setClock _ | .loadProfile _ _ _ _ | .submitRequest _ _ _ _ _ _
  | .retarget _ _ | .curtail _ | .cancel _ | .setSite _ _ _ _ _ _ _ _ _ | .setFaultPolicy _ _ _ _ _ _
  | .enrollVehicle _ _ _ _ _ _ | .setDeparture _ _ _ _ | .withdrawVehicle _ | .setBay _ _ | .releaseBay _
  | .takeBayOut _ | .restoreBay _ | .start | .resume | .resetDevice => false

/-- A port has handed a command to its owning block, which has not yet carried it out (R162, R165). -/
def State.handed (s : State) (p : Port) (c : Instr) : Prop := (s.port p).progress = .handed c

/-- A port in the transaction `tr`, clocked in with `mosi`, has the whole frame `f` at CS's rise (R160). -/
def State.frameAtRise (s : State) (p : Port) (tr : Transaction) (mosi f : List Byte) : Prop :=
  (s.port p).transaction = some tr ∧ f = (s.port p).frameBuffer ++ mosi

/-- The bits of a byte as MISO sends them, most significant bit first (R159). -/
def bitsOf (b : Byte) : List Bool :=
  [b.getLsbD 7, b.getLsbD 6, b.getLsbD 5, b.getLsbD 4, b.getLsbD 3, b.getLsbD 2, b.getLsbD 1, b.getLsbD 0]

/-- The bytes a snapshot shifts out, with so many zeros after them: status byte, reply length, reply (R159, R176). -/
def Snapshot.bytes (x : Snapshot) (zeros : Nat) : List Byte :=
  x.status :: BitVec.ofNat 8 x.reply.length :: x.reply ++ List.replicate zeros 0

/-- A port after a transaction that took no command: the transaction ended, the frame buffer empty, MISO clocked out for
every clock of the complete bytes and of the partial one, everything else as it was (R159, R160, R161). -/
def PortState.untaken (x : PortState) (tr : Transaction) (mosi : List Byte) (bits : Nat) : PortState :=
  { x with
    transaction := none, frameBuffer := [], overflow := false,
    miso := ((tr.snapshot.bytes (mosi.length + bits)).flatMap bitsOf).take (8 * mosi.length + bits) }

/-! ### Transitions of a bay that many commands share -/

/-- From `s` to `t` the bay was released (R29): RELEASING, its timers stopped, check due clear, a release pending with
its 10 s timer, its release timed out flag clear, the bay waiting in the poll queue and marked with BAY_CHANGE. -/
def State.bayReleased (s t : State) (b : BayNo) : Prop :=
  t.bay b = { s.bay b with
    state := .releasing, candidate := none, stateTimer := none, settleTimer := none, checkDue := false,
    releasePending := true, releaseTimer := some 10 }
  ∧ (t.faultSet b).releaseTimedOut = false
  ∧ b ∈ t.pollQueue
  ∧ t.changeSet = s.changeSet ||| BitVec.twoPow 16 b.val

/-- From `s` to `t` the order `o` of a bay in TRANSFER ended, not abruptly (R28, R101, R105, R110): its slot is empty,
its set-point 0, its notice handed with its end cause and delivered energy, its bay in the poll queue and in the first
state of R28 whose condition holds; nothing else changed. -/
def State.orderEnded (s t : State) (b : BayNo) (o : Order) : Prop :=
  t.order b = none
  ∧ t.setPoint b = 0
  ∧ t.notices = s.notices ++ [.orderEnd o.request b o.endCause o.delivered false]
  ∧ b ∈ t.pollQueue
  ∧ ((s.bay b).link = none ∨ s.releaseOnEnd o.request = true ∨ o.releaseAtEnd = true → s.bayReleased t b)
  ∧ (¬((s.bay b).link = none ∨ s.releaseOnEnd o.request = true ∨ o.releaseAtEnd = true) →
      ((o.endCause = some .isolationDue ∨ (s.bay b).checkDue = true) →
        t.bay b = { s.bay b with state := .checking, candidate := none, checkDue := false, stateTimer := some 15 })
      ∧ (¬(o.endCause = some .isolationDue ∨ (s.bay b).checkDue = true) →
        t.bay b = { s.bay b with state := .bound, candidate := none }))
  ∧ (t.faultSet b).tracking = 0
  ∧ t.changeSet = s.changeSet ||| BitVec.twoPow 16 b.val
  ∧ t.fleet = { s.fleet with flags := s.fleet.flags ||| 0x01#8 }
  ∧ s.otherBays t b
  ∧ s.sameBut t [.bays, .faults, .orders, .notices, .pollQueue, .fleetFlags, .changeSet]

/-- The parts a re-split, an activation or the end of a request can write. -/
def requestWrites : List Part :=
  [.queue, .lastResult, .notices, .bays, .faults, .orders, .pollQueue, .fleetFlags, .changeSet, .gridFlags]

/-- From `s` to `t` a participant's bay with an empty slot received an order of a request with a target and a quota, by
the bay's state (R25, R94, R97): PARKED is bound, BOUND waits for its settle timer or takes its first step. The set-point
of a first step is the least of the floor level, the effective cap, the quota and the site headroom, in which the bays
whose orders were created earlier in the event stand as `t` has them (R97, R102). -/
def State.orderCreated (s t : State) (b : BayNo) (id target quota ps : Nat) (earlier : List BayNo) : Prop :=
  let q := min 16777215 quota
  let others := ((allBays.filter (· ≠ b)).map fun c => if c ∈ earlier then t.setPoint c else s.setPoint c).sum
  let sp := min ps (min (s.bay b).capEff (min q (s.site.limit - others)))
  ((s.bay b).state = .parked →
    t.bay b = { s.bay b with state := .binding, candidate := none, stateTimer := some 20 }
    ∧ t.order b = some ⟨id, target, q, 0, 0, .waitBind, none, false, none, false⟩
    ∧ b ∈ t.pollQueue)
  ∧ ((s.bay b).state = .bound → (s.bay b).settleTimer ≠ none →
    t.bay b = s.bay b ∧ t.order b = some ⟨id, target, q, 0, 0, .waitBind, none, false, none, false⟩)
  ∧ ((s.bay b).state = .bound → (s.bay b).settleTimer = none →
    t.bay b = { s.bay b with state := .transfer, candidate := none }
    ∧ b ∈ t.pollQueue
    ∧ t.order b = some ⟨id, target, q, sp, sp, if sp = target then .hold else .rise, none, false, none, false⟩)

/-- The order-end notices of the WAIT_BIND orders of a request on bays outside a participant list, removed with a cause of
the Request Queue (R74, R108), by ascending bay (log entry 25). -/
def State.removalNotices (s : State) (id : Nat) (list : List Participant) (cause : EndCause) : List Notice :=
  allBays.filterMap fun b =>
    match s.order b with
    | some o =>
      if o.request = id ∧ o.phase = .waitBind ∧ ∀ e ∈ list, e.bay ≠ b then
        some (.orderEnd id b (some cause) o.delivered false)
      else none
    | none => none

/-- From `s` to `t` the orders of a request were brought into line with a new participant list over a remaining window
(R83, R94, R103, R104, R108): each bay by its order and by its entry in the list, and the notices of the removed orders
behind those that wait. -/
def State.ordersAligned (s t : State) (id remaining ps : Nat) (list : List Participant) : Prop :=
  t.notices = s.notices ++ s.removalNotices id list .resplit
  ∧ ∀ b,
    (s.order b = none → (∀ e ∈ list, e.bay ≠ b) → t.order b = none ∧ t.bay b = s.bay b)
    ∧ (s.order b = none → ∀ front e back, list = front ++ e :: back → e.bay = b →
      s.orderCreated t b id e.target (e.target * remaining) ps (front.map (·.bay)))
    ∧ ∀ o, s.order b = some o →
      (o.request ≠ id ∨ o.phase = .decline → t.order b = some o ∧ t.bay b = s.bay b)
      ∧ (o.request = id → o.phase ≠ .decline → ∀ e ∈ list, e.bay = b →
        t.bay b = s.bay b
        ∧ t.order b = some { o with
            target := e.target
            quota := min 16777215 (o.delivered + e.target * remaining)
            phase := if o.phase = .waitBind then .waitBind
              else if o.level < e.target then .rise else if o.level = e.target then .hold else .lower })
      ∧ (o.request = id → o.phase ≠ .decline → o.phase ≠ .waitBind → (∀ e ∈ list, e.bay ≠ b) →
        t.bay b = s.bay b ∧ t.order b = some { o with phase := .decline, endCause := some .resplit })
      ∧ (o.request = id → o.phase = .waitBind → (∀ e ∈ list, e.bay ≠ b) →
        let released : Prop := (s.bay b).state = .binding ∨ (s.bay b).link = none ∨ s.releaseOnEnd id = true
        t.order b = none ∧ b ∈ t.pollQueue ∧ .orderEnd id b (some .resplit) o.delivered false ∈ t.notices
        ∧ ((s.bay b).state = .binding ∨ (s.bay b).state = .bound →
          (released → (t.bay b).state = .releasing ∧ (t.bay b).releasePending = true
            ∧ (t.bay b).releaseTimer = some 10)
          ∧ (¬released → t.bay b = s.bay b)))

/-- From `s` to `t` every order of a request took a cause of the Request Queue (R73, R77, R78, R104, R108): running
orders decline with their first cause, WAIT_BIND orders are removed, other bays stay as they were. -/
def State.ordersTakeCause (s t : State) (id : Nat) (cause : EndCause) : Prop :=
  ∀ b,
    (s.order b = none → t.order b = none ∧ t.bay b = s.bay b)
    ∧ ∀ o, s.order b = some o →
      (o.request ≠ id → t.order b = some o ∧ t.bay b = s.bay b)
      ∧ (o.request = id → o.phase ≠ .waitBind →
        t.bay b = s.bay b
        ∧ t.order b = some { o with
            phase := .decline, endCause := if o.phase = .decline then o.endCause else some cause })
      ∧ (o.request = id → o.phase = .waitBind →
        t.order b = none
        ∧ ((s.bay b).state = .binding → (t.bay b).state = .releasing ∧ b ∈ t.pollQueue)
        ∧ ((s.bay b).state = .bound →
          (t.bay b).state = if (s.bay b).link = none ∨ s.releaseOnEnd id = true then .releasing else .bound))

/-- Whether a request has a running order; a WAIT_BIND order is none (R95). -/
def State.runs (s : State) (id : Nat) : Prop := ∃ b o, s.order b = some o ∧ o.request = id ∧ o.phase ≠ .waitBind

/-- From `s` to `t` the ENDING request `r` left the queue with a cause and a delivered total (R68, R75). -/
def State.requestLeft (s t : State) (r : Request) (cause : RequestCause) (delivered : Nat) : Prop :=
  t.queue = s.queue.filter (fun q => q.id != r.id)
  ∧ t.lastResult = some ⟨r.id, cause, r.submitted, delivered, r.submitted * r.length - delivered⟩
  ∧ t.grid.flags = s.grid.flags ||| 0x04#8

/-- From `s` to `t` a vehicle without a bay link and with a consent was offered to the waiting bays (R7): the
lowest-numbered PARKED unlinked bay that reported its number is linked, and no other bay changes. -/
def State.waitingLinked (s t : State) (number capacity pDis : Nat) (consent : Bool) (link : Option BayNo) : Prop :=
  let waits (b : BayNo) : Prop :=
    (s.bay b).state = .parked ∧ (s.bay b).link = none ∧ (s.bay b).tele.vehicle = number
  (consent = true ∧ (∃ b, waits b) → ∃ b, waits b ∧ (∀ b', waits b' → b ≤ b') ∧ link = some b
      ∧ (∃ cap, t.bay b = { s.bay b with
          link := some number, guardArmed := true, tempCap := cap, capEff := min (s.bay b).ratedCap (min pDis cap)
          tele := { (s.bay b).tele with energy := min (s.bay b).tele.energy capacity } }
        ∧ cap = if s.siteValid then derate s.site (s.bay b).ratedCap (s.bay b).tele.temp else 0)
      ∧ (∀ b', b' ≠ b → t.bay b' = s.bay b')
      ∧ t.changeSet = s.changeSet ||| BitVec.twoPow 16 b.val
      ∧ t.fleet.flags = s.fleet.flags ||| 0x01#8)
  ∧ (¬(consent = true ∧ ∃ b, waits b) → link = none ∧ t.bays = s.bays ∧ t.changeSet = s.changeSet
      ∧ t.fleet.flags = s.fleet.flags)

/-- From `s` to `t` the bay's vehicle was unlinked (R12): effective cap 0, guard disarmed, the bay marked, and by its
state it is released, its order declines with release at its end, or it stays; a roster-change notice is handed last. -/
def State.vehicleUnlinked (s t : State) (b : BayNo) : Prop :=
  (t.bay b).link = none ∧ (t.bay b).capEff = 0 ∧ (t.bay b).guardArmed = false
  ∧ (t.bay b).tele = (s.bay b).tele ∧ (t.bay b).ratedCap = (s.bay b).ratedCap
  ∧ t.changeSet = s.changeSet ||| BitVec.twoPow 16 b.val ∧ t.fleet.flags = s.fleet.flags ||| 0x01#8
  ∧ ((s.bay b).state = .binding ∨ (s.bay b).state = .bound ∨ (s.bay b).state = .checking →
    (t.bay b).state = .releasing ∧ (t.bay b).releasePending = true ∧ (t.bay b).releaseTimer = some 10
    ∧ (t.bay b).stateTimer = none ∧ (t.bay b).settleTimer = none ∧ (t.bay b).checkDue = false ∧ b ∈ t.pollQueue
    ∧ t.order b = none
    ∧ t.notices = s.notices ++ (match s.order b with
        | some o => [.orderEnd o.request b (some .withdrawn) o.delivered false]
        | none => []) ++ [.change .roster])
  ∧ ((s.bay b).state = .transfer → (t.bay b).state = .transfer ∧ t.notices = s.notices ++ [.change .roster]
    ∧ ∀ o, s.order b = some o → o.phase ≠ .waitBind → t.order b = some { o with
        phase := .decline, releaseAtEnd := true
        endCause := if o.phase = .decline then o.endCause else some .withdrawn })
  ∧ ((s.bay b).state = .parked ∨ (s.bay b).state = .releasing ∨ (s.bay b).state = .cooldown
      ∨ (s.bay b).state = .fault ∨ (s.bay b).state = .outOfService →
    (t.bay b).state = (s.bay b).state ∧ (t.bay b).stateTimer = (s.bay b).stateTimer
    ∧ (t.bay b).releasePending = (s.bay b).releasePending ∧ (t.bay b).releaseTimer = (s.bay b).releaseTimer
    ∧ t.faultSet b = s.faultSet b ∧ t.order b = s.order b ∧ t.notices = s.notices ++ [.change .roster])
  ∧ s.otherBays t b

/-- From `s` to `t` the bay entered PARKED and its link was tested (R21, R36): a link is kept; an enrolled, consenting,
unlinked number of its last reply is linked with caps, energy and guard; any other leaves it unlinked with
VEHICLE_UNKNOWN. The last telemetry is that of `t`. -/
def State.parkedLink (s t : State) (b : BayNo) : Prop :=
  let number := (t.bay b).tele.vehicle
  (∀ n, (s.bay b).link = some n → (t.bay b).link = some n ∧ t.roster = s.roster
    ∧ t.fleet.flags = s.fleet.flags ||| 0x01#8)
  ∧ ((s.bay b).link = none → ∀ v, s.vehicle? number = some v → v.consent = true → v.bayLink = none →
    (t.bay b).link = some number ∧ (t.bay b).guardArmed = true ∧ (t.bay b).tele.energy ≤ v.capacity
    ∧ (t.bay b).capEff = min (t.bay b).ratedCap (min v.pDis (t.bay b).tempCap)
    ∧ t.linkedVehicle? b = some { v with bayLink := some b } ∧ t.fleet.flags = s.fleet.flags ||| 0x01#8)
  ∧ ((s.bay b).link = none → (∀ v, s.vehicle? number = some v → v.consent = false ∨ v.bayLink ≠ none) →
    (t.bay b).link = none ∧ t.roster = s.roster ∧ t.fleet.flags = s.fleet.flags ||| 0x11#8)

/-- From `u` to `t` the departure guards of a timebase second were evaluated (R35, R36, R104): each bay's guard acts by
the bay's state, is armed again, or is left alone; none is evaluated while the clock is not valid. -/
def State.guardsTaken (u t : State) : Prop :=
  ∀ b,
    (u.clockValid = false ∨ (∀ v, u.linkedVehicle? b = some v → v.departure = none) →
      t.bay b = u.bay b ∧ t.order b = u.order b ∧ t.faultSet b = u.faultSet b)
    ∧ ∀ v, u.linkedVehicle? b = some v → ∀ d, v.departure = some d → u.clockValid = true →
      let left : Int := ((d.minute : Int) * 60 - (u.clock : Int)) % 86400
      (u.site.guard < left → t.bay b = { u.bay b with guardArmed := true } ∧ t.order b = u.order b
        ∧ t.faultSet b = u.faultSet b)
      ∧ (left ≤ u.site.guard → (u.bay b).guardArmed = false → t.bay b = u.bay b ∧ t.order b = u.order b
        ∧ t.faultSet b = u.faultSet b)
      ∧ (left ≤ u.site.guard → (u.bay b).guardArmed = true →
        t.fleet.flags.getLsbD 3 = true ∧ t.fleet.flags.getLsbD 0 = true ∧ t.changeSet.getLsbD b.val = true
        ∧ ((u.bay b).state = .binding ∨ (u.bay b).state = .bound ∨ (u.bay b).state = .checking →
          t.order b = none ∧ b ∈ t.pollQueue ∧ t.faultSet b = { u.faultSet b with releaseTimedOut := false }
          ∧ t.bay b = { u.bay b with
              state := .releasing, candidate := none, stateTimer := none, settleTimer := none, checkDue := false
              releasePending := true, releaseTimer := some 10, guardArmed := false })
        ∧ ((u.bay b).state = .transfer → t.bay b = { u.bay b with guardArmed := false } ∧ t.faultSet b = u.faultSet b
          ∧ ∀ o, u.order b = some o → o.phase ≠ .waitBind → t.order b = some { o with
              phase := .decline, releaseAtEnd := true
              endCause := if o.phase = .decline then o.endCause else some .departureGuard
              cutTimer := if o.cutTimer = none then some 60 else o.cutTimer })
        ∧ ((u.bay b).state.engaged = false →
          t.bay b = { u.bay b with guardArmed := false } ∧ t.order b = u.order b ∧ t.faultSet b = u.faultSet b))

/-- The fourteen bytes are a valid reply to the exchange the part listens in (R137, R138). -/
def State.validReply (s : State) (x : Exchange) (bytes : List Byte) : Prop :=
  s.exchange = some x ∧ x.listening = true ∧ bytes.length = 14 ∧ crc8 (bytes.take 13) = byteAt bytes 13
  ∧ (byteAt bytes 0).toNat = 16 * x.bay.val + x.seq.toNat

/-- The history an entry into FAULT leaves: with a cause that counts, the stamps of the last hour and the present uptime
(R124). -/
def State.historyWith (s : State) (b : BayNo) (causes : List FaultKind) : List Stamp :=
  if causes.any s.policy.counts then
    (s.faultSet b).history.filter (fun t => (s.uptime - t).toNat ≤ 3600) ++ [s.uptime]
  else (s.faultSet b).history

/-- From `s` to `t` the bay entered FAULT for a first cause alone, or went on to OUT_OF_SERVICE with its third history
entry (R117, R118, R121, R124): record, order end, timers, release pending, hold, history, events and notices. -/
def State.faultEntered (s t : State) (b : BayNo) (kind : FaultKind) : Prop :=
  let out : Prop := s.policy.counts kind = true ∧ 3 ≤ (s.historyWith b [kind]).length
  let leaving : Prop := (s.bay b).state = .binding ∨ (s.bay b).state.exporting = true
  (t.faultSet b).record = ⟨.opened, some kind, [], s.uptime, 0⟩
  ∧ (t.faultSet b).history = s.historyWith b [kind]
  ∧ (out → (t.bay b).state = .outOfService ∧ (t.faultSet b).hold = none)
  ∧ (¬out → (t.bay b).state = .fault ∧ (t.faultSet b).hold = some s.site.hold)
  ∧ t.order b = none
  ∧ ((t.bay b).stateTimer = none ∧ (t.bay b).settleTimer = none ∧ (t.bay b).checkDue = false)
  ∧ ((t.bay b).link = (s.bay b).link ∧ (t.bay b).tele = (s.bay b).tele ∧ (t.bay b).capEff = (s.bay b).capEff)
  ∧ (leaving → (t.bay b).releasePending = true ∧ (t.bay b).releaseTimer = some 10 ∧ b ∈ t.pollQueue
      ∧ (t.faultSet b).releaseTimedOut = false)
  ∧ (¬leaving → (t.bay b).releasePending = (s.bay b).releasePending
      ∧ (t.bay b).releaseTimer = (s.bay b).releaseTimer)
  ∧ t.changeSet = s.changeSet ||| BitVec.twoPow 16 b.val
  ∧ (out → t.fleet = { s.fleet with flags := s.fleet.flags ||| 0x07#8 })
  ∧ (¬out → t.fleet = { s.fleet with flags := s.fleet.flags ||| 0x03#8 })
  ∧ (s.order b = none → t.notices = s.notices ++ [.change .bay])
  ∧ (∀ o, s.order b = some o → t.notices = s.notices
      ++ [.orderEnd o.request b
            (some (if o.phase = .waitBind ∧ kind = .prechargeTimeout then .bindFailure else .fault)) o.delivered true,
          .change .bay])
  ∧ s.otherBays t b

/-- From `s` to `t` a valid reply took the bay to FAULT with its causes, the first of them first, or went on to
OUT_OF_SERVICE with its third history entry (R114, R117, R118, R124): record, history, hold, order end, timers, events and
notices. -/
def State.faultByReply (s t : State) (b : BayNo) (causes : List FaultKind) : Prop :=
  let out : Prop := (∃ k ∈ causes, s.policy.counts k = true) ∧ 3 ≤ (s.historyWith b causes).length
  (t.faultSet b).record = ⟨.opened, causes.head?, causes.tail, s.uptime, 0⟩
  ∧ (t.faultSet b).history = s.historyWith b causes
  ∧ (out → (t.bay b).state = .outOfService ∧ (t.faultSet b).hold = none ∧ t.fleet.flags.getLsbD 2 = true)
  ∧ (¬out → (t.bay b).state = .fault ∧ (t.faultSet b).hold = some s.site.hold)
  ∧ t.order b = none
  ∧ ((t.bay b).stateTimer = none ∧ (t.bay b).settleTimer = none ∧ (t.bay b).checkDue = false)
  ∧ t.fleet.flags.getLsbD 0 = true ∧ t.fleet.flags.getLsbD 1 = true
  ∧ t.changeSet = s.changeSet ||| BitVec.twoPow 16 b.val
  ∧ t.notices = s.notices ++ (match s.order b with
      | some o => [.orderEnd o.request b (some .fault) o.delivered true]
      | none => []) ++ [.change .bay]

/-- The kinds among the causes that a fault record does not hold yet, neither as first cause nor as a later one (R114,
R118). -/
def FaultRecord.fresh (x : FaultRecord) (causes : List FaultKind) : List FaultKind :=
  causes.filter fun k => decide (x.first ≠ some k ∧ k ∉ x.later)

/-- A fault record with fresh kinds appended to its later causes, of which it holds at most four (R118). -/
def FaultRecord.withFresh (x : FaultRecord) (kinds : List FaultKind) : FaultRecord :=
  { x with later := x.later ++ kinds.take (4 - x.later.length) }

/-! ### Invariants -/

/-- The set-points of all bays together are within the site export limit (R102). -/
def State.withinSiteLimit (s : State) : Prop := s.totalSetPoint ≤ s.site.limit

/-- No order has delivered more than its quota, and quotas are energy quantities (R93, R102). -/
def State.withinQuotas (s : State) : Prop :=
  ∀ b o, s.order b = some o → o.delivered ≤ o.quota ∧ o.quota ≤ energyMax

/-- The roster holds at most 48 records of distinct numbers, a record names a bay exactly when the bay names the
record's vehicle, and every linked number is enrolled (R1, R3). -/
def State.linksAgree (s : State) : Prop :=
  s.roster.length ≤ 48
  ∧ (s.roster.map (·.number)).Nodup
  ∧ (∀ v ∈ s.roster, ∀ b, v.bayLink = some b ↔ (s.bay b).link = some v.number)
  ∧ ∀ b n, (s.bay b).link = some n → ∃ v ∈ s.roster, v.number = n

/-- The queue holds at most four requests of distinct IDs, at most one of them ACTIVE (R65). -/
def State.queueSound (s : State) : Prop :=
  s.queue.length ≤ 4
  ∧ (s.queue.map (·.id)).Nodup
  ∧ (s.queue.filter Request.isActive).length ≤ 1

/-- Outside RUN the queue is empty and no bay is in BINDING, BOUND, TRANSFER or CHECKING (R150). -/
def State.idleOutsideRun (s : State) : Prop :=
  s.device ≠ .run → s.queue = [] ∧ ∀ b, (s.bay b).state.engaged = false

/-- An order stands only on a bay in BINDING or in export mode (R18, R93). -/
def State.ordersEngaged (s : State) : Prop := ∀ b o, s.order b = some o → (s.bay b).state.engaged = true

/-- Each bay holds the order its state asks for (R18, R93, R95): BINDING one in WAIT_BIND, BOUND none or one in WAIT_BIND
while its settle timer runs, TRANSFER exactly one that has taken its first step, every other state none. -/
def State.ordersPlaced (s : State) : Prop :=
  ∀ b,
    ((s.bay b).state = .binding → ∃ o, s.order b = some o ∧ o.phase = .waitBind)
    ∧ ((s.bay b).state = .bound → ∀ o, s.order b = some o → o.phase = .waitBind ∧ (s.bay b).settleTimer ≠ none)
    ∧ ((s.bay b).state = .transfer → ∃ o, s.order b = some o ∧ o.phase ≠ .waitBind)
    ∧ ((s.bay b).state ≠ .binding → (s.bay b).state ≠ .bound → (s.bay b).state ≠ .transfer → s.order b = none)

/-- No bay waits twice in the poll queue (R134). -/
def State.pollQueueSound (s : State) : Prop := s.pollQueue.Nodup ∧ s.pollQueue.length ≤ 16

/-- The clock is a second of the day, the site settings are in their ranges, RUN and HALTED have valid settings and a
valid clock, and a marked change set goes with BAY_CHANGE (R147, R151, R154, R168). -/
def State.controlsSound (s : State) : Prop :=
  s.clock < daySeconds
  ∧ s.site.valid = true
  ∧ (s.device ≠ .config → s.siteValid = true ∧ s.clockValid = true)
  ∧ (s.changeSet ≠ 0 → s.fleet.flags &&& fleetBit .bayChange ≠ 0)

end Sys2Proof.Machine
end

