-- ==== Sys2Proof/Certificates/Slice0/Obligations.lean ====
section
/-! DEFINITION. Statements about the EB16, taken from the manual's numbered rules. A command's reply waits at its port
as `done` until COMMAND_COMPLETION. -/

open Sys2Proof Sys2Proof.Machine

/-! ### The machine -/

/-- A step runs the command at the front of the queue; with none waiting the part idles (the model's choice, log
entry 7). -/
def Obligations.StepRunsFrontCommand : Prop :=
  (∀ (c : Instr) (rest : List Instr) (s : State),
    step { s with pending := c :: rest } = exec c { s with pending := rest })
  ∧ ∀ s : State, s.pending = [] → step s = .next s

/-- Every command answers a next state from every state and leaves the commands that wait as they are. That a command
without its occasion answers too, with the state as it was, is the model's choice (log entries 2, 9 and 22), and so is
that a power-on reset keeps the commands that wait (log entry 23). -/
def Obligations.EveryCommandCompletes : Prop :=
  ∀ (c : Instr) (s : State), ∃ t, exec c s = .next t ∧ t.pending = s.pending

/-! ### Frames and ports -/

/-- A command's frame is read as that command on the port that permits it (R164, R175, R177). -/
def Obligations.CommandFramesRoundTrip : Prop :=
  ∀ (c : Instr) (p : Port) (f : List Byte), c.wellFormed = true → encodeFrame c = some f → c.port? = some p →
    decodeFrame p f false = .ok c

/-- A frame the port accepts is the frame of the command it is read as (R163, R177). -/
def Obligations.AcceptedFrameIsTheCommands : Prop :=
  ∀ (p : Port) (f : List Byte) (overflow : Bool) (c : Instr), decodeFrame p f overflow = .ok c →
    overflow = false ∧ encodeFrame c = some f ∧ c.port? = some p

/-- The port's own checks of a frame taken while it is not BUSY, in the order of R163. That the refusal is completed
within FRAME_END itself is the model's reading (log entry 6). -/
def Obligations.PortChecksInOrder : Prop :=
  (∀ (p : Port) (mosi f : List Byte) (bits : Nat) (s : State) (tr : Transaction),
    s.frameAtRise p tr mosi f → tr.discard = false → (s.port p).busy = false → f ≠ [] →
    let refused (code : Byte) : Prop := exec (.frameEnd p mosi bits) s = .next (s.setPort p
      { (s.port p).untaken tr mosi bits with
        ready := true, overrun := false, progress := .idle, reply := [code], err := true })
    let long : Prop := (s.port p).overflow = true ∨ 64 < f.length
    (long → refused 2)
    ∧ (¬long → expectedLength f = none → refused 1)
    ∧ (¬long → ∀ n, expectedLength f = some n → n ≠ f.length → refused 2)
    ∧ (¬long → expectedLength f = some f.length → permitted p (byteAt f 0) = false → refused 3))
  ∧ (∀ f : List Byte, byteAt f 0 = 0x11 → expectedLength f = some (7 + 4 * (byteAt f 6).toNat))
  ∧ ∀ f : List Byte, byteAt f 0 = 0x25 → expectedLength f = some 3

/-- A frame that passes the port's checks is taken: BUSY set, READY and OVERRUN cleared, the command handed on, the
previous reply kept (R160, R162). The completion of a command carried out replaces the reply, clears BUSY, sets READY and
sets or clears ERR (R165). That COMMAND_COMPLETION with no reply waiting leaves the state as it is is the model's choice
(log entries 2 and 9). -/
def Obligations.CommandTakenAndCompleted : Prop :=
  (∀ (p : Port) (c : Instr) (mosi f : List Byte) (bits : Nat) (s : State) (tr : Transaction),
    s.frameAtRise p tr mosi f → tr.discard = false → (s.port p).busy = false → (s.port p).overflow = false →
    encodeFrame c = some f → c.port? = some p → c.wellFormed = true → c ≠ .nop p →
    ∃ x, exec (.frameEnd p mosi bits) s = .next (s.setPort p x)
      ∧ x = { (s.port p).untaken tr mosi bits with ready := false, overrun := false, progress := .handed c }
      ∧ x.busy = true)
  ∧ ∀ (p : Port) (s : State),
    (∀ reply, (s.port p).progress = .done reply →
      exec (.commandCompletion p) s = .next (s.setPort p
        { s.port p with reply := reply, progress := .idle, ready := true, err := decide (byteAt reply 0 ≠ 0) }))
    ∧ ((∀ reply, (s.port p).progress ≠ .done reply) → exec (.commandCompletion p) s = .next s)

/-- What is not taken: no frame, a NOP, a frame to be discarded after a soft reset, a rise without a transaction leave
the port as it was; a frame while BUSY sets OVERRUN (R160, R161, R162, R173, R174). MISO is clocked out for a partial last
byte too (R159). A NOP and noise do nothing (R142). -/
def Obligations.FramesNotTaken : Prop :=
  (∀ (p : Port) (mosi f : List Byte) (bits : Nat) (s : State) (tr : Transaction), s.frameAtRise p tr mosi f →
    (f = [] ∨ (f = [0x00] ∧ (s.port p).overflow = false) ∨ tr.discard = true →
      exec (.frameEnd p mosi bits) s = .next (s.setPort p ((s.port p).untaken tr mosi bits)))
    ∧ (tr.discard = false → f ≠ [] → f ≠ [0x00] → (s.port p).busy = true →
      exec (.frameEnd p mosi bits) s = .next (s.setPort p { (s.port p).untaken tr mosi bits with overrun := true })))
  ∧ (∀ (p : Port) (mosi : List Byte) (bits : Nat) (s : State), (s.port p).transaction = none →
    exec (.frameEnd p mosi bits) s = .next s)
  ∧ (∀ (p : Port) (s : State), exec (.nop p) s = .next s)
  ∧ ∀ (bytes : List Byte) (s : State), exec (.lineNoise bytes) s = .next s

/-- CS's fall takes the snapshot of the status byte, flag by flag, and of the reply, and nothing that happens while CS is
low alters it (R159, R172, R174, R176). MISO is at high impedance while CS is high, and in a transaction it carries the
snapshot's bytes and then zeros, each most significant bit first (R159, R176). That a second fall of CS in a transaction
leaves the snapshot is the model's choice (log entry 2), and that a soft reset discards no fleet-port frame is its reading
(log entry 24). -/
def Obligations.SnapshotTakenAndStands : Prop :=
  (∀ (p : Port) (s : State), (s.port p).transaction = none →
    ∃ status : Byte,
      exec (.transactionStart p) s
        = .next (s.setPort p { s.port p with transaction := some ⟨⟨status, (s.port p).reply⟩, false⟩ })
      ∧ (status.getLsbD 7 = true ↔ s.device = .halted)
      ∧ (status.getLsbD 6 = true ↔ s.device = .run)
      ∧ status.getLsbD 5 = (match p with
          | .grid => s.grid.flags.getLsbD 4
          | .fleet => s.fleet.flags.getLsbD 6)
      ∧ status.getLsbD 4 = (s.port p).overrun
      ∧ (status.getLsbD 3 = true ↔ ∃ i, (s.port p).flags.getLsbD i = true ∧ (s.port p).mask.getLsbD i = true)
      ∧ status.getLsbD 2 = (s.port p).err
      ∧ status.getLsbD 1 = (s.port p).ready
      ∧ (status.getLsbD 0 = true ↔ (s.port p).progress ≠ .idle))
  ∧ (∀ (x : PortState) (clock : Nat),
    (x.transaction = none → x.misoPin clock = none)
    ∧ ∀ tr, x.transaction = some tr → ∀ place bit, place = clock / 8 → bit = 7 - clock % 8 →
      (place = 0 → x.misoPin clock = some (tr.snapshot.status.getLsbD bit))
      ∧ (place = 1 → x.misoPin clock = some (tr.snapshot.reply.length.testBit bit))
      ∧ (∀ b, 2 ≤ place → tr.snapshot.reply[place - 2]? = some b → x.misoPin clock = some (b.getLsbD bit))
      ∧ (tr.snapshot.reply.length + 2 ≤ place → x.misoPin clock = some false))
  ∧ ∀ (c : Instr) (s t : State) (p : Port) (tr : Transaction), (s.port p).transaction = some tr →
    c ≠ .powerOnReset → (∀ mosi bits, c ≠ .frameEnd p mosi bits) → exec c s = .next t →
    ∃ tr', (t.port p).transaction = some tr' ∧ tr'.snapshot = tr.snapshot
      ∧ (tr'.discard = tr.discard ∨ (c = .resetDevice ∧ p = .grid ∧ tr'.discard = true))

/-- READ EVENTS reports flags, mask and change set and clears all but RESET; ACK RESET clears RESET; neither touches the
other port (R169, R170, R178). -/
def Obligations.EventsReadAndAcknowledged : Prop :=
  ∀ s : State,
    (s.handed .grid (.readEvents .grid) → exec (.readEvents .grid) s = .next
      ({ s with grid := { s.grid with flags := s.grid.flags &&& 0x10#8 } }.answer .grid
        [0, s.grid.flags, s.grid.mask]))
    ∧ (s.handed .fleet (.readEvents .fleet) → exec (.readEvents .fleet) s = .next
      ({ s with fleet := { s.fleet with flags := s.fleet.flags &&& 0x40#8 }, changeSet := 0 }.answer .fleet
        ([0, s.fleet.flags, s.fleet.mask] ++ le2 s.changeSet.toNat)))
    ∧ (s.handed .grid (.ackReset .grid) → exec (.ackReset .grid) s = .next
      ({ s with grid := { s.grid with flags := s.grid.flags &&& 0xEF#8 } }.answer .grid [0]))
    ∧ (s.handed .fleet (.ackReset .fleet) → exec (.ackReset .fleet) s = .next
      ({ s with fleet := { s.fleet with flags := s.fleet.flags &&& 0xBF#8 } }.answer .fleet [0]))

/-- SET EVENT MASK (R171): a bit that names no event is refused and the mask kept; otherwise the mask is replaced, the
flags are kept, and ATN follows the flags under the new mask. -/
def Obligations.EventMaskReplaced : Prop :=
  ∀ (p : Port) (mask : Byte) (s : State), s.handed p (.setEventMask p mask) →
    let events := match p with
      | .grid => 5
      | .fleet => 7
    ((∃ i, events ≤ i ∧ mask.getLsbD i = true) → exec (.setEventMask p mask) s = .next (s.answer p [7]))
    ∧ ((∀ i, events ≤ i → mask.getLsbD i = false) →
      exec (.setEventMask p mask) s = .next ((s.setPort p { s.port p with mask := mask }).answer p [0, mask])
      ∧ (({ s.port p with mask := mask } : PortState).atnLow = true ↔
          ∃ i, (s.port p).flags.getLsbD i = true ∧ mask.getLsbD i = true))

/-- What a power-on reset leaves in every block (R16, R44, R86, R88, R111, R126, R128, R143, R146, R147, R150, R154,
R173). The commands that wait belong to the sender. -/
def Obligations.PowerOnResetValues : Prop :=
  ∀ s : State, ∃ t, exec .powerOnReset s = .next t
    ∧ t.pending = s.pending
    ∧ t.device = .config ∧ t.clock = 0 ∧ t.clockValid = false ∧ t.uptime = 0
    ∧ t.site = ⟨1, 900, 900, 60, -40, 0, 90, 110, 130⟩ ∧ t.siteValid = false
    ∧ t.roster = []
    ∧ (∀ b, t.bay b = ⟨.empty, none, none, ⟨false, false, false, .none, 0, 0, 0, 0, 0⟩, 0, 0, 0, none, none, false, none,
        0, false, 0, false⟩)
    ∧ (∀ b, t.faultSet b = ⟨⟨.none, none, [], 0, 0⟩, [], none, 0, false⟩)
    ∧ t.policy = ⟨true, true, true, true, true, true⟩
    ∧ (∀ b, t.order b = none ∧ t.setPoint b = 0)
    ∧ (∀ i : Fin 8, t.profiles[i] = none)
    ∧ t.queue = [] ∧ t.lastResult = none
    ∧ (∀ b, (t.line b).seq = 0 ∧ (t.line b).miss = 0 ∧ (t.line b).classTimer = 0 ∧ (t.line b).resync = true)
    ∧ t.pollQueue = [0, 1, 2, 3, 4, 5, 6, 7, 8, 9, 10, 11, 12, 13, 14, 15] ∧ t.exchange = none
    ∧ (∀ p, (t.port p).frameBuffer = [] ∧ (t.port p).overflow = false ∧ (t.port p).reply = []
        ∧ (t.port p).busy = false ∧ (t.port p).ready = false ∧ (t.port p).err = false ∧ (t.port p).overrun = false
        ∧ (t.port p).mask = 0 ∧ (t.port p).atnLow = false ∧ (t.port p).transaction = none)
    ∧ t.grid.flags = 0x10 ∧ t.fleet.flags = 0x40 ∧ t.changeSet = 0

/-! ### Reading -/

/-- A read command changes nothing but its own reply (R14, R15, R43, R80, R92, R127, R157). -/
def Obligations.ReadsChangeNothing : Prop :=
  ∀ (c : Instr) (p : Port) (s : State), isRead c = true → c.port? = some p → s.handed p c →
    ∃ reply, exec c s = .next (s.answer p reply)

/-- READ CLOCK, READ SITE, READ DEVICE, READ PROFILE and READ RESULT (R80, R92, R157, R178). -/
def Obligations.StatusProfileResultReplies : Prop :=
  ∀ (p : Port) (s : State),
    let clock := le3 s.clock ++ le1 (yesNo s.clockValid) ++ le4 s.uptime.toNat
    (s.handed p (.readClock p) → exec (.readClock p) s = .next (s.answer p (0 :: clock)))
    ∧ (s.handed p (.readSite p) → exec (.readSite p) s = .next (s.answer p
        (0 :: le2 s.site.limit ++ le2 s.site.eta ++ le2 s.site.guard ++ le2 s.site.hold
          ++ le1 (s.site.tcz + 80).toNat ++ le1 (s.site.tcf + 80).toNat ++ le1 (s.site.thf + 80).toNat
          ++ le1 (s.site.thz + 80).toNat ++ le1 (s.site.tmax + 80).toNat ++ le1 (yesNo s.siteValid))))
    ∧ (s.handed p (.readDevice p) → ∃ reply, exec (.readDevice p) s = .next (s.answer p reply)
      ∧ reply.length = 29
      ∧ reply.take 18 = [0] ++ le1 s.device.code ++ clock ++ le1 (yesNo s.siteValid)
          ++ le1 (yesNo s.policy.linkLost) ++ le1 (yesNo s.policy.precharge) ++ le1 (yesNo s.policy.tracking)
          ++ le1 (yesNo s.policy.overTemp) ++ le1 (yesNo s.policy.bayReported)
          ++ le1 (yesNo s.policy.detectTracking) ++ le1 s.queue.length
      ∧ (∀ st : BayState, (byteAt reply (18 + st.code)).toNat
          = (allBays.filter fun b => decide ((s.bay b).state = st)).length))
    ∧ (∀ index : Byte, s.handed p (.readProfile p index) →
      (7 < index.toNat → exec (.readProfile p index) s = .next (s.answer p [7]))
      ∧ ∀ i : Fin 8, index.toNat = i.val →
        (s.profiles[i] = none → exec (.readProfile p index) s = .next (s.answer p [10]))
        ∧ ∀ e, s.profiles[i] = some e → ∃ used : Byte,
          exec (.readProfile p index) s = .next (s.answer p
            ([0] ++ le2 e.ps ++ le2 e.lead ++ [used] ++ le1 e.bands.length
              ++ e.bands.flatMap fun b => le2 b.bound ++ le2 b.step))
          ∧ used = if ∃ r ∈ s.queue, r.profile = i.val then 1 else 0)
    ∧ (s.handed p (.readResult p) →
      (s.lastResult = none → exec (.readResult p) s = .next (s.answer p (List.replicate 14 0)))
      ∧ ∀ r, s.lastResult = some r →
        exec (.readResult p) s = .next (s.answer p
          ([0, 1] ++ le1 r.id ++ le1 r.cause.code ++ le2 r.submitted ++ le4 r.delivered ++ le4 r.shortfall)))

/-- READ REQUEST: the list of the queue, a queued record, or NO_SUCH_REQUEST (R80, R178). -/
def Obligations.RequestReplies : Prop :=
  ∀ (p : Port) (id : Byte) (s : State), s.handed p (.readRequest p id) →
    (id = 0 → exec (.readRequest p id) s = .next (s.answer p
      ([0] ++ le1 s.queue.length ++ s.queue.flatMap fun r => le1 r.id ++ le1 r.state.code)))
    ∧ (id ≠ 0 → (∀ r ∈ s.queue, r.id ≠ id.toNat) → exec (.readRequest p id) s = .next (s.answer p [15]))
    ∧ (id ≠ 0 → ∀ r, s.request? id.toNat = some r →
      let (clock, cause) := match r.state with
        | .held countdown => (countdown, 0)
        | .active remaining _ => (remaining, 0)
        | .ending cause => (0, cause.code)
      exec (.readRequest p id) s = .next (s.answer p
        ([0, id] ++ le1 r.state.code ++ le2 clock ++ le2 r.length ++ le2 r.power ++ le2 r.submitted ++ le2 r.current
          ++ le1 r.profile ++ le1 (yesNo r.releaseOnEnd) ++ le4 r.delivered ++ le1 cause ++ le1 r.list.length
          ++ r.list.flatMap fun e => le1 e.bay.val ++ le2 e.target ++ le3 e.committed)))

/-- READ VEHICLE and READ ROSTER (R14, R15, R178). -/
def Obligations.VehicleAndRosterReplies : Prop :=
  (∀ (p : Port) (number : BitVec 16) (s : State), s.handed p (.readVehicle p number) →
    (number = 0 ∨ number = 65535 → exec (.readVehicle p number) s = .next (s.answer p [7]))
    ∧ (number ≠ 0 → number ≠ 65535 →
      ((∀ v ∈ s.roster, v.number ≠ number.toNat) → exec (.readVehicle p number) s = .next (s.answer p [19]))
      ∧ ∀ front v back, s.roster = front ++ v :: back → v.number = number.toNat →
        (∀ w ∈ front, w.number ≠ number.toNat) →
        exec (.readVehicle p number) s = .next (s.answer p
          ([0] ++ le2 v.number ++ le1 front.length ++ le3 v.capacity ++ le3 v.floor ++ le2 v.pChg ++ le2 v.pDis
            ++ le1 (yesNo v.consent)
            ++ (match v.departure with
                | some d => le1 1 ++ le2 d.minute ++ le3 d.qDep
                | none => [0, 0, 0, 0, 0, 0])
            ++ (match v.bayLink with
                | some b => le1 b.val
                | none => [255])))))
  ∧ ∀ (start count : Byte) (s : State), s.handed .fleet (.readRoster start count) →
    (47 < start.toNat ∨ count = 0 ∨ 16 < count.toNat → exec (.readRoster start count) s = .next (s.answer .fleet [7]))
    ∧ (start.toNat ≤ 47 → count ≠ 0 → count.toNat ≤ 16 →
      exec (.readRoster start count) s = .next (s.answer .fleet
        ([0] ++ le1 s.roster.length ++ le1 (min count.toNat (s.roster.length - start.toNat))
          ++ ((s.roster.drop start.toNat).take count.toNat).flatMap fun v =>
            le2 v.number ++ le1 (yesNo v.consent) ++ match v.bayLink with
              | some b => le1 b.val
              | none => [255])))

/-- READ BAY: the fields of the bay record and the fault set at their offsets (R43, R127, R178). That bits 2 to 0 of the last
telemetry status are sent as 0 is the model's choice (log entry 31). -/
def Obligations.BayReply : Prop :=
  ∀ (p : Port) (bay : Byte) (s : State), s.handed p (.readBay p bay) →
    (15 < bay.toNat → exec (.readBay p bay) s = .next (s.answer p [20]))
    ∧ ∀ b : BayNo, bay.toNat = b.val → ∃ data, exec (.readBay p bay) s = .next (s.answer p (0 :: data))
      ∧ data.length = 74
      ∧ let r := s.bay b
        let f := s.faultSet b
        data.take 34 = le1 b.val ++ le1 r.state.code ++ le2 (r.link.getD 0) ++ le2 (r.candidate.getD 0)
          ++ le1 (128 * yesNo r.tele.plug + 64 * yesNo r.tele.contactorClosed + 32 * yesNo r.tele.dcReady
              + 8 * r.tele.check.code)
          ++ le1 r.tele.faultCode ++ le2 r.tele.vehicle ++ le2 (r.tele.power % 65536).toNat ++ le3 r.tele.energy
          ++ le1 (r.tele.temp + 80).toNat ++ le2 r.ratedCap ++ le2 r.tempCap ++ le2 r.capEff ++ le2 (s.setPoint b)
          ++ le2 (match r.state with
              | .binding | .cooldown | .checking => r.stateTimer.getD 0
              | .releasing => r.releaseTimer.getD 0
              | .fault => f.hold.getD 0
              | _ => 0)
          ++ le2 (min r.interval 65535)
          ++ le1 (yesNo r.checkDue + 2 * yesNo r.releasePending + 4 * yesNo r.guardArmed + 8 * yesNo f.releaseTimedOut)
          ++ le4 r.bindTime.toNat ++ le1 f.record.status.code
        ∧ (data.drop 34).take 2 = le1 (faultCodeOf f.record.first) ++ le1 f.record.later.length
        ∧ (∀ i < 4, byteAt data (36 + i) = match f.record.later[i]? with
            | some k => BitVec.ofNat 8 (faultCodeOf (some k))
            | none => 0)
        ∧ (data.drop 40).take 9 = le4 f.record.entry.toNat
            ++ le4 (if f.record.status = .closed then f.record.exit.toNat else 0) ++ le1 f.history.length
        ∧ (∀ i < 3, (data.drop (49 + 4 * i)).take 4 = le4 ((f.history.map (·.toNat))[i]?.getD 0)
            ∧ (data.drop (61 + 4 * i)).take 4 = le4 ((f.history.map fun h => (s.uptime - h).toNat)[i]?.getD 0))
        ∧ data.drop 73 = le1 f.tracking

/-! ### The grid port's commands -/

/-- SET CLOCK (R148): refused on the fleet port and above 86 399; otherwise the value is written, the flag set, nothing
else changes, and the next second advances from it. -/
def Obligations.SetClockWritesClock : Prop :=
  ∀ (second : BitVec 24) (s : State),
    decodeFrame .fleet ([0x10] ++ le3 second.toNat) false = .error .notPermitted
    ∧ (s.handed .grid (.setClock second) →
      (86399 < second.toNat → exec (.setClock second) s = .next (s.answer .grid [7]))
      ∧ (second.toNat ≤ 86399 → ∃ t,
        t = { s with clock := second.toNat, clockValid := true }
        ∧ exec (.setClock second) s = .next (t.answer .grid (0 :: le3 second.toNat ++ [1]))
        ∧ ∀ u, exec .timebaseSecond (t.answer .grid (0 :: le3 second.toNat ++ [1])) = .next u →
            u.clock = if second.toNat = 86399 then 0 else second.toNat + 1))

/-- LOAD PROFILE (R91): the checks in order, then the entry replaced whole. -/
def Obligations.LoadProfileChecksAndLoads : Prop :=
  (∀ (index : Byte) (ps lead : BitVec 16) (bands : List (BitVec 16 × BitVec 16)) (s : State),
    s.handed .grid (.loadProfile index ps lead bands) →
    let refused (code : Byte) : Prop := exec (.loadProfile index ps lead bands) s = .next (s.answer .grid [code])
    let bad : Prop := ps.toNat < 10 ∨ 600 < ps.toNat ∨ 600 < lead.toNat ∨ bands = [] ∨ 8 < bands.length
      ∨ (∃ b ∈ bands, b.2 = 0 ∨ 400 < b.2.toNat ∨ b.1 = 0)
      ∨ ¬ List.Pairwise (fun a b => a.1.toNat < b.1.toNat) bands
      ∨ bands.getLast?.map (·.1) ≠ some 1200
    (7 < index.toNat → refused 7)
    ∧ ∀ i : Fin 8, index.toNat = i.val →
      ((∃ r ∈ s.queue, r.profile = i.val) → refused 9)
      ∧ ((∀ r ∈ s.queue, r.profile ≠ i.val) → (bad → refused 8)
        ∧ (¬bad → ∃ profiles : Vector (Option Profile) 8,
          exec (.loadProfile index ps lead bands) s
            = .next (({ s with profiles := profiles } : State).answer .grid ([0, index] ++ le1 bands.length))
          ∧ profiles[i] = some ⟨ps.toNat, lead.toNat, bands.map fun b => ⟨b.1.toNat, b.2.toNat⟩⟩
          ∧ ∀ j : Fin 8, j ≠ i → profiles[j] = s.profiles[j])))
  ∧ ∀ f : List Byte, f.length ≤ 64 → byteAt f 0 = 0x11 → f.length ≠ 7 + 4 * (byteAt f 6).toNat →
      decodeFrame .grid f false = .error .length

/-- SUBMIT REQUEST's checks in the order of R69; a refused one leaves everything as it was. -/
def Obligations.SubmitChecksInOrder : Prop :=
  ∀ (id : Byte) (start : BitVec 24) (length power : BitVec 16) (profile release : Byte) (s : State),
    s.handed .grid (.submitRequest id start length power profile release) →
    let refused (code : Byte) : Prop :=
      exec (.submitRequest id start length power profile release) s = .next (s.answer .grid [code])
    let c : Int := ((start.toNat : Int) - (s.clock : Int)) % 86400
    let range : Prop := id = 0 ∨ 86399 < start.toNat ∨ length.toNat < 60 ∨ 14400 < length.toNat ∨ power = 0
      ∨ 19200 < power.toNat ∨ 7 < profile.toNat ∨ 1 < release.toNat
    (s.device ≠ .run → refused 4)
    ∧ (s.device = .run → (range → refused 7)
      ∧ (¬range → ∀ i : Fin 8, profile.toNat = i.val →
        (s.profiles[i] = none → refused 10)
        ∧ ∀ e, s.profiles[i] = some e →
          ((∃ r ∈ s.queue, r.id = id.toNat) → refused 12)
          ∧ ((∀ r ∈ s.queue, r.id ≠ id.toNat) →
            (4 ≤ s.queue.length → refused 11)
            ∧ (s.queue.length < 4 →
              (c < e.lead + 30 ∨ 43200 < c → refused 14)
              ∧ ((e.lead : Int) + 30 ≤ c → c ≤ 43200 →
                (∃ r ∈ s.queue, ∃ q, s.occupied r = some q ∧ c - e.lead < q.2 ∧ q.1 < c + length.toNat) →
                refused 13)))))

/-- A SUBMIT REQUEST that passes every check stores its offer (R46, R70): the record, its place in the queue, the
reply. -/
def Obligations.SubmitStoresOffer : Prop :=
  ∀ (id : Byte) (start : BitVec 24) (length power : BitVec 16) (profile release : Byte) (i : Fin 8) (e : Profile)
    (s : State),
    s.handed .grid (.submitRequest id start length power profile release) →
    s.device = .run → id ≠ 0 → start.toNat ≤ 86399 → 60 ≤ length.toNat → length.toNat ≤ 14400 → 1 ≤ power.toNat →
    power.toNat ≤ 19200 → profile.toNat = i.val → release.toNat ≤ 1 → s.profiles[i] = some e →
    (∀ r ∈ s.queue, r.id ≠ id.toNat) → s.queue.length < 4 →
    ∀ c : Nat, (c : Int) = ((start.toNat : Int) - (s.clock : Int)) % 86400 → e.lead + 30 ≤ c → c ≤ 43200 →
    (∀ r ∈ s.queue, ∀ q, s.occupied r = some q →
      q.2 ≤ (c : Int) - e.lead ∨ (c : Int) + length.toNat ≤ q.1) →
    let a := s.evaluate ⟨id.toNat, e, power.toNat, c + length.toNat, e.lead + length.toNat, false⟩
    ∃ front back,
      exec (.submitRequest id start length power profile release) s
        = .next (({ s with
            queue := front ++
              ⟨id.toNat, .held c, length.toNat, power.toNat, a.grant, a.grant, i.val, decide (release = 1), a.list, 0⟩
              :: back } : State).answer .grid ([0, id] ++ le2 a.grant ++ le2 c ++ le1 a.list.length))
      ∧ front ++ back = s.queue
      ∧ (∀ q ∈ front, ∀ d, q.state = .held d → d ≤ c)
      ∧ ∀ q ∈ back.head?, ∃ d, q.state = .held d ∧ c < d

/-- An evaluation in the manual's terms: the eligible bays by state, vehicle and departure (R48 to R52), the allowance
less what other queued requests hold (R55, R56), the sustainable power (R57), and the split (R58 to R61). In split order
each eligible bay is offered the least of its sustainable power and what the bays before it left of the power and the
site export limit; it takes that as its target when it is at least Ps, and is skipped otherwise. The grant is the sum of
the targets. -/
def Obligations.SplitSharesPower : Prop :=
  ∀ (s : State) (t : Terms), 0 < t.span →
    let a := s.evaluate t
    a.grant = (a.list.map (·.target)).sum
    ∧ a.grant ≤ min t.power s.site.limit
    ∧ (a.list.map (·.bay)).Nodup
    ∧ (∀ e ∈ a.list, s.eligible t e.bay = true ∧ t.profile.ps ≤ e.target ∧ e.target ≤ s.sustainable t e.bay
        ∧ e.committed = e.target * t.span ∧ e.committed ≤ s.allowance t e.bay)
    ∧ a.list.Pairwise (fun x y => s.sustainable t y.bay < s.sustainable t x.bay
        ∨ (s.sustainable t y.bay = s.sustainable t x.bay ∧ x.bay < y.bay))
    ∧ (∀ b, b ∈ a.eligible ↔ s.eligible t b = true)
    ∧ (∀ b, s.eligible t b = true →
      let before (c : BayNo) : Prop := s.sustainable t b < s.sustainable t c
        ∨ (s.sustainable t c = s.sustainable t b ∧ c < b)
      let left := min t.power s.site.limit - ((a.list.filter fun e => decide (before e.bay)).map (·.target)).sum
      let g := min (s.sustainable t b) left
      (t.profile.ps ≤ g → ⟨b, g, g * t.span⟩ ∈ a.list) ∧ (g < t.profile.ps → ∀ e ∈ a.list, e.bay ≠ b))
    ∧ (∀ b, s.eligible t b = true ↔
      ((s.bay b).state = .parked ∨ ((s.bay b).state = .bound ∧ s.order b = none)
        ∨ (t.resplit = true ∧ ∃ o, s.order b = some o ∧ o.request = t.request
          ∧ ((((s.bay b).state = .binding ∨ (s.bay b).state = .bound) ∧ o.phase = .waitBind)
            ∨ ((s.bay b).state = .transfer ∧ (o.phase = .rise ∨ o.phase = .hold ∨ o.phase = .lower)))))
      ∧ ∃ v, s.linkedVehicle? b = some v ∧ v.consent = true ∧ t.profile.ps ≤ (s.bay b).capEff
        ∧ ∀ d, v.departure = some d →
          (t.windowEnd : Int) + s.site.guard ≤ ((d.minute : Int) * 60 - (s.clock : Int)) % 86400)
    ∧ ∀ b v, s.linkedVehicle? b = some v →
      let other := ((s.queue.filter fun r => decide (r.id ≠ t.request)).map fun r => match r.state with
        | .held _ => ((r.list.find? fun e => decide (e.bay = b)).map (·.committed)).getD 0
        | .active _ _ | .ending _ => match s.order b with
          | some o => if o.request = r.id then o.quota - o.delivered else 0
          | none => 0).sum
      (s.allowance t b : Int)
        = max 0 ((s.bay b).tele.energy - (reserveNeed v s.site.eta s.clock t.windowEnd : Int) - other)
      ∧ s.sustainable t b = min (s.bay b).capEff (s.allowance t b / t.span)

/-- RETARGET: its refusals, and at a power above 0 the re-split of the clamped power that becomes the current grant and
brings the orders into line with the notices of those removed (R77, R83, R108), on every state with its orders in place
(`Obligations.OrdersStayOnEngagedBays`). That removed orders come by ascending bay and new ones in split
order is the model's choice (log entry 25). -/
def Obligations.RetargetResplits : Prop :=
  ∀ (id : Byte) (power : BitVec 16) (s : State), s.handed .grid (.retarget id power) → s.ordersPlaced →
    let refused (code : Byte) : Prop := exec (.retarget id power) s = .next (s.answer .grid [code])
    (id = 0 ∨ 19200 < power.toNat → refused 7)
    ∧ (id ≠ 0 → power.toNat ≤ 19200 →
      ((∀ r ∈ s.queue, r.id ≠ id.toNat) → refused 15)
      ∧ ∀ r, s.request? id.toNat = some r →
        ((∀ remaining eligible, r.state ≠ .active remaining eligible) → refused 17)
        ∧ ∀ remaining eligible, r.state = .active remaining eligible → ∃ t : State,
          s.sameBut t requestWrites ∧ t.grid = s.grid ∧ t.lastResult = s.lastResult
          ∧ (0 < power.toNat →
            let prof := s.profileAt r.profile
            let a := s.evaluate ⟨r.id, prof, min power.toNat r.submitted, remaining, max remaining 1, true⟩
            exec (.retarget id power) s = .next (t.answer .grid ([0, id] ++ le2 a.grant ++ le1 a.list.length))
            ∧ t.request? id.toNat
              = some { r with list := a.list, current := a.grant, state := .active remaining a.eligible }
            ∧ s.ordersAligned t r.id remaining prof.ps a.list)
          ∧ (power.toNat = 0 →
            exec (.retarget id power) s = .next (t.answer .grid [0, id, 0, 0, 0])
            ∧ t.request? id.toNat = some { r with list := [], current := 0 }
            ∧ t.notices = s.notices ++ s.removalNotices r.id [] .curtail
            ∧ s.ordersTakeCause t r.id .curtail))

/-- CURTAIL and WINDOW_END: the ACTIVE request becomes ENDING, its orders take the cause, and it leaves at once when
none is running (R68, R73, R75, R78). The model's choices: WINDOW_END is a step after the second (log entry 1) and idles without
an ended window (log entry 2), and the result of a request that leaves at once leaves out the energy of order-end notices
that still wait (log entry 16). -/
def Obligations.ActiveRequestEnds : Prop :=
  (∀ (id : Byte) (s : State), s.handed .grid (.curtail id) →
    let refused (code : Byte) : Prop := exec (.curtail id) s = .next (s.answer .grid [code])
    (id = 0 → refused 7)
    ∧ (id ≠ 0 → (∀ r ∈ s.queue, r.id ≠ id.toNat) → refused 15)
    ∧ (id ≠ 0 → ∀ r, s.request? id.toNat = some r →
      ((∀ remaining eligible, r.state ≠ .active remaining eligible) → refused 17)
      ∧ ∀ remaining eligible, r.state = .active remaining eligible → ∃ t : State,
        (∃ running, exec (.curtail id) s = .next (t.answer .grid ([0, id] ++ le1 running))
          ∧ running = (allBays.filter fun b => t.hasOrderOf r.id b).length)
        ∧ s.sameBut t requestWrites
        ∧ s.ordersTakeCause t r.id .curtail
        ∧ (s.runs r.id → t.request? id.toNat = some { r with state := .ending .curtail } ∧ t.grid = s.grid
            ∧ t.lastResult = s.lastResult)
        ∧ (¬s.runs r.id → s.requestLeft t r .curtail r.delivered)))
  ∧ ∀ (s : State), s.queueSound →
    ((∀ r ∈ s.queue, ∀ eligible, r.state ≠ .active 0 eligible) → exec .windowEnd s = .next s)
    ∧ ∀ r ∈ s.queue, ∀ eligible, r.state = .active 0 eligible → ∃ t : State, exec .windowEnd s = .next t
      ∧ s.sameBut t requestWrites
      ∧ s.ordersTakeCause t r.id .windowEnd
      ∧ (s.runs r.id → t.request? r.id = some { r with state := .ending .window } ∧ t.grid = s.grid
          ∧ t.lastResult = s.lastResult)
      ∧ (¬s.runs r.id → s.requestLeft t r .window r.delivered)

/-- CANCEL: its refusals, and a HELD request removed without result or event (R79). A notice of an order of the same ID
that still waits goes with it (log entry 3). -/
def Obligations.CancelRemovesHeldRequest : Prop :=
  ∀ (id : Byte) (s : State), s.handed .grid (.cancel id) →
    let refused (code : Byte) : Prop := exec (.cancel id) s = .next (s.answer .grid [code])
    (id = 0 → refused 7)
    ∧ (id ≠ 0 → (∀ r ∈ s.queue, r.id ≠ id.toNat) → refused 15)
    ∧ (id ≠ 0 → ∀ r, s.request? id.toNat = some r →
      ((∀ countdown, r.state ≠ .held countdown) → refused 16)
      ∧ ∀ countdown, r.state = .held countdown →
        exec (.cancel id) s = .next ({ s with
          queue := s.queue.filter (fun q => q.id != id.toNat)
          notices := s.notices.filter fun n => match n with
            | .orderEnd request _ _ _ _ => request != id.toNat
            | .change _ => true }.answer .grid [0, id]))

/-! ### The fleet port's commands -/

/-- SET SITE: refused whole when a field is out of range or the points are out of order; accepted, it writes the fields,
recomputes every cap, cuts the set-points from the highest bay down to the new limit and hands a change notice (R42,
R109, R155, R156). -/
def Obligations.SetSiteRecapsAndCuts : Prop :=
  ∀ (limit eta guard hold : BitVec 16) (tcz tcf thf thz tmax : Byte) (s : State),
    let c : Instr := .setSite limit eta guard hold tcz tcf thf thz tmax
    s.handed .fleet c →
    let ok : Prop := (1 ≤ limit.toNat ∧ limit.toNat ≤ 19200) ∧ (700 ≤ eta.toNat ∧ eta.toNat ≤ 1000)
      ∧ (300 ≤ guard.toNat ∧ guard.toNat ≤ 3600) ∧ (30 ≤ hold.toNat ∧ hold.toNat ≤ 600)
      ∧ tmax.toNat ≤ 250 ∧ tcz.toNat < tcf.toNat ∧ tcf.toNat ≤ thf.toNat ∧ thf.toNat < thz.toNat
      ∧ thz.toNat ≤ tmax.toNat
    (¬ok → exec c s = .next (s.answer .fleet [7]))
    ∧ (ok → ∃ t : State,
      exec c s = .next (t.answer .fleet ([0] ++ le2 limit.toNat ++ le2 eta.toNat ++ le2 guard.toNat ++ le2 hold.toNat
        ++ [tcz, tcf, thf, thz, tmax]))
      ∧ t.site = ⟨limit.toNat, eta.toNat, guard.toNat, hold.toNat, (tcz.toNat : Int) - 80,
          (tcf.toNat : Int) - 80, (thf.toNat : Int) - 80, (thz.toNat : Int) - 80, (tmax.toNat : Int) - 80⟩
      ∧ t.siteValid = true
      ∧ s.sameBut t [.site, .siteValid, .bays, .orders, .pollQueue, .notices]
      ∧ t.notices = s.notices ++ [.change .site]
      ∧ t.totalSetPoint = min s.totalSetPoint limit.toNat
      ∧ ∀ b,
        let cap := derate t.site (s.bay b).ratedCap (s.bay b).tele.temp
        let cut := min (s.setPoint b) (s.totalSetPoint - limit.toNat - ((allBays.filter (b < ·)).map s.setPoint).sum)
        t.bay b = { s.bay b with
          tempCap := cap
          capEff := match s.linkedVehicle? b with
            | some v => min (s.bay b).ratedCap (min v.pDis cap)
            | none => 0 }
        ∧ t.setPoint b = s.setPoint b - cut
        ∧ t.order b = (s.order b).map (fun o =>
            { o with level := if (s.bay b).state = .transfer then o.level - cut else o.level })
        ∧ (0 < cut → b ∈ t.pollQueue))

/-- The temperature cap by the derating points (R42), clause by clause, with the caps of 02_bays.md's ranges. -/
def Obligations.TemperatureCapByPoints : Prop :=
  ∀ (x : Site) (cap : Nat) (t : Int), x.tcz < x.tcf → x.tcf ≤ x.thf → x.thf < x.thz →
    (t ≤ x.tcz → derate x cap t = 0)
    ∧ (x.tcz < t → t < x.tcf → (derate x cap t : Int) = cap * (t - x.tcz) / (x.tcf - x.tcz))
    ∧ (x.tcf ≤ t → t ≤ x.thf → derate x cap t = cap)
    ∧ (x.thf < t → t < x.thz → (derate x cap t : Int) = cap * (x.thz - t) / (x.thz - x.thf))
    ∧ (x.thz ≤ t → derate x cap t = 0)
    ∧ derate x cap t ≤ cap

/-- SET FAULT POLICY: refused unless every flag is yes or no; accepted, the policy is replaced whole and every tracking
count is 0 (R126, log entry 12). -/
def Obligations.FaultPolicyReplaced : Prop :=
  ∀ (a b c d e f : Byte) (s : State), s.handed .fleet (.setFaultPolicy a b c d e f) →
    ((∃ x ∈ [a, b, c, d, e, f], x ≠ 0 ∧ x ≠ 1) →
      exec (.setFaultPolicy a b c d e f) s = .next (s.answer .fleet [7]))
    ∧ ((∀ x ∈ [a, b, c, d, e, f], x = 0 ∨ x = 1) → ∃ faults : Bank FaultSet,
      exec (.setFaultPolicy a b c d e f) s = .next
        ({ s with
          policy := ⟨decide (a = 1), decide (b = 1), decide (c = 1), decide (d = 1), decide (e = 1), decide (f = 1)⟩
          faults := faults }.answer .fleet [0, a, b, c, d, e, f])
      ∧ ∀ bay : BayNo, faults[bay] = { s.faultSet bay with tracking := 0 })

/-- ENROLL VEHICLE's checks in the order of R4, in every device state; one that passes them is accepted. -/
def Obligations.EnrollChecksInOrder : Prop :=
  ∀ (number : BitVec 16) (capacity floor : BitVec 24) (pChg pDis : BitVec 16) (consent : Byte) (s : State),
    let c : Instr := .enrollVehicle number capacity floor pChg pDis consent
    s.handed .fleet c →
    let fields : Prop := number ≠ 0 ∧ number ≠ 65535 ∧ capacity ≠ 0 ∧ floor.toNat ≤ capacity.toNat
      ∧ pChg.toNat ≤ 1200 ∧ pDis.toNat ≤ 1200 ∧ (consent = 0 ∨ consent = 1)
    let above : Prop := ∃ v d, s.vehicle? number.toNat = some v ∧ v.departure = some d ∧ capacity.toNat < d.qDep
    let full : Prop := s.vehicle? number.toNat = none ∧ 48 ≤ s.roster.length
    (¬fields → exec c s = .next (s.answer .fleet [7]))
    ∧ (fields → above → exec c s = .next (s.answer .fleet [7]))
    ∧ (fields → ¬above → full → exec c s = .next (s.answer .fleet [18]))
    ∧ (fields → ¬above → ¬full → ∃ (t : State) (reply : List Byte), exec c s = .next (t.answer .fleet (0 :: reply)))

/-- An accepted ENROLL VEHICLE of a new number appends its record and links the lowest-numbered waiting bay (R5, R7,
R13). -/
def Obligations.EnrollAppendsAndLinks : Prop :=
  ∀ (number : BitVec 16) (capacity floor : BitVec 24) (pChg pDis : BitVec 16) (consent : Byte) (s : State),
    let c : Instr := .enrollVehicle number capacity floor pChg pDis consent
    s.handed .fleet c → number ≠ 0 → number ≠ 65535 → capacity ≠ 0 → floor.toNat ≤ capacity.toNat →
    pChg.toNat ≤ 1200 → pDis.toNat ≤ 1200 → (consent = 0 ∨ consent = 1) → s.vehicle? number.toNat = none →
    s.roster.length < 48 →
    ∃ (t : State) (link : Option BayNo),
      exec c s = .next (t.answer .fleet ([0] ++ le1 s.roster.length ++ [0] ++ (match link with
        | some b => le1 b.val
        | none => [255])))
      ∧ t.roster = s.roster ++ [⟨number.toNat, capacity.toNat, floor.toNat, pChg.toNat, pDis.toNat,
          decide (consent = 1), none, link⟩]
      ∧ s.waitingLinked t number.toNat capacity.toNat pDis.toNat (decide (consent = 1)) link
      ∧ t.notices = s.notices ++ [.change .roster]
      ∧ s.sameBut t [.roster, .bays, .notices, .fleetFlags, .changeSet]

/-- An accepted ENROLL VEHICLE of a present number overwrites its fields in place, keeps its departure, and keeps, seeks
or clears its link (R6, R7, R12, R13). That one bay-change notice stands before the roster-change notice is the model's
reading (log entry 13), and so is that an unlinked vehicle seeks a bay whatever its consent was (log entry 14). -/
def Obligations.EnrollReplacesInPlace : Prop :=
  ∀ (number : BitVec 16) (capacity floor : BitVec 24) (pChg pDis : BitVec 16) (consent : Byte) (s : State) (v : Vehicle),
    let c : Instr := .enrollVehicle number capacity floor pChg pDis consent
    s.handed .fleet c → s.linksAgree → number ≠ 0 → number ≠ 65535 → capacity ≠ 0 → floor.toNat ≤ capacity.toNat →
    pChg.toNat ≤ 1200 → pDis.toNat ≤ 1200 → (consent = 0 ∨ consent = 1) → v ∈ s.roster → v.number = number.toNat →
    (∀ d, v.departure = some d → d.qDep ≤ capacity.toNat) →
    ∃ (t : State) (link : Option BayNo),
      exec c s = .next (t.answer .fleet ([0] ++ le1 (s.position number.toNat) ++ [1] ++ (match link with
        | some b => le1 b.val
        | none => [255])))
      ∧ t.roster = s.roster.map (fun w => if w = v then
          ⟨number.toNat, capacity.toNat, floor.toNat, pChg.toNat, pDis.toNat, decide (consent = 1), v.departure, link⟩
          else w)
      ∧ (v.bayLink = none →
        s.waitingLinked t number.toNat capacity.toNat pDis.toNat (decide (consent = 1)) link
        ∧ t.notices = s.notices ++ [.change .roster])
      ∧ (∀ b, v.bayLink = some b → consent = 1 →
        link = some b ∧ (∀ b', b' ≠ b → t.bay b' = s.bay b')
        ∧ (∃ cap, t.bay b = { s.bay b with
            tempCap := cap, capEff := min (s.bay b).ratedCap (min pDis.toNat cap)
            tele := { (s.bay b).tele with energy := min (s.bay b).tele.energy capacity.toNat } }
          ∧ cap = if s.siteValid then derate s.site (s.bay b).ratedCap (s.bay b).tele.temp else 0)
        ∧ t.notices = s.notices ++ (if (t.bay b).capEff = (s.bay b).capEff then [] else [.change .bay])
            ++ [.change .roster])
      ∧ (∀ b, v.bayLink = some b → consent = 0 → link = none ∧ s.vehicleUnlinked t b)
      ∧ s.sameBut t [.roster, .bays, .faults, .orders, .notices, .pollQueue, .fleetFlags, .changeSet]

/-- SET DEPARTURE: the checks in order, then the departure set or removed, the linked bay's guard re-armed, the change
handed (R9, R10, R13). -/
def Obligations.DepartureSetAndRearmed : Prop :=
  ∀ (number : BitVec 16) (form : Byte) (minute : BitVec 16) (qDep : BitVec 24) (s : State),
    let c : Instr := .setDeparture number form minute qDep
    s.handed .fleet c →
    let refused (code : Byte) : Prop := exec c s = .next (s.answer .fleet [code])
    let bad : Prop := number = 0 ∨ number = 65535 ∨ 1 < form.toNat ∨ (form = 1 ∧ 1439 < minute.toNat)
    (bad → refused 7)
    ∧ (¬bad → (s.vehicle? number.toNat = none → refused 19)
      ∧ ∀ v, s.vehicle? number.toNat = some v →
        (form = 1 → v.capacity < qDep.toNat → refused 7)
        ∧ (form = 0 ∨ qDep.toNat ≤ v.capacity → ∃ t : State,
          exec c s = .next (t.answer .fleet ([0] ++ le2 number.toNat ++ match v.bayLink with
            | some b => le1 b.val
            | none => [255]))
          ∧ t.roster = s.roster.map (fun w => if w.number = number.toNat then
              { w with departure := if form = 1 then some ⟨minute.toNat, qDep.toNat⟩ else none } else w)
          ∧ (∀ b, t.bay b = if v.bayLink = some b then { s.bay b with guardArmed := true } else s.bay b)
          ∧ t.notices = s.notices ++ [.change .roster]
          ∧ s.sameBut t [.roster, .bays, .notices]))

/-- WITHDRAW VEHICLE: its refusals, then the record removed, its bay unlinked and acted on by its state, the change
handed (R1, R11, R12, R13). -/
def Obligations.WithdrawRemovesAndUnlinks : Prop :=
  ∀ (number : BitVec 16) (s : State), s.handed .fleet (.withdrawVehicle number) →
    let refused (code : Byte) : Prop := exec (.withdrawVehicle number) s = .next (s.answer .fleet [code])
    (number = 0 ∨ number = 65535 → refused 7)
    ∧ (number ≠ 0 → number ≠ 65535 → (∀ v ∈ s.roster, v.number ≠ number.toNat) → refused 19)
    ∧ (number ≠ 0 → number ≠ 65535 → s.linksAgree → ∀ front v back, s.roster = front ++ v :: back →
      v.number = number.toNat → ∃ t : State,
        exec (.withdrawVehicle number) s = .next (t.answer .fleet ([0] ++ le1 front.length ++ (match v.bayLink with
          | some b => le1 b.val
          | none => [255])))
        ∧ t.roster = front ++ back
        ∧ (v.bayLink = none → t.notices = s.notices ++ [.change .roster] ∧ s.sameBut t [.roster, .notices])
        ∧ (∀ b, v.bayLink = some b → s.vehicleUnlinked t b)
        ∧ s.sameBut t [.roster, .bays, .faults, .orders, .notices, .pollQueue, .fleetFlags, .changeSet])

/-- SET BAY: its refusals, then the rated cap written, both caps formed and a notice handed (R41, R42). -/
def Obligations.RatedCapWritten : Prop :=
  ∀ (bay : Byte) (cap : BitVec 16) (s : State), s.handed .fleet (.setBay bay cap) →
    (15 < bay.toNat → exec (.setBay bay cap) s = .next (s.answer .fleet [20]))
    ∧ ∀ b : BayNo, bay.toNat = b.val →
      (1200 < cap.toNat → exec (.setBay bay cap) s = .next (s.answer .fleet [7]))
      ∧ (cap.toNat ≤ 1200 → ∃ (t : State) (temp eff : Nat),
        exec (.setBay bay cap) s = .next (t.answer .fleet ([0, bay] ++ le2 cap.toNat ++ le2 eff))
        ∧ temp = (if s.siteValid then derate s.site cap.toNat (s.bay b).tele.temp else 0)
        ∧ eff = (match s.linkedVehicle? b with
            | some v => min cap.toNat (min v.pDis temp)
            | none => 0)
        ∧ t = { s with
            bays := s.bays.set b { s.bay b with ratedCap := cap.toNat, tempCap := temp, capEff := eff }
            notices := s.notices ++ [.change .bay] })

/-- RELEASE BAY by the bay's state (R29, R37): refused, released at once, or its order declining with release at its
end. -/
def Obligations.ReleaseBayByState : Prop :=
  ∀ (bay : Byte) (s : State), s.handed .fleet (.releaseBay bay) →
    (15 < bay.toNat → exec (.releaseBay bay) s = .next (s.answer .fleet [20]))
    ∧ ∀ b : BayNo, bay.toNat = b.val →
      ((s.bay b).state ≠ .bound → (s.bay b).state ≠ .transfer → (s.bay b).state ≠ .checking →
        exec (.releaseBay bay) s = .next (s.answer .fleet [21]))
      ∧ ((s.bay b).state = .bound ∨ (s.bay b).state = .checking → ∃ t : State,
        exec (.releaseBay bay) s = .next (t.answer .fleet [0, bay, 7])
        ∧ s.bayReleased t b ∧ t.order b = none ∧ s.otherBays t b
        ∧ (s.order b = none → t.notices = s.notices)
        ∧ (∀ o, s.order b = some o →
          t.notices = s.notices ++ [.orderEnd o.request b (some .withdrawn) o.delivered false])
        ∧ s.sameBut t [.bays, .faults, .orders, .notices, .pollQueue, .fleetFlags, .changeSet])
      ∧ ((s.bay b).state = .transfer → ∀ o, s.order b = some o → o.phase ≠ .waitBind →
        exec (.releaseBay bay) s = .next ((s.setOrder b (some { o with
          phase := .decline, releaseAtEnd := true
          endCause := if o.phase = .decline then o.endCause else some .withdrawn })).answer .fleet [0, bay, 5]))

/-- TAKE BAY OUT by the state left (R24, R38): its order ends abruptly, a release pending starts from BINDING and export
mode and continues elsewhere, the hold stops, record, history and link are kept. -/
def Obligations.BayTakenOut : Prop :=
  ∀ (bay : Byte) (s : State), s.handed .fleet (.takeBayOut bay) →
    (15 < bay.toNat → exec (.takeBayOut bay) s = .next (s.answer .fleet [20]))
    ∧ ∀ b : BayNo, bay.toNat = b.val →
      ((s.bay b).state = .outOfService → exec (.takeBayOut bay) s = .next (s.answer .fleet [0, bay, 10]))
      ∧ ((s.bay b).state ≠ .outOfService → ∃ t : State,
        exec (.takeBayOut bay) s = .next (t.answer .fleet ([0, bay] ++ le1 (s.bay b).state.code))
        ∧ let starts : Bool := (s.bay b).state.engaged
          t.bay b = { s.bay b with
            state := .outOfService, candidate := none, stateTimer := none, settleTimer := none, checkDue := false
            releasePending := starts || (s.bay b).releasePending
            releaseTimer := if starts then some 10 else (s.bay b).releaseTimer }
          ∧ t.faultSet b = { s.faultSet b with
            hold := none
            tracking := if (s.bay b).state = .transfer then 0 else (s.faultSet b).tracking
            releaseTimedOut := if starts then false else (s.faultSet b).releaseTimedOut }
          ∧ t.order b = none ∧ (starts = true → b ∈ t.pollQueue)
          ∧ t.notices = s.notices ++ (match s.order b with
              | some o => [.orderEnd o.request b (some .withdrawn) o.delivered true]
              | none => []) ++ [.change .bay]
          ∧ t.fleet.flags = s.fleet.flags ||| 0x05#8 ∧ t.changeSet = s.changeSet ||| BitVec.twoPow 16 b.val
          ∧ s.otherBays t b
          ∧ s.sameBut t [.bays, .faults, .orders, .notices, .pollQueue, .fleetFlags, .changeSet])

/-- RESTORE BAY (R24, R40): refused unless OUT_OF_SERVICE with no release pending; then record and history cleared, the
link cleared, DETECTED or EMPTY by the last reply, one notice. -/
def Obligations.BayRestored : Prop :=
  ∀ (bay : Byte) (s : State), s.handed .fleet (.restoreBay bay) →
    (15 < bay.toNat → exec (.restoreBay bay) s = .next (s.answer .fleet [20]))
    ∧ ∀ b : BayNo, bay.toNat = b.val →
      ((s.bay b).state ≠ .outOfService ∨ (s.bay b).releasePending = true →
        exec (.restoreBay bay) s = .next (s.answer .fleet [21]))
      ∧ ((s.bay b).state = .outOfService → (s.bay b).releasePending = false → s.linksAgree → ∃ t : State,
        exec (.restoreBay bay) s = .next (t.answer .fleet [0, bay, if (s.bay b).tele.plug then 1 else 0])
        ∧ (t.bay b).state = (if (s.bay b).tele.plug then .detected else .empty)
        ∧ (t.bay b).candidate = (if (s.bay b).tele.plug then some (s.bay b).tele.vehicle else none)
        ∧ (t.bay b).link = none ∧ (t.bay b).tele = (s.bay b).tele ∧ (t.bay b).ratedCap = (s.bay b).ratedCap
        ∧ ((s.bay b).link ≠ none → (t.bay b).capEff = 0 ∧ (t.bay b).guardArmed = false)
        ∧ (∀ v ∈ t.roster, v.bayLink ≠ some b)
        ∧ t.faultSet b = { s.faultSet b with history := [], record := ⟨.none, none, [], 0, 0⟩ }
        ∧ t.notices = s.notices ++ [.change .bay]
        ∧ t.fleet.flags = s.fleet.flags ||| 0x01#8 ∧ t.changeSet = s.changeSet ||| BitVec.twoPow 16 b.val
        ∧ s.otherBays t b
        ∧ s.sameBut t [.roster, .bays, .faults, .notices, .fleetFlags, .changeSet])

/-! ### The device state -/

/-- START and RESUME (R151): the checks in order, RUN with DEVICE_STATE on both ports, no change in RUN, refused on the
grid port. -/
def Obligations.StartAndResume : Prop :=
  (∀ (c : Instr) (s : State), c = .start ∨ c = .resume → s.handed .fleet c →
    let refused (code : Byte) : Prop := exec c s = .next (s.answer .fleet [code])
    (c = .resume → s.device = .config → refused 5)
    ∧ (s.device = .run → exec c s = .next (s.answer .fleet [0, 1]))
    ∧ (s.device ≠ .run → ¬(c = .resume ∧ s.device = .config) →
      (s.siteValid = false → refused 5)
      ∧ (s.siteValid = true → s.clockValid = false → refused 6)
      ∧ (s.siteValid = true → s.clockValid = true →
        exec c s = .next ({ s with
          device := .run
          grid := { s.grid with flags := s.grid.flags ||| 0x08#8 }
          fleet := { s.fleet with flags := s.fleet.flags ||| 0x20#8 } }.answer .fleet [0, 1]))))
  ∧ decodeFrame .grid [0x2A] false = .error .notPermitted ∧ decodeFrame .grid [0x2B] false = .error .notPermitted

/-- TRIP, taken whole on either port (R29, R85, R107, R108, R152): orders, bays, requests, device state, events and
reply. The model's choices: REQUEST_ENDED when any request left (log entry 15), and a delivered total that leaves out the
order-end notices that still wait (log entry 16). -/
def Obligations.TripEndsEverything : Prop :=
  ∀ (p : Port) (s : State), s.handed p (.trip p) → s.ordersEngaged → s.queueSound →
    ∃ t : State,
      exec (.trip p) s = .next (t.answer p ([0] ++ le1 t.device.code ++ le1 s.queue.length
        ++ le1 (allBays.filter fun b => (s.bay b).state.engaged).length))
      ∧ t.device = (if s.device = .run then .halted else s.device)
      ∧ (∀ b, t.order b = none ∧ t.setPoint b = 0)
      ∧ (∀ b, (s.bay b).state.engaged = false → t.bay b = s.bay b ∧ t.faultSet b = s.faultSet b)
      ∧ (∀ b, (s.bay b).state.engaged = true → b ∈ t.pollQueue
          ∧ t.bay b = { s.bay b with
              state := .releasing, candidate := none, stateTimer := none, settleTimer := none, checkDue := false
              releasePending := true, releaseTimer := some 10 })
      ∧ (∀ b : BayNo, t.changeSet.getLsbD b.val = (s.changeSet.getLsbD b.val || (s.bay b).state.engaged))
      ∧ t.queue = []
      ∧ ((∀ r ∈ s.queue, r.isHeld = true) → t.lastResult = s.lastResult)
      ∧ (∀ front r back, s.queue = front ++ r :: back → r.isHeld = false → (∀ q ∈ back, q.isHeld = true) →
        ∃ total, t.lastResult = some ⟨r.id, .trip, r.submitted, total, r.submitted * r.length - total⟩
          ∧ total % 4294967296 = (r.delivered + (allBays.map fun b => match s.order b with
              | some o => if o.request = r.id then o.delivered else 0
              | none => 0).sum) % 4294967296)
      ∧ t.grid.flags = (if s.queue = [] then s.grid.flags ||| 0x08#8 else s.grid.flags ||| 0x0C#8)
      ∧ t.fleet.flags = (if ∃ b, (s.bay b).state.engaged = true then s.fleet.flags ||| 0x21#8
          else s.fleet.flags ||| 0x20#8)
      ∧ s.sameBut t [.device, .bays, .faults, .orders, .queue, .lastResult, .notices, .pollQueue, .gridFlags,
          .fleetFlags, .changeSet]

/-- RESET DEVICE (R16, R44, R86, R111, R128, R143, R153, R174): what the soft reset keeps and what it sets. -/
def Obligations.SoftResetKeepsAndSets : Prop :=
  ∀ s : State, s.handed .fleet .resetDevice → ∃ t : State,
    exec .resetDevice s = .next (t.answer .fleet [0, 0])
    ∧ t.device = .config ∧ t.uptime = 0
    ∧ t.roster = s.roster.map (fun v => { v with bayLink := none })
    ∧ (∀ b, t.bay b = ⟨.empty, none, none, ⟨false, false, false, .none, 0, 0, 0, 0, 0⟩, (s.bay b).ratedCap, 0, 0, none,
        none, false, none, 0, false, 0, false⟩)
    ∧ (∀ b, t.faultSet b = ⟨⟨.none, none, [], 0, 0⟩, [], none, 0, false⟩)
    ∧ (∀ b, t.order b = none)
    ∧ t.queue = [] ∧ t.lastResult = none ∧ t.notices = []
    ∧ (∀ b, t.line b = ⟨0, 0, 0, true, false⟩)
    ∧ t.pollQueue = allBays ∧ t.exchange = none ∧ t.changeSet = 0
    ∧ t.fleet = { s.fleet with flags := 0x40, overrun := false, err := false }
    ∧ t.grid = { s.grid with
        flags := 0x10, overrun := false, err := false, reply := [], progress := .idle, ready := false
        transaction := s.grid.transaction.map fun tr => { tr with discard := true } }
    ∧ s.sameBut t [.device, .uptime, .roster, .bays, .faults, .orders, .queue, .lastResult, .notices, .lines, .pollQueue,
        .exchange, .grid, .gridFlags, .fleet, .fleetFlags, .changeSet]

/-! ### Time -/

/-- TIMEBASE SECOND (R17, R31, R71, R105, R121, R135, R145, R146, R147): uptime and clock advance with every count, the
countdowns of the requests and the fault holds in every case; where no guard is evaluated and no shortfall is tested,
nothing else happens. The model's choices: a window or countdown that
reaches its end is taken by a step after the second (log entry 1), an interval counts by the bay's state when the second
is taken (log entry 5), and a class period is tested with the class at the second (log entry 26). -/
def Obligations.SecondAdvancesCounts : Prop :=
  ∀ s : State, ∃ t, exec .timebaseSecond s = .next t
    ∧ t.uptime = s.uptime + 1
    ∧ t.clock = (if s.clock + 1 < 86400 then s.clock + 1 else 0)
    ∧ (∀ b, t.line b = { s.line b with
        classTimer := (s.line b).classTimer + 1
        periodDue := decide ((match (s.bay b).state with
          | .binding | .transfer | .checking | .releasing => 1
          | .detected | .parked | .bound | .cooldown => 5
          | .empty => 30
          | .fault => if (s.bay b).releasePending then 1 else 5
          | .outOfService => if (s.bay b).releasePending then 1 else 30) ≤ (s.line b).classTimer + 1) })
    ∧ s.sameBut t [.clock, .uptime, .bays, .faults, .orders, .queue, .notices, .lines, .pollQueue, .fleetFlags,
        .changeSet]
    ∧ (s.queueSound → List.Forall₂ (fun q q' : Request => match q.state with
        | .held countdown => q' = { q with state := .held (countdown - 1) }
        | .active remaining _ => ∃ eligible, q' = { q with list := q'.list, state := .active (remaining - 1) eligible }
        | .ending _ => q' = q) s.queue t.queue)
    ∧ (∀ b, (t.faultSet b).hold = (s.faultSet b).hold.map (· - 1) ∧ (t.faultSet b).record = (s.faultSet b).record
      ∧ (t.faultSet b).history = (s.faultSet b).history)
    ∧ ((∀ r ∈ s.queue, r.isActive = true → r.current ≤ targetSum r.list) →
      t.queue = s.queue.map (fun r => { r with state := match r.state with
        | .held countdown => .held (countdown - 1)
        | .active remaining eligible => .active (remaining - 1) eligible
        | .ending cause => .ending cause }))
    ∧ (s.clockValid = false ∨ (∀ b v, s.linkedVehicle? b = some v → v.departure = none) →
      (∀ r ∈ s.queue, r.isActive = true → r.current ≤ targetSum r.list) →
      (∀ b, t.bay b = { s.bay b with
          stateTimer := (s.bay b).stateTimer.map (· - 1), settleTimer := (s.bay b).settleTimer.map (· - 1)
          releaseTimer := (s.bay b).releaseTimer.map (· - 1)
          interval := if (s.bay b).state.exporting then (s.bay b).interval + 1 else (s.bay b).interval }
        ∧ t.faultSet b = { s.faultSet b with hold := (s.faultSet b).hold.map (· - 1) }
        ∧ t.order b = (s.order b).map fun o =>
          { o with cutTimer := o.cutTimer.map (· - 1), stepDue := decide (o.phase ≠ .waitBind) })
      ∧ s.sameBut t [.clock, .uptime, .bays, .faults, .orders, .queue, .lines])

/-- The newly-eligible test at a second (R71, R76): with a shortfall and an eligible bay outside the eligible set the
ACTIVE request is re-split on the state `a` the second has counted, which leaves the state `u` in which the second then
evaluates the departure guards (R35), on every state with its orders in place (`Obligations.OrdersStayOnEngagedBays`). That
order within the second is the model's choice (log entry 5), and so is that removed orders come by ascending bay and new
ones in split order (log entry 25). -/
def Obligations.NewlyEligibleBayResplits : Prop :=
  ∀ (s : State) (r : Request) (remaining : Nat) (found : List BayNo),
    let a := s.advanceTimers
    let prof := s.profileAt r.profile
    let terms : Terms := ⟨r.id, prof, r.current, remaining - 1, max (remaining - 1) 1, true⟩
    s.queueSound → s.ordersPlaced → r ∈ s.queue → r.state = .active remaining found → 1 < remaining →
    targetSum r.list < r.current →
    ∃ u t : State, exec .timebaseSecond s = .next t
      ∧ u.guardsTaken t
      ∧ t.queue = u.queue
      ∧ a.sameBut u [.queue, .bays, .faults, .orders, .notices, .pollQueue, .fleetFlags, .changeSet]
      ∧ ((∃ b, b ∉ found ∧ a.eligible terms b = true) →
        u.request? r.id = some { r with
          list := (a.evaluate terms).list, state := .active (remaining - 1) (a.evaluate terms).eligible }
        ∧ a.ordersAligned u r.id (remaining - 1) prof.ps (a.evaluate terms).list)
      ∧ ((∀ b, b ∉ found → a.eligible terms b = false) →
        u = a ∧ u.request? r.id = some { r with state := .active (remaining - 1) found })

/-- The departure guard of every bay at a second (R35, R36, R104), the ACTIVE request having no shortfall: it acts by the
bay's state, is armed again, or is left alone, on the state the second has counted; of the fault set a release clears the
release timed out flag and nothing else changes. That it comes after the counts is the
model's choice (log entry 5). -/
def Obligations.DepartureGuardActs : Prop :=
  ∀ s : State, (∀ r ∈ s.queue, r.isActive = true → r.current ≤ targetSum r.list) →
    ∃ t, exec .timebaseSecond s = .next t ∧ s.advanceTimers.guardsTaken t

/-- CHECK_DUE, DEFERRAL_LIMIT, SETTLE_EXPIRY and COOLDOWN_EXPIRY (R21, R27, R30 to R33, R97, R104). The model's choices:
an expiry that does not stand is not taken (log entry 2), nor a check while a settle timer still waits (log entry 30). -/
def Obligations.BayTimersExpire : Prop :=
  ∀ (b : BayNo) (s : State),
    ((s.bay b).interval < 900 ∨ (s.bay b).checkDue = true → exec (.checkDue b) s = .next s)
    ∧ (900 ≤ (s.bay b).interval → (s.bay b).checkDue = false →
      ((s.bay b).state = .bound → (s.bay b).settleTimer ≠ none → exec (.checkDue b) s = .next s)
      ∧ ((s.bay b).state = .bound → (s.bay b).settleTimer = none → ∃ t, exec (.checkDue b) s = .next t
        ∧ t.bay b = { s.bay b with state := .checking, candidate := none, stateTimer := some 15 }
        ∧ b ∈ t.pollQueue ∧ s.otherBays t b ∧ t.order b = s.order b
        ∧ s.sameBut t [.bays, .faults, .pollQueue, .fleetFlags, .changeSet])
      ∧ ((s.bay b).state = .transfer →
        exec (.checkDue b) s = .next { s with bays := s.bays.set b { s.bay b with checkDue := true } }))
    ∧ (1800 ≤ (s.bay b).interval → (s.bay b).state = .transfer → ∀ o, s.order b = some o → o.phase ≠ .waitBind →
      exec (.deferralLimit b) s = .next (s.setOrder b (some { o with
        phase := .decline, endCause := if o.phase = .decline then o.endCause else some .isolationDue
        cutTimer := if o.cutTimer = none then some 60 else o.cutTimer })))
    ∧ ((s.bay b).interval < 1800 ∨ (s.bay b).state ≠ .transfer → exec (.deferralLimit b) s = .next s)
    ∧ ((s.bay b).settleTimer = some 0 → ∃ t, exec (.settleExpiry b) s = .next t ∧ (t.bay b).settleTimer = none
      ∧ s.otherBays t b
      ∧ (∀ o, s.order b = some o → (s.bay b).state = .bound → o.phase = .waitBind → ∃ sp,
        sp = min (s.profileOf o.request).ps
          (min (s.bay b).capEff (min (o.quota - o.delivered) (s.site.limit
            - ((allBays.filter (· ≠ b)).map s.setPoint).sum)))
        ∧ t.bay b = { s.bay b with state := .transfer, candidate := none, settleTimer := none }
        ∧ t.order b = some { o with
            delivered := o.delivered + sp, level := sp, phase := if sp = o.target then .hold else .rise
            stepDue := false }
        ∧ b ∈ t.pollQueue)
      ∧ (s.order b = none → t.bay b = { s.bay b with settleTimer := none } ∧ t.order b = none
        ∧ s.sameBut t [.bays])
      ∧ s.sameBut t [.bays, .faults, .orders, .pollQueue, .fleetFlags, .changeSet])
    ∧ ((s.bay b).state = .cooldown → (s.bay b).stateTimer = some 0 → ∃ t, exec (.cooldownExpiry b) s = .next t
      ∧ (t.bay b).state = .parked ∧ (t.bay b).stateTimer = none ∧ s.otherBays t b
      ∧ s.parkedLink t b
      ∧ s.sameBut t [.roster, .bays, .faults, .fleetFlags, .changeSet])
    ∧ ((s.bay b).settleTimer ≠ some 0 → exec (.settleExpiry b) s = .next s)
    ∧ ((s.bay b).state ≠ .cooldown ∨ (s.bay b).stateTimer ≠ some 0 → exec (.cooldownExpiry b) s = .next s)

/-- BINDING_TIMER_EXPIRY and CHECK_TIMER_EXPIRY take the bay to FAULT, or out of service at the third history entry
(R26, R34, R117, R124). -/
def Obligations.TimerFaultsEnter : Prop :=
  ∀ (b : BayNo) (s : State),
    ((s.bay b).state = .binding → (s.bay b).stateTimer = some 0 → ∃ t, exec (.bindingTimerExpiry b) s = .next t
      ∧ s.faultEntered t b .prechargeTimeout
      ∧ s.sameBut t [.bays, .faults, .orders, .notices, .pollQueue, .fleetFlags, .changeSet])
    ∧ ((s.bay b).state = .checking → (s.bay b).stateTimer = some 0 → ∃ t, exec (.checkTimerExpiry b) s = .next t
      ∧ s.faultEntered t b .isolation
      ∧ s.sameBut t [.bays, .faults, .orders, .notices, .pollQueue, .fleetFlags, .changeSet])
    ∧ ((s.bay b).state ≠ .binding ∨ (s.bay b).stateTimer ≠ some 0 → exec (.bindingTimerExpiry b) s = .next s)
    ∧ ((s.bay b).state ≠ .checking ∨ (s.bay b).stateTimer ≠ some 0 → exec (.checkTimerExpiry b) s = .next s)

/-- RELEASE_TIMER_EXPIRY by the rows of R125, and HOLD_EXPIRY with the exit test of R122 (R30, R121). -/
def Obligations.ReleaseAndHoldExpire : Prop :=
  ∀ (b : BayNo) (s : State),
    ((s.bay b).releasePending = false ∨ (s.bay b).releaseTimer ≠ some 0 → exec (.releaseTimerExpiry b) s = .next s)
    ∧ ((s.bay b).releasePending = true → (s.bay b).releaseTimer = some 0 → ∃ t, exec (.releaseTimerExpiry b) s = .next t
      ∧ (t.bay b).releasePending = true ∧ (t.bay b).releaseTimer = some 10 ∧ (t.faultSet b).releaseTimedOut = true
      ∧ (t.faultSet b).history = (s.faultSet b).history ∧ (t.bay b).link = (s.bay b).link ∧ s.otherBays t b
      ∧ s.sameBut t [.bays, .faults, .notices, .fleetFlags, .changeSet]
      ∧ ((s.bay b).state = .releasing ∨ (s.bay b).state = .fault →
        (t.bay b).state = .outOfService ∧ (t.faultSet b).hold = none
        ∧ t.fleet.flags = s.fleet.flags ||| 0x07#8 ∧ t.changeSet = s.changeSet ||| BitVec.twoPow 16 b.val
        ∧ t.notices = s.notices ++ [.change .bay])
      ∧ ((s.bay b).state = .releasing →
        (t.faultSet b).record = ⟨.opened, some .releaseTimeout, [], s.uptime, 0⟩)
      ∧ ((s.bay b).state = .fault → (s.faultSet b).record.later.length < 4 →
        (s.faultSet b).record.holds .releaseTimeout = false →
        (t.faultSet b).record
          = { (s.faultSet b).record with later := (s.faultSet b).record.later ++ [.releaseTimeout] })
      ∧ ((s.bay b).state = .fault →
        4 ≤ (s.faultSet b).record.later.length ∨ (s.faultSet b).record.holds .releaseTimeout = true →
        (t.faultSet b).record = (s.faultSet b).record)
      ∧ ((s.bay b).state = .outOfService → (t.bay b).state = .outOfService ∧ t.notices = s.notices
        ∧ ((s.faultSet b).releaseTimedOut = true →
          (t.faultSet b).record = (s.faultSet b).record ∧ t.fleet = s.fleet)
        ∧ ((s.faultSet b).releaseTimedOut = false → (s.faultSet b).record.status ≠ .opened →
          (t.faultSet b).record = ⟨.opened, some .releaseTimeout, [], s.uptime, 0⟩
          ∧ t.fleet.flags = s.fleet.flags ||| 0x02#8)
        ∧ ((s.faultSet b).releaseTimedOut = false → (s.faultSet b).record.status = .opened →
          let fresh := (s.faultSet b).record.fresh [.releaseTimeout]
          (t.faultSet b).record = (s.faultSet b).record.withFresh fresh
          ∧ t.fleet.flags = if fresh = [] then s.fleet.flags else s.fleet.flags ||| 0x02#8)))
    ∧ ((s.bay b).state ≠ .fault ∨ (s.faultSet b).hold ≠ some 0 → exec (.holdExpiry b) s = .next s)
    ∧ ((s.bay b).state = .fault → (s.faultSet b).hold = some 0 →
      let passes : Prop := (s.line b).miss = 0 ∧ (s.siteValid = true → (s.bay b).tele.temp < s.site.thz)
        ∧ (s.bay b).tele.faultCode = 0 ∧ (s.bay b).tele.contactorClosed = false
      (passes → ∃ t, exec (.holdExpiry b) s = .next t
        ∧ (t.bay b).state = .parked ∧ s.parkedLink t b ∧ (t.faultSet b).hold = none
        ∧ (t.faultSet b).history = (s.faultSet b).history
        ∧ ((s.faultSet b).record.status = .opened →
          (t.faultSet b).record = { (s.faultSet b).record with status := .closed, exit := s.uptime })
        ∧ t.notices = s.notices ++ [.change .bay] ∧ s.otherBays t b
        ∧ s.sameBut t [.roster, .bays, .faults, .notices, .fleetFlags, .changeSet])
      ∧ (¬passes → exec (.holdExpiry b) s
        = .next { s with faults := s.faults.set b { s.faultSet b with hold := none } }))

/-! ### Requests and orders -/

/-- ACTIVATION (R46, R72, R87, R94): the submitted grant split over lead + length, the record, the orders with their first
steps, the events; nothing while a request is ACTIVE (log entry 1) or while no request is due (log entry 2). -/
def Obligations.ActivationSplitsGrant : Prop :=
  ∀ s : State, s.queueSound → s.ordersEngaged →
    ((∃ r ∈ s.queue, r.isActive = true) → exec .activation s = .next s)
    ∧ ((∀ r ∈ s.queue, ∀ countdown, r.state = .held countdown → (s.profileAt r.profile).lead < countdown) →
      exec .activation s = .next s)
    ∧ ∀ front r back countdown, s.queue = front ++ r :: back → r.state = .held countdown →
      countdown ≤ (s.profileAt r.profile).lead → (∀ q ∈ s.queue, q.isActive = false) →
      (∀ q ∈ front, ∀ d, q.state = .held d → (s.profileAt q.profile).lead < d) →
      let prof := s.profileAt r.profile
      let window := prof.lead + r.length
      let a := s.evaluate ⟨r.id, prof, r.submitted, window, window, false⟩
      ∃ t, exec .activation s = .next t
        ∧ t.queue = front ++ { r with list := a.list, current := a.grant, state := .active window a.eligible } :: back
        ∧ (∀ ahead e after, a.list = ahead ++ e :: after → s.order e.bay = none →
          s.orderCreated t e.bay r.id e.target (e.target * window) prof.ps (ahead.map (·.bay)))
        ∧ (∀ b, (∀ e ∈ a.list, e.bay ≠ b) → t.order b = s.order b ∧ t.bay b = s.bay b)
        ∧ t.grid = { s.grid with flags := s.grid.flags ||| (if a.grant < r.current then 0x03#8 else 0x01#8) }
        ∧ s.sameBut t [.queue, .orders, .bays, .faults, .pollQueue, .gridFlags, .fleetFlags, .changeSet]

/-- ORDER_STEP and CUT_TIMER_EXPIRY (R96 to R102, R105, R110): each phase's next level, the four limits, the affordability
tests, the decline to the floor and the end. -/
def Obligations.OrderStepsByPhase : Prop :=
  ∀ (b : BayNo) (o : Order) (s : State), s.order b = some o → (s.bay b).state = .transfer →
    let p := s.profileOf o.request
    let rem := o.quota - o.delivered
    let limited (level : Nat) : Nat := min level (min (s.bay b).capEff (min rem (s.site.limit
      - ((allBays.filter (· ≠ b)).map s.setPoint).sum)))
    let issued (level : Nat) (phase : Phase) : Order :=
      { o with delivered := o.delivered + limited level, level := limited level, phase := phase, stepDue := false }
    let issues (level : Nat) (phase : Phase) : Prop := ∃ t, exec (.orderStep b) s = .next t
      ∧ t.order b = some (issued level phase) ∧ b ∈ t.pollQueue ∧ s.otherBays t b
      ∧ s.sameBut t [.orders, .pollQueue]
    let asOrder (o' : Order) : Prop := exec (.orderStep b) s = exec (.orderStep b) (s.setOrder b (some o'))
    let affordable (level : Nat) : Prop := level + p.declineEnergy level ≤ rem
    let up := if p.ps ≤ o.level then min o.target (o.level + p.stepSize o.level) else p.ps
    let down := max p.ps (o.level - p.stepSize o.level)
    let quota : Order := { o with phase := .decline, endCause := some .quota }
    (o.stepDue = false → exec (.orderStep b) s = .next s)
    ∧ (o.stepDue = true →
      (o.phase = .rise →
        (affordable up → issues up (if up = o.target then .hold else .rise))
        ∧ (¬affordable up → p.ps ≤ o.level → affordable o.level → issues o.level .hold)
        ∧ (¬affordable up → ¬(p.ps ≤ o.level ∧ affordable o.level) → asOrder quota))
      ∧ (o.phase = .hold →
        (o.level < p.ps → asOrder { o with phase := .rise })
        ∧ (p.ps ≤ o.level → affordable o.level → issues o.level .hold)
        ∧ (p.ps ≤ o.level → ¬affordable o.level → asOrder quota))
      ∧ (o.phase = .lower →
        (o.target < o.level →
          issues (max o.target (o.level - p.stepSize o.level))
            (if max o.target (o.level - p.stepSize o.level) = o.target then .hold else .lower))
        ∧ (o.level ≤ o.target → asOrder { o with phase := .hold }))
      ∧ (o.phase = .decline →
        (o.level ≤ p.ps → ∃ t, exec (.orderStep b) s = .next t ∧ s.orderEnded t b o)
        ∧ (p.ps < o.level → limited down ≠ p.ps → issues down .decline)
        ∧ (p.ps < o.level → limited down = p.ps → ∃ t, exec (.orderStep b) s = .next t
          ∧ s.orderEnded t b (issued down .decline))))
    ∧ (o.cutTimer = some 0 → ∃ t, exec (.cutTimerExpiry b) s = .next t ∧ s.orderEnded t b o)
    ∧ (o.cutTimer ≠ some 0 → exec (.cutTimerExpiry b) s = .next s)

/-- ORDER_END_NOTICE (R74, R75): the energy joins the request's total, the last order of an ENDING request takes it out
of the queue, and an ACTIVE request is re-split unless the cause or a bay-change notice says otherwise, on every state with
its orders in place (`Obligations.OrdersStayOnEngagedBays`). That notices are taken first in, first out (log entry 3), that
removed orders come by ascending bay and that new ones come in split order (log entry 25) are the model's choices. -/
def Obligations.OrderEndNoticeTaken : Prop :=
  ∀ (id : Nat) (b : BayNo) (cause : Option EndCause) (energy : Nat) (byTransition : Bool) (rest : List Notice)
    (s s' : State), s' = { s with notices := rest } →
    s.notices = .orderEnd id b cause energy byTransition :: rest → s.queueSound → s.ordersPlaced →
    ((∀ r ∈ s.queue, r.id ≠ id) → exec .orderEndNotice s = .next s')
    ∧ ∀ r ∈ s.queue, r.id = id → ∃ t, exec .orderEndNotice s = .next t
      ∧ s.sameBut t requestWrites
      ∧ let total := (r.delivered + energy) % 4294967296
        (∀ remaining eligible, r.state = .active remaining eligible →
          (cause = some .windowEnd ∨ cause = some .curtail ∨ byTransition = true →
            t.request? id = some { r with delivered := total } ∧ s'.sameBut t [.queue])
          ∧ (cause ≠ some .windowEnd → cause ≠ some .curtail → byTransition = false →
            let prof := s.profileAt r.profile
            let a := s.evaluate ⟨id, prof, r.current, remaining, max remaining 1, true⟩
            t.request? id
              = some { r with delivered := total, list := a.list, state := .active remaining a.eligible }
            ∧ s'.sameBut t [.queue, .notices, .bays, .faults, .orders, .pollQueue, .fleetFlags, .changeSet]
            ∧ s'.ordersAligned t id remaining prof.ps a.list))
        ∧ (∀ countdown, r.state = .held countdown →
          t.request? id = some { r with delivered := total } ∧ s'.sameBut t [.queue])
        ∧ (∀ q ∈ s.queue, q.id ≠ id → t.request? q.id = some q)
        ∧ (∀ endCause, r.state = .ending endCause →
          let more : Prop := (∃ b' c e m, Notice.orderEnd id b' c e m ∈ rest)
            ∨ ∃ b' o, s.order b' = some o ∧ o.request = id
          (more → t.request? id = some { r with delivered := total } ∧ s'.sameBut t [.queue])
          ∧ (¬more → s.requestLeft t r endCause total ∧ s'.sameBut t [.queue, .lastResult, .gridFlags]))

/-- CHANGE_NOTICE (R47, R81 to R83): the HELD grants are kept or lowered, an ENDING request is untouched, the ACTIVE one
is re-split with its grant kept, and GRANT_REDUCED is raised exactly when a grant fell. The reviews are taken in queue
order, each reading the lists that the reviews before it wrote, and the re-split reads every reviewed list (R47). The notice
leaves the list, and the order ends that the re-split makes are handed behind those that wait (R74, R81). This on every
state with its orders in place (`Obligations.OrdersStayOnEngagedBays`). That notices wait in one list (log entry 3), that
removed orders come by ascending bay and that new ones come in split order (log entry 25) are the model's choices. -/
def Obligations.ChangeNoticeReviewsAndResplits : Prop :=
  ∀ (source : NoticeSource) (rest : List Notice) (s : State), s.notices = .change source :: rest → s.queueSound →
    s.ordersPlaced → ∃ t, exec .changeNotice s = .next t
      ∧ s.sameBut t [.queue, .notices, .bays, .faults, .orders, .pollQueue, .fleetFlags, .changeSet, .gridFlags]
      ∧ List.Forall₂ (fun q q' : Request => match q.state with
          | .held _ => q' = { q with list := q'.list, current := q'.current } ∧ q'.current ≤ q.current
              ∧ targetSum q'.list = q'.current
          | .active remaining _ => (∃ eligible, q' = { q with list := q'.list, state := .active remaining eligible })
              ∧ targetSum q'.list ≤ q.current
          | .ending _ => q' = q) s.queue t.queue
      ∧ (let fell : Prop := t.queue.map (fun q => q.current) ≠ s.queue.map (fun q => q.current)
        t.grid = { s.grid with flags := if fell then s.grid.flags ||| 0x02#8 else s.grid.flags })
      ∧ (∀ front r back, s.queue = front ++ r :: back → ∀ countdown, r.state = .held countdown →
        ∀ front' r' back', t.queue = front' ++ r' :: back' → front'.length = front.length →
        let prof := s.profileAt r.profile
        let seen := { s with queue := front' ++ r :: back }
        let a := seen.evaluate ⟨r.id, prof, r.current, countdown + r.length, prof.lead + r.length, false⟩
        r' = { r with list := a.list, current := a.grant })
      ∧ (∀ r ∈ s.queue, ∀ remaining eligible, r.state = .active remaining eligible →
        let prof := s.profileAt r.profile
        let seen := { s with queue := t.queue }
        let a := seen.evaluate ⟨r.id, prof, r.current, remaining, max remaining 1, true⟩
        t.request? r.id = some { r with list := a.list, state := .active remaining a.eligible }
        ∧ { s with notices := rest }.ordersAligned t r.id remaining prof.ps a.list)
      ∧ ((∀ r ∈ s.queue, r.isActive = false) →
        { s with notices := rest }.sameBut t [.queue, .gridFlags])

/-- The step function and the decline energy (R89, R90): the first band above the level, the last band at the top, the
sequence of a decline and the manual's sums and bound. The reserve need (R53): the floor alone without a departure,
otherwise the larger of the floor and what the recharge before the departure leaves to keep, a departure before the window
end leaving no recharge (R106). -/
def Obligations.RampAndReserveArithmetic : Prop :=
  (∀ (p : Profile) (front : List Band) (b : Band) (back : List Band) (level : Nat), p.bands = front ++ b :: back →
    (∀ x ∈ front, x.bound ≤ level) → level < b.bound ∨ back = [] → p.stepSize level = b.step)
  ∧ (∀ (p : Profile) (level : Nat), p.valid = true →
    (level ≤ p.ps → p.declineEnergy level = 0)
    ∧ (p.ps < level → p.declineLevel level = max p.ps (level - p.stepSize level) ∧ p.declineLevel level < level
      ∧ p.declineEnergy level = p.declineLevel level + p.declineEnergy (p.declineLevel level))
    ∧ (level ≤ 1200 → p.declineEnergy level < 1200000))
  ∧ (∀ lead, let p : Profile := ⟨50, lead, [⟨1200, 40⟩]⟩
    p.declineEnergy 90 = 50 ∧ p.declineEnergy 130 = 140 ∧ p.declineEnergy 200 = 410)
  ∧ (∀ lead, (⟨50, lead, [⟨200, 20⟩, ⟨900, 60⟩, ⟨1200, 20⟩]⟩ : Profile).declineEnergy 300 = 1130)
  ∧ ∀ (v : Vehicle) (eta clock windowEnd : Nat),
    (v.departure = none → reserveNeed v eta clock windowEnd = v.floor)
    ∧ ∀ d, v.departure = some d → ∀ left : Nat, (left : Int) = ((d.minute : Int) * 60 - (clock : Int)) % 86400 →
      (left < windowEnd → reserveNeed v eta clock windowEnd = max v.floor d.qDep)
      ∧ (windowEnd ≤ left → (reserveNeed v eta clock windowEnd : Int)
        = max (v.floor : Int) ((d.qDep : Int) - min 16777215 ((v.pChg : Int) * ((left : Int) - windowEnd) * eta / 1000)))
      ∧ (v.floor ≤ v.capacity → d.qDep ≤ v.capacity →
        v.floor ≤ reserveNeed v eta clock windowEnd ∧ reserveNeed v eta clock windowEnd ≤ v.capacity)

/-! ### The Bay Link -/

/-- POLL_CLASS_PERIOD, POLL_START and POLL_END (R129 to R136, R143, R179): the join that keeps its place, the poll's nine
bytes from the state as it stands, those bytes on BL_TX bit by bit, least significant bit first between a start bit and a
stop bit, and the listening after it. -/
def Obligations.PollsJoinAndStart : Prop :=
  (∀ (b : BayNo) (s : State),
    ((s.line b).periodDue = false → exec (.pollClassPeriod b) s = .next s)
    ∧ ((s.line b).periodDue = true → exec (.pollClassPeriod b) s = .next { s with
        lines := s.lines.set b { s.line b with periodDue := false }
        pollQueue := if b ∈ s.pollQueue then s.pollQueue else s.pollQueue ++ [b] }))
  ∧ (∀ s : State, s.exchange ≠ none ∨ s.pollQueue = [] → exec .pollStart s = .next s)
  ∧ (∀ (b : BayNo) (rest : List BayNo) (s : State), s.exchange = none → s.pollQueue = b :: rest →
    ∃ (flags address : Byte) (body : List Byte),
      let l := s.line b
      let setPoint := if l.resync then 0 else s.setPoint b
      exec .pollStart s = .next { s with
        pollQueue := rest
        lines := s.lines.set b { l with seq := l.seq + 1, classTimer := 0, resync := false, periodDue := false }
        exchange := some ⟨b, l.seq + 1, setPoint, [0xC3] ++ body ++ [crc8 body], false⟩ }
      ∧ body = [address, flags, 0x00] ++ le2 setPoint ++ (le2 setPoint).map (fun x => ~~~x)
      ∧ address.toNat = 16 * b.val + (l.seq + 1).toNat
      ∧ (flags.getLsbD 7 = true ↔ l.resync = false ∧ (s.bay b).state.exporting = true)
      ∧ (flags.getLsbD 6 = true ↔ l.resync = false ∧ ((s.bay b).state = .parked ∨ (s.bay b).state = .bound)
          ∧ ∀ r ∈ s.queue, r.isHeld = true)
      ∧ (flags.getLsbD 5 = true ↔ l.resync = false ∧ (s.bay b).state = .binding)
      ∧ (flags.getLsbD 4 = true ↔ l.resync = true ∨ (s.bay b).state = .releasing
          ∨ (((s.bay b).state = .fault ∨ (s.bay b).state = .outOfService) ∧ (s.bay b).releasePending = true))
      ∧ (flags.getLsbD 3 = true ↔ l.resync = false ∧ (s.bay b).state = .checking)
      ∧ flags.getLsbD 2 = false ∧ flags.getLsbD 1 = false ∧ flags.getLsbD 0 = false)
  ∧ (∀ (x : Exchange) (s : State), s.exchange = some x →
    exec .pollEnd s = .next { s with exchange := some { x with listening := true } })
  ∧ (∀ s : State, s.exchange = none → exec .pollEnd s = .next s ∧ ∀ time, s.blTx time = none)
  ∧ ∀ (x : Exchange) (s : State), s.exchange = some x →
    (x.listening = true → ∀ time, s.blTx time = none)
    ∧ (∀ time, 10 * x.frame.length ≤ time → s.blTx time = none)
    ∧ (x.listening = false → ∀ place byte, x.frame[place]? = some byte →
      s.blTx (10 * place) = some .start ∧ s.blTx (10 * place + 9) = some .stop
      ∧ ∀ k, k < 8 → s.blTx (10 * place + 1 + k) = some (.data (byte.getLsbD k)))

/-- A valid reply moves the bay (R19 to R23, R26, R30, R34, R39, R139, R140): its telemetry is written within its
limits, both caps are formed from it (R42), the miss count returns to 0, and the bay's state follows plug, number,
contactor, DC link and check. An unplug or change of bus closes an open record of a bay in FAULT and hands a notice (R22,
R24). That a change of bus makes no join for the order it ends is the model's choice (log entry 29). -/
def Obligations.ValidReplyMovesBay : Prop :=
  ∀ (bytes : List Byte) (x : Exchange) (s : State), s.validReply x bytes → s.linksAgree →
    let b := x.bay
    let r := s.bay b
    let status := byteAt bytes 1
    let number := (wordAt bytes 3).toNat
    let closed := status.getLsbD 6
    let temp : Int := min 170 ((byteAt bytes 10).toNat - 80 : Int)
    let held := r.link.getD r.tele.vehicle
    let plugged : Prop := status.getLsbD 7 = true
    let sameBus : Prop := plugged ∧ number = held
    let healthy : Prop := byteAt bytes 2 = 0 ∧ (s.siteValid = true → temp < s.site.tmax)
    ∃ t, exec (.replyReceived bytes false) s = .next t
      ∧ t.exchange = none ∧ t.line b = { s.line b with miss := 0 } ∧ s.otherBays t b
      ∧ (let u := (t.bay b).tele
        u.plug = status.getLsbD 7 ∧ u.contactorClosed = closed ∧ u.dcReady = status.getLsbD 5
        ∧ u.check.code = (status.toNat / 8) % 4 ∧ u.faultCode = min 15 (byteAt bytes 2).toNat ∧ u.vehicle = number
        ∧ u.power = max (-1200) (min 1200 (wordAt bytes 5).toInt) ∧ u.temp = temp
        ∧ u.energy ≤ (tripleAt bytes 7).toNat
        ∧ (r.link = none → (t.bay b).link = none → u.energy = (tripleAt bytes 7).toNat)
        ∧ ∀ v, s.linkedVehicle? b = some v → u.energy = min (tripleAt bytes 7).toNat v.capacity)
      ∧ ((t.bay b).ratedCap = r.ratedCap
        ∧ (t.bay b).tempCap = (if s.siteValid = true then derate s.site r.ratedCap temp else 0)
        ∧ ((t.bay b).link = none → (t.bay b).capEff = 0)
        ∧ ∀ v, t.linkedVehicle? b = some v → (t.bay b).capEff = min r.ratedCap (min v.pDis (t.bay b).tempCap))
      ∧ (r.state = .empty → (t.bay b).state = (if status.getLsbD 7 then .detected else .empty)
          ∧ (plugged → (t.bay b).candidate = some number))
      ∧ (r.state = .detected →
        (¬plugged → (t.bay b).state = .empty ∧ (t.bay b).candidate = none)
        ∧ (plugged → r.candidate ≠ some number →
          (t.bay b).state = .detected ∧ (t.bay b).candidate = some number)
        ∧ (plugged → r.candidate = some number → healthy → (t.bay b).state = .parked ∧ s.parkedLink t b
          ∧ t.notices = s.notices ++ [.change .bay]))
      ∧ (r.state ≠ .empty → r.state ≠ .detected → r.state ≠ .outOfService → ¬sameBus →
        t.order b = none ∧ (t.bay b).link = none ∧ (t.bay b).stateTimer = none ∧ (t.bay b).settleTimer = none
        ∧ (t.bay b).releasePending = false ∧ (t.bay b).checkDue = false ∧ (t.bay b).guardArmed = false
        ∧ (t.faultSet b).hold = none ∧ (t.faultSet b).history = (s.faultSet b).history
        ∧ t.notices = s.notices ++ (match s.order b with
            | some o => [.orderEnd o.request b (some .unplug) o.delivered true]
            | none => []) ++ [.change .bay]
        ∧ t.pollQueue = s.pollQueue
        ∧ (t.faultSet b).record = (if r.state = .fault ∧ (s.faultSet b).record.status = .opened then
            { (s.faultSet b).record with status := .closed, exit := s.uptime } else (s.faultSet b).record)
        ∧ (t.bay b).state = (if status.getLsbD 7 then .detected else .empty)
        ∧ (t.bay b).candidate = (if status.getLsbD 7 then some number else none))
      ∧ (r.state = .binding → sameBus → healthy →
        (closed = true → status.getLsbD 5 = true →
          (t.bay b).state = .bound ∧ (t.bay b).settleTimer = some 5 ∧ (t.bay b).stateTimer = none
          ∧ (t.bay b).interval = 0 ∧ (t.bay b).checkDue = false ∧ (t.bay b).bindTime = s.uptime
          ∧ t.order b = s.order b)
        ∧ (closed = false ∨ status.getLsbD 5 = false →
          (t.bay b).state = .binding ∧ (t.bay b).stateTimer = r.stateTimer ∧ t.order b = s.order b))
      ∧ (r.state = .checking → sameBus → healthy →
        (status.toNat / 8 % 4 = 2 →
          (t.bay b).state = .bound ∧ (t.bay b).interval = 0 ∧ (t.bay b).stateTimer = none)
        ∧ (status.toNat / 8 % 4 < 2 → (t.bay b).state = .checking ∧ (t.bay b).stateTimer = r.stateTimer)
        ∧ (status.toNat / 8 % 4 = 3 →
          ((t.bay b).state = .fault ∨ (t.bay b).state = .outOfService)
          ∧ (t.faultSet b).record.first = some .isolation))
      ∧ (r.state = .releasing → sameBus → healthy →
        (closed = false → (t.bay b).state = .cooldown ∧ (t.bay b).stateTimer = some 20
          ∧ (t.bay b).releasePending = false ∧ (t.bay b).releaseTimer = none)
        ∧ (closed = true → (t.bay b).state = .releasing ∧ (t.bay b).releaseTimer = r.releaseTimer))
      ∧ (r.state = .outOfService → (t.bay b).state = .outOfService
        ∧ (¬plugged ∨ (r.link ≠ none ∧ r.link ≠ some number) →
          (t.bay b).link = none ∧ ∀ v ∈ t.roster, v.bayLink ≠ some b)
        ∧ (r.releasePending = true → closed = false → (t.bay b).releasePending = false))
      ∧ s.sameBut t [.roster, .bays, .faults, .orders, .notices, .lines, .pollQueue, .exchange, .fleetFlags, .changeSet]

/-- A valid reply of the bus that stands there, and every valid reply in OUT_OF_SERVICE, is checked (R113 to R115, R117,
R119, R120, R122, R140) and drives the reserve guard (R106). A fault code, a hot battery, a failed check (taken before the
reply checks, log entry 18) or the fifth reply out of tolerance takes the bay to FAULT, from the state the reply's own
transition left it in; in FAULT and in OUT_OF_SERVICE only a kind not yet held has an effect, and an open contactor ends
a release pending (R30). A bay in FAULT stays there with its record, hold and history while its hold runs or the exit test
fails (R121, R122). In TRANSFER, in tolerance or not, an order whose reserve is short declines and any other stays as it
is. -/
def Obligations.ValidReplyChecksAndGuards : Prop :=
  ∀ (bytes : List Byte) (x : Exchange) (s : State), s.validReply x bytes →
    let b := x.bay
    let r := s.bay b
    let temp : Int := min 170 ((byteAt bytes 10).toNat - 80 : Int)
    let power : Int := max (-1200) (min 1200 (wordAt bytes 5).toInt)
    let number := (wordAt bytes 3).toNat
    let closed := (byteAt bytes 1).getLsbD 6
    let hot : Prop := s.siteValid = true ∧ s.site.tmax ≤ temp
    let outOf : Prop := max 20 (x.setPoint / 10) < (power - (x.setPoint : Int)).natAbs
    let failed : Prop := r.state = .checking ∧ (byteAt bytes 1).toNat / 8 % 4 = 3
    let untracked : Prop := r.state = .transfer ∧ s.policy.detectTracking = true ∧ outOf ∧ 4 ≤ (s.faultSet b).tracking
    let reported : List FaultKind := (if byteAt bytes 2 ≠ 0 then [.bayReported] else [])
      ++ (if hot then [.overTemp] else [])
    let causes := (if failed then [.isolation] else []) ++ reported ++ (if untracked then [.tracking] else [])
    let f := s.faultSet b
    let fresh := f.record.fresh reported
    let standing : Prop := (byteAt bytes 1).getLsbD 7 = true
      ∧ if r.state = .detected then r.candidate = some number else number = r.link.getD r.tele.vehicle
    (standing ∨ r.state = .outOfService) →
    ∃ t, exec (.replyReceived bytes false) s = .next t
      ∧ (causes ≠ [] → r.state ≠ .empty → r.state ≠ .fault → r.state ≠ .outOfService →
        s.faultByReply t b causes
        ∧ (r.state = .binding ∨ r.state.exporting = true →
          (t.bay b).releasePending = true ∧ (t.bay b).releaseTimer = some 10 ∧ b ∈ t.pollQueue)
        ∧ (r.state = .releasing → (t.bay b).releasePending = (closed && r.releasePending)
          ∧ (t.bay b).releaseTimer = if closed then r.releaseTimer else none))
      ∧ (causes = [] → r.state = .parked ∨ r.state = .bound ∨ r.state = .cooldown →
        (t.bay b).state = r.state ∧ t.order b = s.order b ∧ t.notices = s.notices)
      ∧ (r.state = .transfer → causes = [] →
        (t.bay b).state = .transfer ∧ t.notices = s.notices
        ∧ (s.policy.detectTracking = true → outOf → (t.faultSet b).tracking = f.tracking + 1)
        ∧ (s.policy.detectTracking = false ∨ ¬outOf → (t.faultSet b).tracking = 0)
        ∧ (s.linkedVehicle? b = none → t.order b = s.order b ∧ t.fleet = s.fleet)
        ∧ (∀ o, s.order b = some o → o.phase = .waitBind ∨ o.phase = .decline
            ∨ (∀ q, s.request? o.request = some q → q.isActive = false) →
          t.order b = some o ∧ t.fleet = s.fleet)
        ∧ ∀ o v q remaining eligible, s.order b = some o → s.linkedVehicle? b = some v →
          s.request? o.request = some q → q.state = .active remaining eligible →
          let p := s.profileAt q.profile
          let short : Prop := min (tripleAt bytes 7).toNat v.capacity
            < reserveNeed v s.site.eta s.clock remaining + o.level + p.declineEnergy o.level
          (short → o.phase = .rise ∨ o.phase = .hold ∨ o.phase = .lower →
            t.order b = some { o with phase := .decline, endCause := some .reserveGuard }
            ∧ t.fleet.flags = s.fleet.flags ||| 0x08#8)
          ∧ (¬short ∨ o.phase = .waitBind ∨ o.phase = .decline → t.order b = some o ∧ t.fleet = s.fleet))
      ∧ (r.state = .fault ∨ r.state = .outOfService →
        let ends : Prop := r.releasePending = true ∧ closed = false
        (ends → (t.bay b).releasePending = false ∧ (t.bay b).releaseTimer = none
          ∧ (t.faultSet b).releaseTimedOut = false)
        ∧ (¬ends → (t.bay b).releasePending = r.releasePending ∧ (t.bay b).releaseTimer = r.releaseTimer
          ∧ (t.faultSet b).releaseTimedOut = f.releaseTimedOut))
      ∧ (r.state = .fault → reported = [] →
        f.hold ≠ none ∨ closed = true ∨ (s.siteValid = true ∧ s.site.thz ≤ temp) →
        (t.bay b).state = .fault ∧ (t.bay b).link = r.link ∧ (t.faultSet b).record = f.record
        ∧ (t.faultSet b).hold = f.hold ∧ (t.faultSet b).history = f.history ∧ t.order b = s.order b
        ∧ t.notices = s.notices ∧ t.changeSet = s.changeSet ∧ t.fleet = s.fleet)
      ∧ (r.state = .fault → f.hold = none → reported = [] → closed = false →
        (s.siteValid = true → temp < s.site.thz) →
        (t.bay b).state = .parked ∧ (t.bay b).releasePending = false ∧ t.notices = s.notices ++ [.change .bay]
        ∧ (f.record.status = .opened →
          (t.faultSet b).record = { f.record with status := .closed, exit := s.uptime }))
      ∧ (r.state = .fault → reported ≠ [] → fresh ≠ [] ∨ byteAt bytes 2 ≠ 0 ∨ s.site.thz ≤ s.site.tmax →
        (t.bay b).state = .fault ∧ (t.faultSet b).record = f.record.withFresh fresh
        ∧ (t.faultSet b).hold = (if fresh = [] then f.hold else some s.site.hold)
        ∧ (t.faultSet b).history = f.history ∧ t.notices = s.notices ∧ t.changeSet = s.changeSet
        ∧ t.fleet.flags = if fresh = [] then s.fleet.flags else s.fleet.flags ||| 0x02#8)
      ∧ (r.state = .outOfService → (t.bay b).state = .outOfService
        ∧ (t.faultSet b).hold = f.hold ∧ (t.faultSet b).history = f.history ∧ t.notices = s.notices
        ∧ (f.record.status = .opened → (t.faultSet b).record = f.record.withFresh fresh
          ∧ t.fleet.flags.getLsbD 1 = (s.fleet.flags.getLsbD 1 || decide (fresh ≠ [])))
        ∧ (f.record.status ≠ .opened → reported ≠ [] →
          (t.faultSet b).record = ⟨.opened, reported.head?, reported.tail, s.uptime, 0⟩
          ∧ t.fleet.flags.getLsbD 1 = true))

/-- Misses (R116, R119, R120, R137, R138, R141, R145): both timeouts and a reply that is not valid count one, up to 3; the third
takes a detecting bay to FAULT with LINK_LOST, restarts the hold of a bay in FAULT and is recorded in OUT_OF_SERVICE, in
both only when the open record does not hold it yet; nothing else changes. -/
def Obligations.MissesCountToLinkLost : Prop :=
  ∀ (c : Instr) (s : State),
    (∀ x, s.exchange = some x → x.listening = true →
      (c = .replyStartTimeout ∨ (∃ received, c = .replyIncompleteTimeout received)
        ∨ ∃ bytes framing, c = .replyReceived bytes framing ∧ bytes.length = 14 ∧ (framing = true
            ∨ crc8 (bytes.take 13) ≠ byteAt bytes 13
            ∨ (byteAt bytes 0).toNat ≠ 16 * x.bay.val + x.seq.toNat)) →
      let b := x.bay
      let counted : State := { s with
        exchange := none, lines := s.lines.set b { s.line b with miss := min 3 ((s.line b).miss + 1) } }
      ((s.line b).miss ≠ 2 ∨ (s.bay b).state = .empty ∨ (s.bay b).state = .detected → exec c s = .next counted)
      ∧ ((s.line b).miss = 2 → (s.bay b).state ≠ .empty → (s.bay b).state ≠ .detected → (s.bay b).state ≠ .fault →
        (s.bay b).state ≠ .outOfService → ∃ t, exec c s = .next t ∧ counted.faultEntered t b .linkLost
          ∧ counted.sameBut t [.bays, .faults, .orders, .notices, .pollQueue, .fleetFlags, .changeSet])
      ∧ let f := s.faultSet b
        let fresh := f.record.fresh [.linkLost]
        let recorded (f' : FaultSet) : State := { counted with
          faults := s.faults.set b f', fleet := { s.fleet with flags := s.fleet.flags ||| 0x02#8 } }
        ((s.line b).miss = 2 → (s.bay b).state = .fault →
          (fresh = [] → exec c s = .next counted)
          ∧ (fresh ≠ [] → exec c s = .next (recorded
            { f with record := f.record.withFresh fresh, hold := some s.site.hold })))
        ∧ ((s.line b).miss = 2 → (s.bay b).state = .outOfService →
          (f.record.status = .opened → fresh = [] → exec c s = .next counted)
          ∧ (f.record.status = .opened → fresh ≠ [] →
            exec c s = .next (recorded { f with record := f.record.withFresh fresh }))
          ∧ (f.record.status ≠ .opened →
            exec c s = .next (recorded { f with record := ⟨.opened, some .linkLost, [], s.uptime, 0⟩ }))))
    ∧ ((∀ x, s.exchange = some x → x.listening = false) →
      (c = .replyStartTimeout ∨ (∃ received, c = .replyIncompleteTimeout received)
        ∨ ∃ bytes framing, c = .replyReceived bytes framing) → exec c s = .next s)

/-! ### Invariants -/

/-- The set-points together stay within the site export limit, and no order delivers more than its quota (R102). -/
def Obligations.SetPointsStayWithinLimits : Prop :=
  ∀ s t : State, s.withinSiteLimit ∧ s.withinQuotas → step s = .next t → t.withinSiteLimit ∧ t.withinQuotas

/-- The two halves of every link stay paired, in a roster of at most 48 distinct numbers (R1, R3). -/
def Obligations.LinksStayPaired : Prop := ∀ s t : State, s.linksAgree → step s = .next t → t.linksAgree

/-- The queue stays within four distinct requests with one ACTIVE (R65), and outside RUN it is empty and no bay is bound
(R150). -/
def Obligations.QueueStaysSound : Prop :=
  ∀ s t : State, s.queueSound ∧ s.idleOutsideRun → step s = .next t → t.queueSound ∧ t.idleOutsideRun

/-- Each bay keeps the order its state asks for (R18, R93, R95): BINDING one in WAIT_BIND, BOUND none or one in WAIT_BIND
while its settle timer runs, TRANSFER exactly one, every other state none. So orders stand only on bays in BINDING or in
export mode. A check does not start while a settle timer still waits (log entry 30). -/
def Obligations.OrdersStayOnEngagedBays : Prop :=
  (∀ s : State, s.ordersPlaced → s.ordersEngaged)
  ∧ ∀ s t : State, s.ordersPlaced → step s = .next t → t.ordersPlaced

/-- The poll queue holds no bay twice (R134); clock and settings stay in range, RUN and HALTED have both valid, and a
marked change set goes with BAY_CHANGE (R147, R150, R154, R168). -/
def Obligations.ControlsStaySound : Prop :=
  ∀ s t : State, s.pollQueueSound ∧ s.controlsSound → step s = .next t → t.pollQueueSound ∧ t.controlsSound

/-- Every invariant holds after a power-on reset. -/
def Obligations.InvariantsHoldAtReset : Prop :=
  State.reset.withinSiteLimit ∧ State.reset.withinQuotas ∧ State.reset.linksAgree ∧ State.reset.queueSound
    ∧ State.reset.idleOutsideRun ∧ State.reset.ordersEngaged ∧ State.reset.ordersPlaced ∧ State.reset.pollQueueSound ∧ State.reset.controlsSound
end

