-- ==== Sys2Proof/Laws/State.lean ====
section
/-! SUPPORT. What each update of the state leaves in each field: one equation per field per update, and the reading back
of banks. -/

namespace Sys2Proof.Machine

/-! ### setBay -/

@[simp] theorem State.setBay_pending (s : State) (b : BayNo) (r : BayRecord) : (s.setBay b r).pending = s.pending := rfl
@[simp] theorem State.setBay_device (s : State) (b : BayNo) (r : BayRecord) : (s.setBay b r).device = s.device := rfl
@[simp] theorem State.setBay_clock (s : State) (b : BayNo) (r : BayRecord) : (s.setBay b r).clock = s.clock := rfl
@[simp] theorem State.setBay_clockValid (s : State) (b : BayNo) (r : BayRecord) : (s.setBay b r).clockValid = s.clockValid := rfl
@[simp] theorem State.setBay_uptime (s : State) (b : BayNo) (r : BayRecord) : (s.setBay b r).uptime = s.uptime := rfl
@[simp] theorem State.setBay_site (s : State) (b : BayNo) (r : BayRecord) : (s.setBay b r).site = s.site := rfl
@[simp] theorem State.setBay_siteValid (s : State) (b : BayNo) (r : BayRecord) : (s.setBay b r).siteValid = s.siteValid := rfl
@[simp] theorem State.setBay_roster (s : State) (b : BayNo) (r : BayRecord) : (s.setBay b r).roster = s.roster := rfl
@[simp] theorem State.setBay_bays (s : State) (b : BayNo) (r : BayRecord) : (s.setBay b r).bays = s.bays.set b r := rfl
@[simp] theorem State.setBay_faults (s : State) (b : BayNo) (r : BayRecord) : (s.setBay b r).faults = s.faults := rfl
@[simp] theorem State.setBay_policy (s : State) (b : BayNo) (r : BayRecord) : (s.setBay b r).policy = s.policy := rfl
@[simp] theorem State.setBay_orders (s : State) (b : BayNo) (r : BayRecord) : (s.setBay b r).orders = s.orders := rfl
@[simp] theorem State.setBay_profiles (s : State) (b : BayNo) (r : BayRecord) : (s.setBay b r).profiles = s.profiles := rfl
@[simp] theorem State.setBay_queue (s : State) (b : BayNo) (r : BayRecord) : (s.setBay b r).queue = s.queue := rfl
@[simp] theorem State.setBay_lastResult (s : State) (b : BayNo) (r : BayRecord) : (s.setBay b r).lastResult = s.lastResult := rfl
@[simp] theorem State.setBay_notices (s : State) (b : BayNo) (r : BayRecord) : (s.setBay b r).notices = s.notices := rfl
@[simp] theorem State.setBay_lines (s : State) (b : BayNo) (r : BayRecord) : (s.setBay b r).lines = s.lines := rfl
@[simp] theorem State.setBay_pollQueue (s : State) (b : BayNo) (r : BayRecord) : (s.setBay b r).pollQueue = s.pollQueue := rfl
@[simp] theorem State.setBay_exchange (s : State) (b : BayNo) (r : BayRecord) : (s.setBay b r).exchange = s.exchange := rfl
@[simp] theorem State.setBay_grid (s : State) (b : BayNo) (r : BayRecord) : (s.setBay b r).grid = s.grid := rfl
@[simp] theorem State.setBay_fleet (s : State) (b : BayNo) (r : BayRecord) : (s.setBay b r).fleet = s.fleet := rfl
@[simp] theorem State.setBay_changeSet (s : State) (b : BayNo) (r : BayRecord) : (s.setBay b r).changeSet = s.changeSet := rfl

/-! ### setFaultSet -/

@[simp] theorem State.setFaultSet_pending (s : State) (b : BayNo) (r : FaultSet) : (s.setFaultSet b r).pending = s.pending := rfl
@[simp] theorem State.setFaultSet_device (s : State) (b : BayNo) (r : FaultSet) : (s.setFaultSet b r).device = s.device := rfl
@[simp] theorem State.setFaultSet_clock (s : State) (b : BayNo) (r : FaultSet) : (s.setFaultSet b r).clock = s.clock := rfl
@[simp] theorem State.setFaultSet_clockValid (s : State) (b : BayNo) (r : FaultSet) : (s.setFaultSet b r).clockValid = s.clockValid := rfl
@[simp] theorem State.setFaultSet_uptime (s : State) (b : BayNo) (r : FaultSet) : (s.setFaultSet b r).uptime = s.uptime := rfl
@[simp] theorem State.setFaultSet_site (s : State) (b : BayNo) (r : FaultSet) : (s.setFaultSet b r).site = s.site := rfl
@[simp] theorem State.setFaultSet_siteValid (s : State) (b : BayNo) (r : FaultSet) : (s.setFaultSet b r).siteValid = s.siteValid := rfl
@[simp] theorem State.setFaultSet_roster (s : State) (b : BayNo) (r : FaultSet) : (s.setFaultSet b r).roster = s.roster := rfl
@[simp] theorem State.setFaultSet_bays (s : State) (b : BayNo) (r : FaultSet) : (s.setFaultSet b r).bays = s.bays := rfl
@[simp] theorem State.setFaultSet_faults (s : State) (b : BayNo) (r : FaultSet) : (s.setFaultSet b r).faults = s.faults.set b r := rfl
@[simp] theorem State.setFaultSet_policy (s : State) (b : BayNo) (r : FaultSet) : (s.setFaultSet b r).policy = s.policy := rfl
@[simp] theorem State.setFaultSet_orders (s : State) (b : BayNo) (r : FaultSet) : (s.setFaultSet b r).orders = s.orders := rfl
@[simp] theorem State.setFaultSet_profiles (s : State) (b : BayNo) (r : FaultSet) : (s.setFaultSet b r).profiles = s.profiles := rfl
@[simp] theorem State.setFaultSet_queue (s : State) (b : BayNo) (r : FaultSet) : (s.setFaultSet b r).queue = s.queue := rfl
@[simp] theorem State.setFaultSet_lastResult (s : State) (b : BayNo) (r : FaultSet) : (s.setFaultSet b r).lastResult = s.lastResult := rfl
@[simp] theorem State.setFaultSet_notices (s : State) (b : BayNo) (r : FaultSet) : (s.setFaultSet b r).notices = s.notices := rfl
@[simp] theorem State.setFaultSet_lines (s : State) (b : BayNo) (r : FaultSet) : (s.setFaultSet b r).lines = s.lines := rfl
@[simp] theorem State.setFaultSet_pollQueue (s : State) (b : BayNo) (r : FaultSet) : (s.setFaultSet b r).pollQueue = s.pollQueue := rfl
@[simp] theorem State.setFaultSet_exchange (s : State) (b : BayNo) (r : FaultSet) : (s.setFaultSet b r).exchange = s.exchange := rfl
@[simp] theorem State.setFaultSet_grid (s : State) (b : BayNo) (r : FaultSet) : (s.setFaultSet b r).grid = s.grid := rfl
@[simp] theorem State.setFaultSet_fleet (s : State) (b : BayNo) (r : FaultSet) : (s.setFaultSet b r).fleet = s.fleet := rfl
@[simp] theorem State.setFaultSet_changeSet (s : State) (b : BayNo) (r : FaultSet) : (s.setFaultSet b r).changeSet = s.changeSet := rfl

/-! ### setOrder -/

@[simp] theorem State.setOrder_pending (s : State) (b : BayNo) (o : Option Order) : (s.setOrder b o).pending = s.pending := rfl
@[simp] theorem State.setOrder_device (s : State) (b : BayNo) (o : Option Order) : (s.setOrder b o).device = s.device := rfl
@[simp] theorem State.setOrder_clock (s : State) (b : BayNo) (o : Option Order) : (s.setOrder b o).clock = s.clock := rfl
@[simp] theorem State.setOrder_clockValid (s : State) (b : BayNo) (o : Option Order) : (s.setOrder b o).clockValid = s.clockValid := rfl
@[simp] theorem State.setOrder_uptime (s : State) (b : BayNo) (o : Option Order) : (s.setOrder b o).uptime = s.uptime := rfl
@[simp] theorem State.setOrder_site (s : State) (b : BayNo) (o : Option Order) : (s.setOrder b o).site = s.site := rfl
@[simp] theorem State.setOrder_siteValid (s : State) (b : BayNo) (o : Option Order) : (s.setOrder b o).siteValid = s.siteValid := rfl
@[simp] theorem State.setOrder_roster (s : State) (b : BayNo) (o : Option Order) : (s.setOrder b o).roster = s.roster := rfl
@[simp] theorem State.setOrder_bays (s : State) (b : BayNo) (o : Option Order) : (s.setOrder b o).bays = s.bays := rfl
@[simp] theorem State.setOrder_faults (s : State) (b : BayNo) (o : Option Order) : (s.setOrder b o).faults = s.faults := rfl
@[simp] theorem State.setOrder_policy (s : State) (b : BayNo) (o : Option Order) : (s.setOrder b o).policy = s.policy := rfl
@[simp] theorem State.setOrder_orders (s : State) (b : BayNo) (o : Option Order) : (s.setOrder b o).orders = s.orders.set b o := rfl
@[simp] theorem State.setOrder_profiles (s : State) (b : BayNo) (o : Option Order) : (s.setOrder b o).profiles = s.profiles := rfl
@[simp] theorem State.setOrder_queue (s : State) (b : BayNo) (o : Option Order) : (s.setOrder b o).queue = s.queue := rfl
@[simp] theorem State.setOrder_lastResult (s : State) (b : BayNo) (o : Option Order) : (s.setOrder b o).lastResult = s.lastResult := rfl
@[simp] theorem State.setOrder_notices (s : State) (b : BayNo) (o : Option Order) : (s.setOrder b o).notices = s.notices := rfl
@[simp] theorem State.setOrder_lines (s : State) (b : BayNo) (o : Option Order) : (s.setOrder b o).lines = s.lines := rfl
@[simp] theorem State.setOrder_pollQueue (s : State) (b : BayNo) (o : Option Order) : (s.setOrder b o).pollQueue = s.pollQueue := rfl
@[simp] theorem State.setOrder_exchange (s : State) (b : BayNo) (o : Option Order) : (s.setOrder b o).exchange = s.exchange := rfl
@[simp] theorem State.setOrder_grid (s : State) (b : BayNo) (o : Option Order) : (s.setOrder b o).grid = s.grid := rfl
@[simp] theorem State.setOrder_fleet (s : State) (b : BayNo) (o : Option Order) : (s.setOrder b o).fleet = s.fleet := rfl
@[simp] theorem State.setOrder_changeSet (s : State) (b : BayNo) (o : Option Order) : (s.setOrder b o).changeSet = s.changeSet := rfl

/-! ### setLine -/

@[simp] theorem State.setLine_pending (s : State) (b : BayNo) (r : LineRecord) : (s.setLine b r).pending = s.pending := rfl
@[simp] theorem State.setLine_device (s : State) (b : BayNo) (r : LineRecord) : (s.setLine b r).device = s.device := rfl
@[simp] theorem State.setLine_clock (s : State) (b : BayNo) (r : LineRecord) : (s.setLine b r).clock = s.clock := rfl
@[simp] theorem State.setLine_clockValid (s : State) (b : BayNo) (r : LineRecord) : (s.setLine b r).clockValid = s.clockValid := rfl
@[simp] theorem State.setLine_uptime (s : State) (b : BayNo) (r : LineRecord) : (s.setLine b r).uptime = s.uptime := rfl
@[simp] theorem State.setLine_site (s : State) (b : BayNo) (r : LineRecord) : (s.setLine b r).site = s.site := rfl
@[simp] theorem State.setLine_siteValid (s : State) (b : BayNo) (r : LineRecord) : (s.setLine b r).siteValid = s.siteValid := rfl
@[simp] theorem State.setLine_roster (s : State) (b : BayNo) (r : LineRecord) : (s.setLine b r).roster = s.roster := rfl
@[simp] theorem State.setLine_bays (s : State) (b : BayNo) (r : LineRecord) : (s.setLine b r).bays = s.bays := rfl
@[simp] theorem State.setLine_faults (s : State) (b : BayNo) (r : LineRecord) : (s.setLine b r).faults = s.faults := rfl
@[simp] theorem State.setLine_policy (s : State) (b : BayNo) (r : LineRecord) : (s.setLine b r).policy = s.policy := rfl
@[simp] theorem State.setLine_orders (s : State) (b : BayNo) (r : LineRecord) : (s.setLine b r).orders = s.orders := rfl
@[simp] theorem State.setLine_profiles (s : State) (b : BayNo) (r : LineRecord) : (s.setLine b r).profiles = s.profiles := rfl
@[simp] theorem State.setLine_queue (s : State) (b : BayNo) (r : LineRecord) : (s.setLine b r).queue = s.queue := rfl
@[simp] theorem State.setLine_lastResult (s : State) (b : BayNo) (r : LineRecord) : (s.setLine b r).lastResult = s.lastResult := rfl
@[simp] theorem State.setLine_notices (s : State) (b : BayNo) (r : LineRecord) : (s.setLine b r).notices = s.notices := rfl
@[simp] theorem State.setLine_lines (s : State) (b : BayNo) (r : LineRecord) : (s.setLine b r).lines = s.lines.set b r := rfl
@[simp] theorem State.setLine_pollQueue (s : State) (b : BayNo) (r : LineRecord) : (s.setLine b r).pollQueue = s.pollQueue := rfl
@[simp] theorem State.setLine_exchange (s : State) (b : BayNo) (r : LineRecord) : (s.setLine b r).exchange = s.exchange := rfl
@[simp] theorem State.setLine_grid (s : State) (b : BayNo) (r : LineRecord) : (s.setLine b r).grid = s.grid := rfl
@[simp] theorem State.setLine_fleet (s : State) (b : BayNo) (r : LineRecord) : (s.setLine b r).fleet = s.fleet := rfl
@[simp] theorem State.setLine_changeSet (s : State) (b : BayNo) (r : LineRecord) : (s.setLine b r).changeSet = s.changeSet := rfl

/-! ### modBay -/

@[simp] theorem State.modBay_pending (s : State) (b : BayNo) (f : BayRecord → BayRecord) : (s.modBay b f).pending = s.pending := rfl
@[simp] theorem State.modBay_device (s : State) (b : BayNo) (f : BayRecord → BayRecord) : (s.modBay b f).device = s.device := rfl
@[simp] theorem State.modBay_clock (s : State) (b : BayNo) (f : BayRecord → BayRecord) : (s.modBay b f).clock = s.clock := rfl
@[simp] theorem State.modBay_clockValid (s : State) (b : BayNo) (f : BayRecord → BayRecord) : (s.modBay b f).clockValid = s.clockValid := rfl
@[simp] theorem State.modBay_uptime (s : State) (b : BayNo) (f : BayRecord → BayRecord) : (s.modBay b f).uptime = s.uptime := rfl
@[simp] theorem State.modBay_site (s : State) (b : BayNo) (f : BayRecord → BayRecord) : (s.modBay b f).site = s.site := rfl
@[simp] theorem State.modBay_siteValid (s : State) (b : BayNo) (f : BayRecord → BayRecord) : (s.modBay b f).siteValid = s.siteValid := rfl
@[simp] theorem State.modBay_roster (s : State) (b : BayNo) (f : BayRecord → BayRecord) : (s.modBay b f).roster = s.roster := rfl
@[simp] theorem State.modBay_bays (s : State) (b : BayNo) (f : BayRecord → BayRecord) : (s.modBay b f).bays = s.bays.set b (f (s.bay b)) := rfl
@[simp] theorem State.modBay_faults (s : State) (b : BayNo) (f : BayRecord → BayRecord) : (s.modBay b f).faults = s.faults := rfl
@[simp] theorem State.modBay_policy (s : State) (b : BayNo) (f : BayRecord → BayRecord) : (s.modBay b f).policy = s.policy := rfl
@[simp] theorem State.modBay_orders (s : State) (b : BayNo) (f : BayRecord → BayRecord) : (s.modBay b f).orders = s.orders := rfl
@[simp] theorem State.modBay_profiles (s : State) (b : BayNo) (f : BayRecord → BayRecord) : (s.modBay b f).profiles = s.profiles := rfl
@[simp] theorem State.modBay_queue (s : State) (b : BayNo) (f : BayRecord → BayRecord) : (s.modBay b f).queue = s.queue := rfl
@[simp] theorem State.modBay_lastResult (s : State) (b : BayNo) (f : BayRecord → BayRecord) : (s.modBay b f).lastResult = s.lastResult := rfl
@[simp] theorem State.modBay_notices (s : State) (b : BayNo) (f : BayRecord → BayRecord) : (s.modBay b f).notices = s.notices := rfl
@[simp] theorem State.modBay_lines (s : State) (b : BayNo) (f : BayRecord → BayRecord) : (s.modBay b f).lines = s.lines := rfl
@[simp] theorem State.modBay_pollQueue (s : State) (b : BayNo) (f : BayRecord → BayRecord) : (s.modBay b f).pollQueue = s.pollQueue := rfl
@[simp] theorem State.modBay_exchange (s : State) (b : BayNo) (f : BayRecord → BayRecord) : (s.modBay b f).exchange = s.exchange := rfl
@[simp] theorem State.modBay_grid (s : State) (b : BayNo) (f : BayRecord → BayRecord) : (s.modBay b f).grid = s.grid := rfl
@[simp] theorem State.modBay_fleet (s : State) (b : BayNo) (f : BayRecord → BayRecord) : (s.modBay b f).fleet = s.fleet := rfl
@[simp] theorem State.modBay_changeSet (s : State) (b : BayNo) (f : BayRecord → BayRecord) : (s.modBay b f).changeSet = s.changeSet := rfl

/-! ### modFault -/

@[simp] theorem State.modFault_pending (s : State) (b : BayNo) (f : FaultSet → FaultSet) : (s.modFault b f).pending = s.pending := rfl
@[simp] theorem State.modFault_device (s : State) (b : BayNo) (f : FaultSet → FaultSet) : (s.modFault b f).device = s.device := rfl
@[simp] theorem State.modFault_clock (s : State) (b : BayNo) (f : FaultSet → FaultSet) : (s.modFault b f).clock = s.clock := rfl
@[simp] theorem State.modFault_clockValid (s : State) (b : BayNo) (f : FaultSet → FaultSet) : (s.modFault b f).clockValid = s.clockValid := rfl
@[simp] theorem State.modFault_uptime (s : State) (b : BayNo) (f : FaultSet → FaultSet) : (s.modFault b f).uptime = s.uptime := rfl
@[simp] theorem State.modFault_site (s : State) (b : BayNo) (f : FaultSet → FaultSet) : (s.modFault b f).site = s.site := rfl
@[simp] theorem State.modFault_siteValid (s : State) (b : BayNo) (f : FaultSet → FaultSet) : (s.modFault b f).siteValid = s.siteValid := rfl
@[simp] theorem State.modFault_roster (s : State) (b : BayNo) (f : FaultSet → FaultSet) : (s.modFault b f).roster = s.roster := rfl
@[simp] theorem State.modFault_bays (s : State) (b : BayNo) (f : FaultSet → FaultSet) : (s.modFault b f).bays = s.bays := rfl
@[simp] theorem State.modFault_faults (s : State) (b : BayNo) (f : FaultSet → FaultSet) : (s.modFault b f).faults = s.faults.set b (f (s.faultSet b)) := rfl
@[simp] theorem State.modFault_policy (s : State) (b : BayNo) (f : FaultSet → FaultSet) : (s.modFault b f).policy = s.policy := rfl
@[simp] theorem State.modFault_orders (s : State) (b : BayNo) (f : FaultSet → FaultSet) : (s.modFault b f).orders = s.orders := rfl
@[simp] theorem State.modFault_profiles (s : State) (b : BayNo) (f : FaultSet → FaultSet) : (s.modFault b f).profiles = s.profiles := rfl
@[simp] theorem State.modFault_queue (s : State) (b : BayNo) (f : FaultSet → FaultSet) : (s.modFault b f).queue = s.queue := rfl
@[simp] theorem State.modFault_lastResult (s : State) (b : BayNo) (f : FaultSet → FaultSet) : (s.modFault b f).lastResult = s.lastResult := rfl
@[simp] theorem State.modFault_notices (s : State) (b : BayNo) (f : FaultSet → FaultSet) : (s.modFault b f).notices = s.notices := rfl
@[simp] theorem State.modFault_lines (s : State) (b : BayNo) (f : FaultSet → FaultSet) : (s.modFault b f).lines = s.lines := rfl
@[simp] theorem State.modFault_pollQueue (s : State) (b : BayNo) (f : FaultSet → FaultSet) : (s.modFault b f).pollQueue = s.pollQueue := rfl
@[simp] theorem State.modFault_exchange (s : State) (b : BayNo) (f : FaultSet → FaultSet) : (s.modFault b f).exchange = s.exchange := rfl
@[simp] theorem State.modFault_grid (s : State) (b : BayNo) (f : FaultSet → FaultSet) : (s.modFault b f).grid = s.grid := rfl
@[simp] theorem State.modFault_fleet (s : State) (b : BayNo) (f : FaultSet → FaultSet) : (s.modFault b f).fleet = s.fleet := rfl
@[simp] theorem State.modFault_changeSet (s : State) (b : BayNo) (f : FaultSet → FaultSet) : (s.modFault b f).changeSet = s.changeSet := rfl

/-! ### hand -/

@[simp] theorem State.hand_pending (s : State) (n : Notice) : (s.hand n).pending = s.pending := rfl
@[simp] theorem State.hand_device (s : State) (n : Notice) : (s.hand n).device = s.device := rfl
@[simp] theorem State.hand_clock (s : State) (n : Notice) : (s.hand n).clock = s.clock := rfl
@[simp] theorem State.hand_clockValid (s : State) (n : Notice) : (s.hand n).clockValid = s.clockValid := rfl
@[simp] theorem State.hand_uptime (s : State) (n : Notice) : (s.hand n).uptime = s.uptime := rfl
@[simp] theorem State.hand_site (s : State) (n : Notice) : (s.hand n).site = s.site := rfl
@[simp] theorem State.hand_siteValid (s : State) (n : Notice) : (s.hand n).siteValid = s.siteValid := rfl
@[simp] theorem State.hand_roster (s : State) (n : Notice) : (s.hand n).roster = s.roster := rfl
@[simp] theorem State.hand_bays (s : State) (n : Notice) : (s.hand n).bays = s.bays := rfl
@[simp] theorem State.hand_faults (s : State) (n : Notice) : (s.hand n).faults = s.faults := rfl
@[simp] theorem State.hand_policy (s : State) (n : Notice) : (s.hand n).policy = s.policy := rfl
@[simp] theorem State.hand_orders (s : State) (n : Notice) : (s.hand n).orders = s.orders := rfl
@[simp] theorem State.hand_profiles (s : State) (n : Notice) : (s.hand n).profiles = s.profiles := rfl
@[simp] theorem State.hand_queue (s : State) (n : Notice) : (s.hand n).queue = s.queue := rfl
@[simp] theorem State.hand_lastResult (s : State) (n : Notice) : (s.hand n).lastResult = s.lastResult := rfl
@[simp] theorem State.hand_notices (s : State) (n : Notice) : (s.hand n).notices = s.notices ++ [n] := rfl
@[simp] theorem State.hand_lines (s : State) (n : Notice) : (s.hand n).lines = s.lines := rfl
@[simp] theorem State.hand_pollQueue (s : State) (n : Notice) : (s.hand n).pollQueue = s.pollQueue := rfl
@[simp] theorem State.hand_exchange (s : State) (n : Notice) : (s.hand n).exchange = s.exchange := rfl
@[simp] theorem State.hand_grid (s : State) (n : Notice) : (s.hand n).grid = s.grid := rfl
@[simp] theorem State.hand_fleet (s : State) (n : Notice) : (s.hand n).fleet = s.fleet := rfl
@[simp] theorem State.hand_changeSet (s : State) (n : Notice) : (s.hand n).changeSet = s.changeSet := rfl

/-! ### modVehicle -/

@[simp] theorem State.modVehicle_pending (s : State) (n : Nat) (f : Vehicle → Vehicle) : (s.modVehicle n f).pending = s.pending := rfl
@[simp] theorem State.modVehicle_device (s : State) (n : Nat) (f : Vehicle → Vehicle) : (s.modVehicle n f).device = s.device := rfl
@[simp] theorem State.modVehicle_clock (s : State) (n : Nat) (f : Vehicle → Vehicle) : (s.modVehicle n f).clock = s.clock := rfl
@[simp] theorem State.modVehicle_clockValid (s : State) (n : Nat) (f : Vehicle → Vehicle) : (s.modVehicle n f).clockValid = s.clockValid := rfl
@[simp] theorem State.modVehicle_uptime (s : State) (n : Nat) (f : Vehicle → Vehicle) : (s.modVehicle n f).uptime = s.uptime := rfl
@[simp] theorem State.modVehicle_site (s : State) (n : Nat) (f : Vehicle → Vehicle) : (s.modVehicle n f).site = s.site := rfl
@[simp] theorem State.modVehicle_siteValid (s : State) (n : Nat) (f : Vehicle → Vehicle) : (s.modVehicle n f).siteValid = s.siteValid := rfl
@[simp] theorem State.modVehicle_roster (s : State) (n : Nat) (f : Vehicle → Vehicle) : (s.modVehicle n f).roster = s.roster.map fun v => if v.number == n then f v else v := rfl
@[simp] theorem State.modVehicle_bays (s : State) (n : Nat) (f : Vehicle → Vehicle) : (s.modVehicle n f).bays = s.bays := rfl
@[simp] theorem State.modVehicle_faults (s : State) (n : Nat) (f : Vehicle → Vehicle) : (s.modVehicle n f).faults = s.faults := rfl
@[simp] theorem State.modVehicle_policy (s : State) (n : Nat) (f : Vehicle → Vehicle) : (s.modVehicle n f).policy = s.policy := rfl
@[simp] theorem State.modVehicle_orders (s : State) (n : Nat) (f : Vehicle → Vehicle) : (s.modVehicle n f).orders = s.orders := rfl
@[simp] theorem State.modVehicle_profiles (s : State) (n : Nat) (f : Vehicle → Vehicle) : (s.modVehicle n f).profiles = s.profiles := rfl
@[simp] theorem State.modVehicle_queue (s : State) (n : Nat) (f : Vehicle → Vehicle) : (s.modVehicle n f).queue = s.queue := rfl
@[simp] theorem State.modVehicle_lastResult (s : State) (n : Nat) (f : Vehicle → Vehicle) : (s.modVehicle n f).lastResult = s.lastResult := rfl
@[simp] theorem State.modVehicle_notices (s : State) (n : Nat) (f : Vehicle → Vehicle) : (s.modVehicle n f).notices = s.notices := rfl
@[simp] theorem State.modVehicle_lines (s : State) (n : Nat) (f : Vehicle → Vehicle) : (s.modVehicle n f).lines = s.lines := rfl
@[simp] theorem State.modVehicle_pollQueue (s : State) (n : Nat) (f : Vehicle → Vehicle) : (s.modVehicle n f).pollQueue = s.pollQueue := rfl
@[simp] theorem State.modVehicle_exchange (s : State) (n : Nat) (f : Vehicle → Vehicle) : (s.modVehicle n f).exchange = s.exchange := rfl
@[simp] theorem State.modVehicle_grid (s : State) (n : Nat) (f : Vehicle → Vehicle) : (s.modVehicle n f).grid = s.grid := rfl
@[simp] theorem State.modVehicle_fleet (s : State) (n : Nat) (f : Vehicle → Vehicle) : (s.modVehicle n f).fleet = s.fleet := rfl
@[simp] theorem State.modVehicle_changeSet (s : State) (n : Nat) (f : Vehicle → Vehicle) : (s.modVehicle n f).changeSet = s.changeSet := rfl

/-! ### modRequest -/

@[simp] theorem State.modRequest_pending (s : State) (n : Nat) (f : Request → Request) : (s.modRequest n f).pending = s.pending := rfl
@[simp] theorem State.modRequest_device (s : State) (n : Nat) (f : Request → Request) : (s.modRequest n f).device = s.device := rfl
@[simp] theorem State.modRequest_clock (s : State) (n : Nat) (f : Request → Request) : (s.modRequest n f).clock = s.clock := rfl
@[simp] theorem State.modRequest_clockValid (s : State) (n : Nat) (f : Request → Request) : (s.modRequest n f).clockValid = s.clockValid := rfl
@[simp] theorem State.modRequest_uptime (s : State) (n : Nat) (f : Request → Request) : (s.modRequest n f).uptime = s.uptime := rfl
@[simp] theorem State.modRequest_site (s : State) (n : Nat) (f : Request → Request) : (s.modRequest n f).site = s.site := rfl
@[simp] theorem State.modRequest_siteValid (s : State) (n : Nat) (f : Request → Request) : (s.modRequest n f).siteValid = s.siteValid := rfl
@[simp] theorem State.modRequest_roster (s : State) (n : Nat) (f : Request → Request) : (s.modRequest n f).roster = s.roster := rfl
@[simp] theorem State.modRequest_bays (s : State) (n : Nat) (f : Request → Request) : (s.modRequest n f).bays = s.bays := rfl
@[simp] theorem State.modRequest_faults (s : State) (n : Nat) (f : Request → Request) : (s.modRequest n f).faults = s.faults := rfl
@[simp] theorem State.modRequest_policy (s : State) (n : Nat) (f : Request → Request) : (s.modRequest n f).policy = s.policy := rfl
@[simp] theorem State.modRequest_orders (s : State) (n : Nat) (f : Request → Request) : (s.modRequest n f).orders = s.orders := rfl
@[simp] theorem State.modRequest_profiles (s : State) (n : Nat) (f : Request → Request) : (s.modRequest n f).profiles = s.profiles := rfl
@[simp] theorem State.modRequest_queue (s : State) (n : Nat) (f : Request → Request) : (s.modRequest n f).queue = s.queue.map fun r => if r.id == n then f r else r := rfl
@[simp] theorem State.modRequest_lastResult (s : State) (n : Nat) (f : Request → Request) : (s.modRequest n f).lastResult = s.lastResult := rfl
@[simp] theorem State.modRequest_notices (s : State) (n : Nat) (f : Request → Request) : (s.modRequest n f).notices = s.notices := rfl
@[simp] theorem State.modRequest_lines (s : State) (n : Nat) (f : Request → Request) : (s.modRequest n f).lines = s.lines := rfl
@[simp] theorem State.modRequest_pollQueue (s : State) (n : Nat) (f : Request → Request) : (s.modRequest n f).pollQueue = s.pollQueue := rfl
@[simp] theorem State.modRequest_exchange (s : State) (n : Nat) (f : Request → Request) : (s.modRequest n f).exchange = s.exchange := rfl
@[simp] theorem State.modRequest_grid (s : State) (n : Nat) (f : Request → Request) : (s.modRequest n f).grid = s.grid := rfl
@[simp] theorem State.modRequest_fleet (s : State) (n : Nat) (f : Request → Request) : (s.modRequest n f).fleet = s.fleet := rfl
@[simp] theorem State.modRequest_changeSet (s : State) (n : Nat) (f : Request → Request) : (s.modRequest n f).changeSet = s.changeSet := rfl

/-! ### raiseGrid -/

@[simp] theorem State.raiseGrid_pending (s : State) (e : GridEvent) : (s.raiseGrid e).pending = s.pending := rfl
@[simp] theorem State.raiseGrid_device (s : State) (e : GridEvent) : (s.raiseGrid e).device = s.device := rfl
@[simp] theorem State.raiseGrid_clock (s : State) (e : GridEvent) : (s.raiseGrid e).clock = s.clock := rfl
@[simp] theorem State.raiseGrid_clockValid (s : State) (e : GridEvent) : (s.raiseGrid e).clockValid = s.clockValid := rfl
@[simp] theorem State.raiseGrid_uptime (s : State) (e : GridEvent) : (s.raiseGrid e).uptime = s.uptime := rfl
@[simp] theorem State.raiseGrid_site (s : State) (e : GridEvent) : (s.raiseGrid e).site = s.site := rfl
@[simp] theorem State.raiseGrid_siteValid (s : State) (e : GridEvent) : (s.raiseGrid e).siteValid = s.siteValid := rfl
@[simp] theorem State.raiseGrid_roster (s : State) (e : GridEvent) : (s.raiseGrid e).roster = s.roster := rfl
@[simp] theorem State.raiseGrid_bays (s : State) (e : GridEvent) : (s.raiseGrid e).bays = s.bays := rfl
@[simp] theorem State.raiseGrid_faults (s : State) (e : GridEvent) : (s.raiseGrid e).faults = s.faults := rfl
@[simp] theorem State.raiseGrid_policy (s : State) (e : GridEvent) : (s.raiseGrid e).policy = s.policy := rfl
@[simp] theorem State.raiseGrid_orders (s : State) (e : GridEvent) : (s.raiseGrid e).orders = s.orders := rfl
@[simp] theorem State.raiseGrid_profiles (s : State) (e : GridEvent) : (s.raiseGrid e).profiles = s.profiles := rfl
@[simp] theorem State.raiseGrid_queue (s : State) (e : GridEvent) : (s.raiseGrid e).queue = s.queue := rfl
@[simp] theorem State.raiseGrid_lastResult (s : State) (e : GridEvent) : (s.raiseGrid e).lastResult = s.lastResult := rfl
@[simp] theorem State.raiseGrid_notices (s : State) (e : GridEvent) : (s.raiseGrid e).notices = s.notices := rfl
@[simp] theorem State.raiseGrid_lines (s : State) (e : GridEvent) : (s.raiseGrid e).lines = s.lines := rfl
@[simp] theorem State.raiseGrid_pollQueue (s : State) (e : GridEvent) : (s.raiseGrid e).pollQueue = s.pollQueue := rfl
@[simp] theorem State.raiseGrid_exchange (s : State) (e : GridEvent) : (s.raiseGrid e).exchange = s.exchange := rfl
@[simp] theorem State.raiseGrid_grid (s : State) (e : GridEvent) : (s.raiseGrid e).grid = { s.grid with flags := s.grid.flags ||| gridBit e } := rfl
@[simp] theorem State.raiseGrid_fleet (s : State) (e : GridEvent) : (s.raiseGrid e).fleet = s.fleet := rfl
@[simp] theorem State.raiseGrid_changeSet (s : State) (e : GridEvent) : (s.raiseGrid e).changeSet = s.changeSet := rfl

/-! ### raiseFleet -/

@[simp] theorem State.raiseFleet_pending (s : State) (e : FleetEvent) : (s.raiseFleet e).pending = s.pending := rfl
@[simp] theorem State.raiseFleet_device (s : State) (e : FleetEvent) : (s.raiseFleet e).device = s.device := rfl
@[simp] theorem State.raiseFleet_clock (s : State) (e : FleetEvent) : (s.raiseFleet e).clock = s.clock := rfl
@[simp] theorem State.raiseFleet_clockValid (s : State) (e : FleetEvent) : (s.raiseFleet e).clockValid = s.clockValid := rfl
@[simp] theorem State.raiseFleet_uptime (s : State) (e : FleetEvent) : (s.raiseFleet e).uptime = s.uptime := rfl
@[simp] theorem State.raiseFleet_site (s : State) (e : FleetEvent) : (s.raiseFleet e).site = s.site := rfl
@[simp] theorem State.raiseFleet_siteValid (s : State) (e : FleetEvent) : (s.raiseFleet e).siteValid = s.siteValid := rfl
@[simp] theorem State.raiseFleet_roster (s : State) (e : FleetEvent) : (s.raiseFleet e).roster = s.roster := rfl
@[simp] theorem State.raiseFleet_bays (s : State) (e : FleetEvent) : (s.raiseFleet e).bays = s.bays := rfl
@[simp] theorem State.raiseFleet_faults (s : State) (e : FleetEvent) : (s.raiseFleet e).faults = s.faults := rfl
@[simp] theorem State.raiseFleet_policy (s : State) (e : FleetEvent) : (s.raiseFleet e).policy = s.policy := rfl
@[simp] theorem State.raiseFleet_orders (s : State) (e : FleetEvent) : (s.raiseFleet e).orders = s.orders := rfl
@[simp] theorem State.raiseFleet_profiles (s : State) (e : FleetEvent) : (s.raiseFleet e).profiles = s.profiles := rfl
@[simp] theorem State.raiseFleet_queue (s : State) (e : FleetEvent) : (s.raiseFleet e).queue = s.queue := rfl
@[simp] theorem State.raiseFleet_lastResult (s : State) (e : FleetEvent) : (s.raiseFleet e).lastResult = s.lastResult := rfl
@[simp] theorem State.raiseFleet_notices (s : State) (e : FleetEvent) : (s.raiseFleet e).notices = s.notices := rfl
@[simp] theorem State.raiseFleet_lines (s : State) (e : FleetEvent) : (s.raiseFleet e).lines = s.lines := rfl
@[simp] theorem State.raiseFleet_pollQueue (s : State) (e : FleetEvent) : (s.raiseFleet e).pollQueue = s.pollQueue := rfl
@[simp] theorem State.raiseFleet_exchange (s : State) (e : FleetEvent) : (s.raiseFleet e).exchange = s.exchange := rfl
@[simp] theorem State.raiseFleet_grid (s : State) (e : FleetEvent) : (s.raiseFleet e).grid = s.grid := rfl
@[simp] theorem State.raiseFleet_fleet (s : State) (e : FleetEvent) : (s.raiseFleet e).fleet = { s.fleet with flags := s.fleet.flags ||| fleetBit e } := rfl
@[simp] theorem State.raiseFleet_changeSet (s : State) (e : FleetEvent) : (s.raiseFleet e).changeSet = s.changeSet := rfl

/-! ### markBay -/

@[simp] theorem State.markBay_pending (s : State) (b : BayNo) : (s.markBay b).pending = s.pending := rfl
@[simp] theorem State.markBay_device (s : State) (b : BayNo) : (s.markBay b).device = s.device := rfl
@[simp] theorem State.markBay_clock (s : State) (b : BayNo) : (s.markBay b).clock = s.clock := rfl
@[simp] theorem State.markBay_clockValid (s : State) (b : BayNo) : (s.markBay b).clockValid = s.clockValid := rfl
@[simp] theorem State.markBay_uptime (s : State) (b : BayNo) : (s.markBay b).uptime = s.uptime := rfl
@[simp] theorem State.markBay_site (s : State) (b : BayNo) : (s.markBay b).site = s.site := rfl
@[simp] theorem State.markBay_siteValid (s : State) (b : BayNo) : (s.markBay b).siteValid = s.siteValid := rfl
@[simp] theorem State.markBay_roster (s : State) (b : BayNo) : (s.markBay b).roster = s.roster := rfl
@[simp] theorem State.markBay_bays (s : State) (b : BayNo) : (s.markBay b).bays = s.bays := rfl
@[simp] theorem State.markBay_faults (s : State) (b : BayNo) : (s.markBay b).faults = s.faults := rfl
@[simp] theorem State.markBay_policy (s : State) (b : BayNo) : (s.markBay b).policy = s.policy := rfl
@[simp] theorem State.markBay_orders (s : State) (b : BayNo) : (s.markBay b).orders = s.orders := rfl
@[simp] theorem State.markBay_profiles (s : State) (b : BayNo) : (s.markBay b).profiles = s.profiles := rfl
@[simp] theorem State.markBay_queue (s : State) (b : BayNo) : (s.markBay b).queue = s.queue := rfl
@[simp] theorem State.markBay_lastResult (s : State) (b : BayNo) : (s.markBay b).lastResult = s.lastResult := rfl
@[simp] theorem State.markBay_notices (s : State) (b : BayNo) : (s.markBay b).notices = s.notices := rfl
@[simp] theorem State.markBay_lines (s : State) (b : BayNo) : (s.markBay b).lines = s.lines := rfl
@[simp] theorem State.markBay_pollQueue (s : State) (b : BayNo) : (s.markBay b).pollQueue = s.pollQueue := rfl
@[simp] theorem State.markBay_exchange (s : State) (b : BayNo) : (s.markBay b).exchange = s.exchange := rfl
@[simp] theorem State.markBay_grid (s : State) (b : BayNo) : (s.markBay b).grid = s.grid := rfl
@[simp] theorem State.markBay_fleet (s : State) (b : BayNo) : (s.markBay b).fleet = { s.fleet with flags := s.fleet.flags ||| fleetBit .bayChange } := rfl
@[simp] theorem State.markBay_changeSet (s : State) (b : BayNo) : (s.markBay b).changeSet = s.changeSet ||| BitVec.twoPow 16 b.val := rfl

/-! ### join -/

@[simp] theorem State.join_pending (s : State) (b : BayNo) : (s.join b).pending = s.pending := by
  unfold State.join; split <;> rfl
@[simp] theorem State.join_device (s : State) (b : BayNo) : (s.join b).device = s.device := by
  unfold State.join; split <;> rfl
@[simp] theorem State.join_clock (s : State) (b : BayNo) : (s.join b).clock = s.clock := by
  unfold State.join; split <;> rfl
@[simp] theorem State.join_clockValid (s : State) (b : BayNo) : (s.join b).clockValid = s.clockValid := by
  unfold State.join; split <;> rfl
@[simp] theorem State.join_uptime (s : State) (b : BayNo) : (s.join b).uptime = s.uptime := by
  unfold State.join; split <;> rfl
@[simp] theorem State.join_site (s : State) (b : BayNo) : (s.join b).site = s.site := by
  unfold State.join; split <;> rfl
@[simp] theorem State.join_siteValid (s : State) (b : BayNo) : (s.join b).siteValid = s.siteValid := by
  unfold State.join; split <;> rfl
@[simp] theorem State.join_roster (s : State) (b : BayNo) : (s.join b).roster = s.roster := by
  unfold State.join; split <;> rfl
@[simp] theorem State.join_bays (s : State) (b : BayNo) : (s.join b).bays = s.bays := by
  unfold State.join; split <;> rfl
@[simp] theorem State.join_faults (s : State) (b : BayNo) : (s.join b).faults = s.faults := by
  unfold State.join; split <;> rfl
@[simp] theorem State.join_policy (s : State) (b : BayNo) : (s.join b).policy = s.policy := by
  unfold State.join; split <;> rfl
@[simp] theorem State.join_orders (s : State) (b : BayNo) : (s.join b).orders = s.orders := by
  unfold State.join; split <;> rfl
@[simp] theorem State.join_profiles (s : State) (b : BayNo) : (s.join b).profiles = s.profiles := by
  unfold State.join; split <;> rfl
@[simp] theorem State.join_queue (s : State) (b : BayNo) : (s.join b).queue = s.queue := by
  unfold State.join; split <;> rfl
@[simp] theorem State.join_lastResult (s : State) (b : BayNo) : (s.join b).lastResult = s.lastResult := by
  unfold State.join; split <;> rfl
@[simp] theorem State.join_notices (s : State) (b : BayNo) : (s.join b).notices = s.notices := by
  unfold State.join; split <;> rfl
@[simp] theorem State.join_lines (s : State) (b : BayNo) : (s.join b).lines = s.lines := by
  unfold State.join; split <;> rfl
theorem State.join_pollQueue (s : State) (b : BayNo) :
    (s.join b).pollQueue = if b ∈ s.pollQueue then s.pollQueue else s.pollQueue ++ [b] := by
  unfold State.join; split <;> rfl
@[simp] theorem State.join_exchange (s : State) (b : BayNo) : (s.join b).exchange = s.exchange := by
  unfold State.join; split <;> rfl
@[simp] theorem State.join_grid (s : State) (b : BayNo) : (s.join b).grid = s.grid := by
  unfold State.join; split <;> rfl
@[simp] theorem State.join_fleet (s : State) (b : BayNo) : (s.join b).fleet = s.fleet := by
  unfold State.join; split <;> rfl
@[simp] theorem State.join_changeSet (s : State) (b : BayNo) : (s.join b).changeSet = s.changeSet := by
  unfold State.join; split <;> rfl

/-! ### setPort -/

@[simp] theorem State.setPort_pending (s : State) (p : Port) (x : PortState) : (s.setPort p x).pending = s.pending := by
  cases p <;> rfl
@[simp] theorem State.setPort_device (s : State) (p : Port) (x : PortState) : (s.setPort p x).device = s.device := by
  cases p <;> rfl
@[simp] theorem State.setPort_clock (s : State) (p : Port) (x : PortState) : (s.setPort p x).clock = s.clock := by
  cases p <;> rfl
@[simp] theorem State.setPort_clockValid (s : State) (p : Port) (x : PortState) : (s.setPort p x).clockValid = s.clockValid := by
  cases p <;> rfl
@[simp] theorem State.setPort_uptime (s : State) (p : Port) (x : PortState) : (s.setPort p x).uptime = s.uptime := by
  cases p <;> rfl
@[simp] theorem State.setPort_site (s : State) (p : Port) (x : PortState) : (s.setPort p x).site = s.site := by
  cases p <;> rfl
@[simp] theorem State.setPort_siteValid (s : State) (p : Port) (x : PortState) : (s.setPort p x).siteValid = s.siteValid := by
  cases p <;> rfl
@[simp] theorem State.setPort_roster (s : State) (p : Port) (x : PortState) : (s.setPort p x).roster = s.roster := by
  cases p <;> rfl
@[simp] theorem State.setPort_bays (s : State) (p : Port) (x : PortState) : (s.setPort p x).bays = s.bays := by
  cases p <;> rfl
@[simp] theorem State.setPort_faults (s : State) (p : Port) (x : PortState) : (s.setPort p x).faults = s.faults := by
  cases p <;> rfl
@[simp] theorem State.setPort_policy (s : State) (p : Port) (x : PortState) : (s.setPort p x).policy = s.policy := by
  cases p <;> rfl
@[simp] theorem State.setPort_orders (s : State) (p : Port) (x : PortState) : (s.setPort p x).orders = s.orders := by
  cases p <;> rfl
@[simp] theorem State.setPort_profiles (s : State) (p : Port) (x : PortState) : (s.setPort p x).profiles = s.profiles := by
  cases p <;> rfl
@[simp] theorem State.setPort_queue (s : State) (p : Port) (x : PortState) : (s.setPort p x).queue = s.queue := by
  cases p <;> rfl
@[simp] theorem State.setPort_lastResult (s : State) (p : Port) (x : PortState) : (s.setPort p x).lastResult = s.lastResult := by
  cases p <;> rfl
@[simp] theorem State.setPort_notices (s : State) (p : Port) (x : PortState) : (s.setPort p x).notices = s.notices := by
  cases p <;> rfl
@[simp] theorem State.setPort_lines (s : State) (p : Port) (x : PortState) : (s.setPort p x).lines = s.lines := by
  cases p <;> rfl
@[simp] theorem State.setPort_pollQueue (s : State) (p : Port) (x : PortState) : (s.setPort p x).pollQueue = s.pollQueue := by
  cases p <;> rfl
@[simp] theorem State.setPort_exchange (s : State) (p : Port) (x : PortState) : (s.setPort p x).exchange = s.exchange := by
  cases p <;> rfl
@[simp] theorem State.setPort_changeSet (s : State) (p : Port) (x : PortState) : (s.setPort p x).changeSet = s.changeSet := by
  cases p <;> rfl

@[simp] theorem State.setPort_port (s : State) (p : Port) (x : PortState) : (s.setPort p x).port p = x := by
  cases p <;> rfl

theorem State.setPort_port_ne (s : State) {p q : Port} (x : PortState) (h : q ≠ p) :
    (s.setPort p x).port q = s.port q := by
  cases p <;> cases q <;> first | rfl | exact absurd rfl h

@[simp] theorem State.port_grid (s : State) : s.port .grid = s.grid := rfl
@[simp] theorem State.port_fleet (s : State) : s.port .fleet = s.fleet := rfl
@[simp] theorem State.setPort_grid_eq (s : State) (x : PortState) : s.setPort .grid x = { s with grid := x } := rfl
@[simp] theorem State.setPort_fleet_eq (s : State) (x : PortState) : s.setPort .fleet x = { s with fleet := x } := rfl

/-! ### Reading a bank back -/

@[simp] theorem State.bay_setBay (s : State) (b : BayNo) (r : BayRecord) : (s.setBay b r).bay b = r := by
  simp [State.bay]

theorem State.bay_setBay_ne (s : State) {b c : BayNo} (r : BayRecord) (h : c ≠ b) :
    (s.setBay b r).bay c = s.bay c := by
  simp [State.bay, Vector.getElem_set_ne _ _ (fun e => h (Fin.ext e.symm))]

@[simp] theorem State.bay_modBay (s : State) (b : BayNo) (f : BayRecord → BayRecord) :
    (s.modBay b f).bay b = f (s.bay b) := s.bay_setBay b _

theorem State.bay_modBay_ne (s : State) {b c : BayNo} (f : BayRecord → BayRecord) (h : c ≠ b) :
    (s.modBay b f).bay c = s.bay c := s.bay_setBay_ne _ h

@[simp] theorem State.faultSet_modFault (s : State) (b : BayNo) (f : FaultSet → FaultSet) :
    (s.modFault b f).faultSet b = f (s.faultSet b) := by
  simp [State.modFault, State.setFaultSet, State.faultSet]

theorem State.faultSet_modFault_ne (s : State) {b c : BayNo} (f : FaultSet → FaultSet) (h : c ≠ b) :
    (s.modFault b f).faultSet c = s.faultSet c := by
  simp [State.modFault, State.setFaultSet, State.faultSet, Vector.getElem_set_ne _ _ (fun e => h (Fin.ext e.symm))]

@[simp] theorem State.faultSet_setFaultSet (s : State) (b : BayNo) (r : FaultSet) :
    (s.setFaultSet b r).faultSet b = r := by
  simp [State.faultSet]

theorem State.faultSet_setFaultSet_ne (s : State) {b c : BayNo} (r : FaultSet) (h : c ≠ b) :
    (s.setFaultSet b r).faultSet c = s.faultSet c := by
  simp [State.faultSet, Vector.getElem_set_ne _ _ (fun e => h (Fin.ext e.symm))]

@[simp] theorem State.order_setOrder (s : State) (b : BayNo) (o : Option Order) : (s.setOrder b o).order b = o := by
  simp [State.order]

theorem State.order_setOrder_ne (s : State) {b c : BayNo} (o : Option Order) (h : c ≠ b) :
    (s.setOrder b o).order c = s.order c := by
  simp [State.order, Vector.getElem_set_ne _ _ (fun e => h (Fin.ext e.symm))]

@[simp] theorem State.line_setLine (s : State) (b : BayNo) (r : LineRecord) : (s.setLine b r).line b = r := by
  simp [State.line]

theorem State.line_setLine_ne (s : State) {b c : BayNo} (r : LineRecord) (h : c ≠ b) :
    (s.setLine b r).line c = s.line c := by
  simp [State.line, Vector.getElem_set_ne _ _ (fun e => h (Fin.ext e.symm))]

@[simp] theorem State.bay_setFaultSet (s : State) (b : BayNo) (r : FaultSet) (c : BayNo) : (s.setFaultSet b r).bay c = s.bay c := rfl
@[simp] theorem State.bay_setOrder (s : State) (b : BayNo) (o : Option Order) (c : BayNo) : (s.setOrder b o).bay c = s.bay c := rfl
@[simp] theorem State.bay_setLine (s : State) (b : BayNo) (r : LineRecord) (c : BayNo) : (s.setLine b r).bay c = s.bay c := rfl
@[simp] theorem State.bay_modFault (s : State) (b : BayNo) (f : FaultSet → FaultSet) (c : BayNo) : (s.modFault b f).bay c = s.bay c := rfl
@[simp] theorem State.bay_hand (s : State) (n : Notice) (c : BayNo) : (s.hand n).bay c = s.bay c := rfl
@[simp] theorem State.bay_modVehicle (s : State) (n : Nat) (f : Vehicle → Vehicle) (c : BayNo) : (s.modVehicle n f).bay c = s.bay c := rfl
@[simp] theorem State.bay_modRequest (s : State) (n : Nat) (f : Request → Request) (c : BayNo) : (s.modRequest n f).bay c = s.bay c := rfl
@[simp] theorem State.bay_raiseGrid (s : State) (e : GridEvent) (c : BayNo) : (s.raiseGrid e).bay c = s.bay c := rfl
@[simp] theorem State.bay_raiseFleet (s : State) (e : FleetEvent) (c : BayNo) : (s.raiseFleet e).bay c = s.bay c := rfl
@[simp] theorem State.bay_markBay (s : State) (b : BayNo) (c : BayNo) : (s.markBay b).bay c = s.bay c := rfl
@[simp] theorem State.bay_join (s : State) (b c : BayNo) : (s.join b).bay c = s.bay c := by
  unfold State.join; split <;> rfl
@[simp] theorem State.bay_setPort (s : State) (p : Port) (x : PortState) (c : BayNo) : (s.setPort p x).bay c = s.bay c := by
  cases p <;> rfl
@[simp] theorem State.faultSet_setBay (s : State) (b : BayNo) (r : BayRecord) (c : BayNo) : (s.setBay b r).faultSet c = s.faultSet c := rfl
@[simp] theorem State.faultSet_setOrder (s : State) (b : BayNo) (o : Option Order) (c : BayNo) : (s.setOrder b o).faultSet c = s.faultSet c := rfl
@[simp] theorem State.faultSet_setLine (s : State) (b : BayNo) (r : LineRecord) (c : BayNo) : (s.setLine b r).faultSet c = s.faultSet c := rfl
@[simp] theorem State.faultSet_modBay (s : State) (b : BayNo) (f : BayRecord → BayRecord) (c : BayNo) : (s.modBay b f).faultSet c = s.faultSet c := rfl
@[simp] theorem State.faultSet_hand (s : State) (n : Notice) (c : BayNo) : (s.hand n).faultSet c = s.faultSet c := rfl
@[simp] theorem State.faultSet_modVehicle (s : State) (n : Nat) (f : Vehicle → Vehicle) (c : BayNo) : (s.modVehicle n f).faultSet c = s.faultSet c := rfl
@[simp] theorem State.faultSet_modRequest (s : State) (n : Nat) (f : Request → Request) (c : BayNo) : (s.modRequest n f).faultSet c = s.faultSet c := rfl
@[simp] theorem State.faultSet_raiseGrid (s : State) (e : GridEvent) (c : BayNo) : (s.raiseGrid e).faultSet c = s.faultSet c := rfl
@[simp] theorem State.faultSet_raiseFleet (s : State) (e : FleetEvent) (c : BayNo) : (s.raiseFleet e).faultSet c = s.faultSet c := rfl
@[simp] theorem State.faultSet_markBay (s : State) (b : BayNo) (c : BayNo) : (s.markBay b).faultSet c = s.faultSet c := rfl
@[simp] theorem State.faultSet_join (s : State) (b c : BayNo) : (s.join b).faultSet c = s.faultSet c := by
  unfold State.join; split <;> rfl
@[simp] theorem State.faultSet_setPort (s : State) (p : Port) (x : PortState) (c : BayNo) : (s.setPort p x).faultSet c = s.faultSet c := by
  cases p <;> rfl
@[simp] theorem State.order_setBay (s : State) (b : BayNo) (r : BayRecord) (c : BayNo) : (s.setBay b r).order c = s.order c := rfl
@[simp] theorem State.order_setFaultSet (s : State) (b : BayNo) (r : FaultSet) (c : BayNo) : (s.setFaultSet b r).order c = s.order c := rfl
@[simp] theorem State.order_setLine (s : State) (b : BayNo) (r : LineRecord) (c : BayNo) : (s.setLine b r).order c = s.order c := rfl
@[simp] theorem State.order_modBay (s : State) (b : BayNo) (f : BayRecord → BayRecord) (c : BayNo) : (s.modBay b f).order c = s.order c := rfl
@[simp] theorem State.order_modFault (s : State) (b : BayNo) (f : FaultSet → FaultSet) (c : BayNo) : (s.modFault b f).order c = s.order c := rfl
@[simp] theorem State.order_hand (s : State) (n : Notice) (c : BayNo) : (s.hand n).order c = s.order c := rfl
@[simp] theorem State.order_modVehicle (s : State) (n : Nat) (f : Vehicle → Vehicle) (c : BayNo) : (s.modVehicle n f).order c = s.order c := rfl
@[simp] theorem State.order_modRequest (s : State) (n : Nat) (f : Request → Request) (c : BayNo) : (s.modRequest n f).order c = s.order c := rfl
@[simp] theorem State.order_raiseGrid (s : State) (e : GridEvent) (c : BayNo) : (s.raiseGrid e).order c = s.order c := rfl
@[simp] theorem State.order_raiseFleet (s : State) (e : FleetEvent) (c : BayNo) : (s.raiseFleet e).order c = s.order c := rfl
@[simp] theorem State.order_markBay (s : State) (b : BayNo) (c : BayNo) : (s.markBay b).order c = s.order c := rfl
@[simp] theorem State.order_join (s : State) (b c : BayNo) : (s.join b).order c = s.order c := by
  unfold State.join; split <;> rfl
@[simp] theorem State.order_setPort (s : State) (p : Port) (x : PortState) (c : BayNo) : (s.setPort p x).order c = s.order c := by
  cases p <;> rfl
@[simp] theorem State.line_setBay (s : State) (b : BayNo) (r : BayRecord) (c : BayNo) : (s.setBay b r).line c = s.line c := rfl
@[simp] theorem State.line_setFaultSet (s : State) (b : BayNo) (r : FaultSet) (c : BayNo) : (s.setFaultSet b r).line c = s.line c := rfl
@[simp] theorem State.line_setOrder (s : State) (b : BayNo) (o : Option Order) (c : BayNo) : (s.setOrder b o).line c = s.line c := rfl
@[simp] theorem State.line_modBay (s : State) (b : BayNo) (f : BayRecord → BayRecord) (c : BayNo) : (s.modBay b f).line c = s.line c := rfl
@[simp] theorem State.line_modFault (s : State) (b : BayNo) (f : FaultSet → FaultSet) (c : BayNo) : (s.modFault b f).line c = s.line c := rfl
@[simp] theorem State.line_hand (s : State) (n : Notice) (c : BayNo) : (s.hand n).line c = s.line c := rfl
@[simp] theorem State.line_modVehicle (s : State) (n : Nat) (f : Vehicle → Vehicle) (c : BayNo) : (s.modVehicle n f).line c = s.line c := rfl
@[simp] theorem State.line_modRequest (s : State) (n : Nat) (f : Request → Request) (c : BayNo) : (s.modRequest n f).line c = s.line c := rfl
@[simp] theorem State.line_raiseGrid (s : State) (e : GridEvent) (c : BayNo) : (s.raiseGrid e).line c = s.line c := rfl
@[simp] theorem State.line_raiseFleet (s : State) (e : FleetEvent) (c : BayNo) : (s.raiseFleet e).line c = s.line c := rfl
@[simp] theorem State.line_markBay (s : State) (b : BayNo) (c : BayNo) : (s.markBay b).line c = s.line c := rfl
@[simp] theorem State.line_join (s : State) (b c : BayNo) : (s.join b).line c = s.line c := by
  unfold State.join; split <;> rfl
@[simp] theorem State.line_setPort (s : State) (p : Port) (x : PortState) (c : BayNo) : (s.setPort p x).line c = s.line c := by
  cases p <;> rfl

@[simp] theorem mapBank_get {α β : Type} (f : α → β) (v : Bank α) (b : BayNo) : (mapBank f v)[b] = f v[b] := by
  simp [mapBank]

theorem mem_allBays (b : BayNo) : b ∈ allBays := by revert b; decide

theorem allBays_nodup : allBays.Nodup := by decide

end Sys2Proof.Machine
end

