-- ==== Sys2Proof/Laws/Frames.lean ====
section
/-! SUPPORT. The frame of each shared operation: the parts of the state it can write, said once. -/

namespace Sys2Proof.Machine

/-! ### sameBut -/

theorem State.sameBut_refl (s : State) (ps : List Part) : s.sameBut s ps := by
  intro p _
  cases p <;> rfl

theorem State.agrees_trans {s t u : State} {p : Part} (h : s.agrees t p) (h' : t.agrees u p) : s.agrees u p := by
  cases p
  case grid => exact Eq.trans h' (by rw [show t.grid = _ from h])
  case fleet => exact Eq.trans h' (by rw [show t.fleet = _ from h])
  all_goals exact Eq.trans h' h

/-- Frames compose. -/
theorem State.sameBut.trans {s t u : State} {ps : List Part} (h : s.sameBut t ps) (h' : t.sameBut u ps) :
    s.sameBut u ps := fun p hp => State.agrees_trans (h p hp) (h' p hp)

/-- A frame may name more parts. -/
theorem State.sameBut.mono {s t : State} {ps qs : List Part} (h : s.sameBut t ps) (hs : ps ⊆ qs) :
    s.sameBut t qs := fun p hp => h p fun hm => hp (hs hm)

/-- The frame of a fold is the frame of its step. -/
theorem State.sameBut_foldl {α : Type} (f : State → α → State) {ps : List Part}
    (hf : ∀ s a, State.sameBut s (f s a) ps) (l : List α) (s : State) : s.sameBut (l.foldl f s) ps := by
  induction l generalizing s with
  | nil => exact s.sameBut_refl ps
  | cons a l ih => exact (hf s a).trans (ih (f s a))

theorem State.sameBut.pending {s t : State} {ps : List Part} (h : s.sameBut t ps) (hp : Part.pending ∉ ps) : t.pending = s.pending := h .pending hp
theorem State.sameBut.device {s t : State} {ps : List Part} (h : s.sameBut t ps) (hp : Part.device ∉ ps) : t.device = s.device := h .device hp
theorem State.sameBut.clock {s t : State} {ps : List Part} (h : s.sameBut t ps) (hp : Part.clock ∉ ps) : t.clock = s.clock := h .clock hp
theorem State.sameBut.clockValid {s t : State} {ps : List Part} (h : s.sameBut t ps) (hp : Part.clockValid ∉ ps) : t.clockValid = s.clockValid := h .clockValid hp
theorem State.sameBut.uptime {s t : State} {ps : List Part} (h : s.sameBut t ps) (hp : Part.uptime ∉ ps) : t.uptime = s.uptime := h .uptime hp
theorem State.sameBut.site {s t : State} {ps : List Part} (h : s.sameBut t ps) (hp : Part.site ∉ ps) : t.site = s.site := h .site hp
theorem State.sameBut.siteValid {s t : State} {ps : List Part} (h : s.sameBut t ps) (hp : Part.siteValid ∉ ps) : t.siteValid = s.siteValid := h .siteValid hp
theorem State.sameBut.roster {s t : State} {ps : List Part} (h : s.sameBut t ps) (hp : Part.roster ∉ ps) : t.roster = s.roster := h .roster hp
theorem State.sameBut.bays {s t : State} {ps : List Part} (h : s.sameBut t ps) (hp : Part.bays ∉ ps) : t.bays = s.bays := h .bays hp
theorem State.sameBut.faults {s t : State} {ps : List Part} (h : s.sameBut t ps) (hp : Part.faults ∉ ps) : t.faults = s.faults := h .faults hp
theorem State.sameBut.policy {s t : State} {ps : List Part} (h : s.sameBut t ps) (hp : Part.policy ∉ ps) : t.policy = s.policy := h .policy hp
theorem State.sameBut.orders {s t : State} {ps : List Part} (h : s.sameBut t ps) (hp : Part.orders ∉ ps) : t.orders = s.orders := h .orders hp
theorem State.sameBut.profiles {s t : State} {ps : List Part} (h : s.sameBut t ps) (hp : Part.profiles ∉ ps) : t.profiles = s.profiles := h .profiles hp
theorem State.sameBut.queue {s t : State} {ps : List Part} (h : s.sameBut t ps) (hp : Part.queue ∉ ps) : t.queue = s.queue := h .queue hp
theorem State.sameBut.lastResult {s t : State} {ps : List Part} (h : s.sameBut t ps) (hp : Part.lastResult ∉ ps) : t.lastResult = s.lastResult := h .lastResult hp
theorem State.sameBut.notices {s t : State} {ps : List Part} (h : s.sameBut t ps) (hp : Part.notices ∉ ps) : t.notices = s.notices := h .notices hp
theorem State.sameBut.lines {s t : State} {ps : List Part} (h : s.sameBut t ps) (hp : Part.lines ∉ ps) : t.lines = s.lines := h .lines hp
theorem State.sameBut.pollQueue {s t : State} {ps : List Part} (h : s.sameBut t ps) (hp : Part.pollQueue ∉ ps) : t.pollQueue = s.pollQueue := h .pollQueue hp
theorem State.sameBut.exchange {s t : State} {ps : List Part} (h : s.sameBut t ps) (hp : Part.exchange ∉ ps) : t.exchange = s.exchange := h .exchange hp
theorem State.sameBut.grid_flags {s t : State} {ps : List Part} (h : s.sameBut t ps) (hp : Part.grid ∉ ps) :
    t.grid = { s.grid with flags := t.grid.flags } := h .grid hp
theorem State.sameBut.grid {s t : State} {ps : List Part} (h : s.sameBut t ps) (hp : Part.gridFlags ∉ ps ∧ Part.grid ∉ ps) :
    t.grid = s.grid := (h.grid_flags hp.2).trans (by rw [h .gridFlags hp.1])
theorem State.sameBut.fleet_flags {s t : State} {ps : List Part} (h : s.sameBut t ps) (hp : Part.fleet ∉ ps) :
    t.fleet = { s.fleet with flags := t.fleet.flags } := h .fleet hp
theorem State.sameBut.fleet {s t : State} {ps : List Part} (h : s.sameBut t ps) (hp : Part.fleetFlags ∉ ps ∧ Part.fleet ∉ ps) :
    t.fleet = s.fleet := (h.fleet_flags hp.2).trans (by rw [h .fleetFlags hp.1])
theorem State.sameBut.changeSet {s t : State} {ps : List Part} (h : s.sameBut t ps) (hp : Part.changeSet ∉ ps) : t.changeSet = s.changeSet := h .changeSet hp

/-! ### Updates -/

theorem State.setBay_frame (s : State) (b : BayNo) (r : BayRecord): s.sameBut (s.setBay b r) [.bays] := by
  intro p hp; cases p <;> first | rfl | simp at hp
theorem State.setFaultSet_frame (s : State) (b : BayNo) (r : FaultSet): s.sameBut (s.setFaultSet b r) [.faults] := by
  intro p hp; cases p <;> first | rfl | simp at hp
theorem State.setOrder_frame (s : State) (b : BayNo) (o : Option Order): s.sameBut (s.setOrder b o) [.orders] := by
  intro p hp; cases p <;> first | rfl | simp at hp
theorem State.setLine_frame (s : State) (b : BayNo) (r : LineRecord): s.sameBut (s.setLine b r) [.lines] := by
  intro p hp; cases p <;> first | rfl | simp at hp
theorem State.hand_frame (s : State) (n : Notice): s.sameBut (s.hand n) [.notices] := by
  intro p hp; cases p <;> first | rfl | simp at hp
theorem State.modVehicle_frame (s : State) (n : Nat) (f : Vehicle → Vehicle): s.sameBut (s.modVehicle n f) [.roster] := by
  intro p hp; cases p <;> first | rfl | simp at hp
theorem State.modRequest_frame (s : State) (n : Nat) (f : Request → Request): s.sameBut (s.modRequest n f) [.queue] := by
  intro p hp; cases p <;> first | rfl | simp at hp
theorem State.raiseGrid_frame (s : State) (e : GridEvent): s.sameBut (s.raiseGrid e) [.gridFlags] := by
  intro p hp; cases p <;> first | rfl | simp at hp
theorem State.raiseFleet_frame (s : State) (e : FleetEvent): s.sameBut (s.raiseFleet e) [.fleetFlags] := by
  intro p hp; cases p <;> first | rfl | simp at hp
theorem State.raiseDeviceState_frame (s : State) : s.sameBut (s.raiseDeviceState) [.gridFlags, .fleetFlags] := by
  intro p hp; cases p <;> first | rfl | simp at hp
theorem State.markBay_frame (s : State) (b : BayNo): s.sameBut (s.markBay b) [.fleetFlags, .changeSet] := by
  intro p hp; cases p <;> first | rfl | simp at hp
theorem State.join_frame (s : State) (b : BayNo) : s.sameBut (s.join b) [.pollQueue] := by
  intro p hp; unfold State.join; split <;> cases p <;> first | rfl | simp at hp
theorem State.setPort_frame (s : State) (q : Port) (x : PortState) :
    s.sameBut (s.setPort q x) [.grid, .gridFlags, .fleet, .fleetFlags] := by
  intro p hp; cases q <;> cases p <;> first | rfl | simp at hp
theorem State.recomputeCaps_frame (s : State) (b : BayNo) : s.sameBut (s.recomputeCaps b) [.bays] := s.setBay_frame b _
theorem State.handIfChanged_frame (s : State) (b : BayNo) (st : BayState) : s.sameBut (s.handIfChanged b st) [.notices] := by
  unfold State.handIfChanged; split
  · exact s.hand_frame _
  · exact s.sameBut_refl _
theorem State.noteReduced_frame (s : State) (m n : Nat) : s.sameBut (s.noteReduced m n) [.gridFlags] := by
  unfold State.noteReduced; split
  · exact s.raiseGrid_frame _
  · exact s.sameBut_refl _
theorem State.dropRequest_frame (s : State) (id : Nat) : s.sameBut (s.dropRequest id) [.queue, .notices] := by
  intro p hp; cases p <;> first | rfl | simp at hp

end Sys2Proof.Machine
end

