-- ==== Sys2Proof/Laws/BayFrames.lean ====
section
/-! SUPPORT. The frames of the operations on bays, orders and faults: the parts of the state each can write, said
once. -/

namespace Sys2Proof.Machine

/-- A frame followed by an operation that writes no further part. -/
theorem State.sameBut.then {s t u : State} {ps qs : List Part} (h : s.sameBut t ps) (h' : t.sameBut u qs)
    (hs : qs ⊆ ps) : s.sameBut u ps := h.trans (h'.mono hs)

/-- The parts a change of bay state writes. -/
abbrev bayStateParts : List Part := [.bays, .faults, .fleetFlags, .changeSet]
/-- The parts a release or a check start writes. -/
abbrev releaseParts : List Part := [.bays, .faults, .fleetFlags, .changeSet, .pollQueue]
/-- The parts a link change writes. -/
abbrev linkParts : List Part := [.roster, .bays, .fleetFlags, .changeSet]
/-- The parts an entry into PARKED writes. -/
abbrev parkParts : List Part := [.roster, .bays, .faults, .fleetFlags, .changeSet]
/-- The parts the end of an order writes, with its bay's transition. -/
abbrev orderEndParts : List Part := [.bays, .faults, .fleetFlags, .changeSet, .pollQueue, .orders, .notices]
/-- The parts an event of a bay may write at most. -/
abbrev bayEventParts : List Part :=
  [.roster, .bays, .faults, .fleetFlags, .changeSet, .pollQueue, .orders, .notices]

theorem State.modBay_frame (s : State) (b : BayNo) (f : BayRecord → BayRecord) :
    s.sameBut (s.modBay b f) [.bays] := s.setBay_frame b _

theorem State.modFault_frame (s : State) (b : BayNo) (f : FaultSet → FaultSet) :
    s.sameBut (s.modFault b f) [.faults] := s.setFaultSet_frame b _

theorem State.leaveState_frame (s : State) (b : BayNo) (st : BayState) : s.sameBut (s.leaveState b st) [.faults] := by
  unfold State.leaveState
  split
  · exact s.modFault_frame b _
  · exact s.sameBut_refl _

theorem State.setBayState_frame (s : State) (b : BayNo) (st : BayState) :
    s.sameBut (s.setBayState b st) bayStateParts := by
  unfold State.setBayState
  split
  · exact s.sameBut_refl _
  · exact (((s.modBay_frame b _).mono (by simp)).then (State.leaveState_frame _ _ _) (by simp)).then (State.markBay_frame _ _) (by simp)

theorem State.linkBay_frame (s : State) (b : BayNo) (v : Vehicle) : s.sameBut (s.linkBay b v) linkParts :=
  ((((s.modVehicle_frame _ _).mono (by simp)).then (State.modBay_frame _ _ _) (by simp)).then
    (State.recomputeCaps_frame _ _) (by simp)).then (State.markBay_frame _ _) (by simp)

theorem State.clearLink_frame (s : State) (b : BayNo) : s.sameBut (s.clearLink b) linkParts := by
  unfold State.clearLink
  split
  · exact s.sameBut_refl _
  · exact ((((s.modVehicle_frame _ _).mono (by simp)).then (State.modBay_frame _ _ _) (by simp)).then
      (State.recomputeCaps_frame _ _) (by simp)).then (State.markBay_frame _ _) (by simp)

theorem State.testLink_frame (s : State) (b : BayNo) : s.sameBut (s.testLink b) linkParts := by
  unfold State.testLink
  repeat' split
  all_goals with_reducible first
    | exact s.sameBut_refl _
    | exact s.linkBay_frame b _
    | exact (s.raiseFleet_frame _).mono (by simp)

theorem State.enterParked_frame (s : State) (b : BayNo) : s.sameBut (s.enterParked b) parkParts :=
  (((s.modBay_frame b _).mono (by simp)).then (State.setBayState_frame _ _ _) (by simp)).then (State.testLink_frame _ _) (by simp)

theorem State.startRelease_frame (s : State) (b : BayNo) :
    s.sameBut (s.startRelease b) [.bays, .faults, .pollQueue] :=
  (((s.modBay_frame b _).mono (by simp)).then (State.modFault_frame _ _ _) (by simp)).then (State.join_frame _ _) (by simp)

theorem State.releaseFrom_frame (s : State) (b : BayNo) (st : BayState) :
    s.sameBut (s.releaseFrom b st) [.bays, .faults, .pollQueue] := by
  unfold State.releaseFrom
  split
  · exact s.startRelease_frame b
  · exact s.sameBut_refl _

theorem State.endRelease_frame (s : State) (b : BayNo) : s.sameBut (s.endRelease b) [.bays, .faults] :=
  ((s.modBay_frame b _).mono (by simp)).then (State.modFault_frame _ _ _) (by simp)

theorem State.stopTimers_frame (s : State) (b : BayNo) : s.sameBut (s.stopTimers b) [.bays] := s.modBay_frame b _

theorem State.release_frame (s : State) (b : BayNo) : s.sameBut (s.release b) releaseParts :=
  (((s.stopTimers_frame b).mono (by simp)).then (State.setBayState_frame _ _ _) (by simp)).then (State.startRelease_frame _ _) (by simp)

theorem State.startCheck_frame (s : State) (b : BayNo) : s.sameBut (s.startCheck b) releaseParts :=
  (((s.modBay_frame b _).mono (by simp)).then (State.setBayState_frame _ _ _) (by simp)).then (State.join_frame _ _) (by simp)

/-! ### Orders -/

theorem State.dropOrder_frame (s : State) (b : BayNo) (c : Option EndCause) (m : Bool) :
    s.sameBut (s.dropOrder b c m) [.orders, .notices] := by
  unfold State.dropOrder
  split
  · exact s.sameBut_refl _
  · exact ((s.setOrder_frame b _).mono (by simp)).then (State.hand_frame _ _) (by simp)

theorem State.afterOrderEnd_frame (s : State) (b : BayNo) (o : Order) :
    s.sameBut (s.afterOrderEnd b o) releaseParts := by
  unfold State.afterOrderEnd
  split
  · exact s.release_frame b
  · split
    · exact s.startCheck_frame b
    · exact (s.setBayState_frame b _).mono (by simp)

theorem State.finishOrder_frame (s : State) (b : BayNo) (o : Order) : s.sameBut (s.finishOrder b o) orderEndParts :=
  (((s.dropOrder_frame b _ _).mono (by simp)).then (State.join_frame _ _) (by simp)).then (State.afterOrderEnd_frame _ _ _) (by simp)

theorem State.abortOrder_frame (s : State) (b : BayNo) (c : EndCause) (m : Bool) :
    s.sameBut (s.abortOrder b c m) [.orders, .notices, .pollQueue] := by
  unfold State.abortOrder
  split
  · exact s.sameBut_refl _
  · exact ((s.dropOrder_frame b _ _).mono (by simp)).then (State.join_frame _ _) (by simp)

theorem State.afterRemoval_frame (s : State) (b : BayNo) (o : Order) :
    s.sameBut (s.afterRemoval b o) releaseParts := by
  unfold State.afterRemoval
  repeat' split
  all_goals with_reducible first
    | exact s.release_frame b
    | exact s.sameBut_refl _

theorem State.removeWaitBind_frame (s : State) (b : BayNo) (o : Order) (c : EndCause) :
    s.sameBut (s.removeWaitBind b o c) orderEndParts :=
  ((s.abortOrder_frame b c false).mono (by simp)).then (State.afterRemoval_frame _ _ _) (by simp)

theorem State.endFor_frame (s : State) (b : BayNo) (o : Order) (c : EndCause) :
    s.sameBut (s.endFor b o c) orderEndParts := by
  unfold State.endFor
  split
  · exact s.removeWaitBind_frame b o c
  · exact (s.setOrder_frame b _).mono (by simp)

theorem State.declineBay_frame (s : State) (b : BayNo) (c : EndCause) : s.sameBut (s.declineBay b c) [.orders] := by
  unfold State.declineBay
  split
  · exact s.sameBut_refl _
  · split
    · exact s.sameBut_refl _
    · exact s.setOrder_frame b _

theorem State.releaseFor_frame (s : State) (b : BayNo) (c : EndCause) :
    s.sameBut (s.releaseFor b c) orderEndParts := by
  unfold State.releaseFor
  split
  all_goals with_reducible first
    | exact s.sameBut_refl _
    | exact (s.declineBay_frame b c).mono (by simp)
    | exact ((s.abortOrder_frame b c false).mono (by simp)).then (State.release_frame _ _) (by simp)

theorem State.putOrder_frame (s : State) (b : BayNo) (o : Order) : s.sameBut (s.putOrder b o) [.orders, .pollQueue] :=
  ((s.setOrder_frame b _).mono (by simp)).then (State.join_frame _ _) (by simp)

theorem State.issueStep_frame (s : State) (b : BayNo) (o : Order) (m : Nat) :
    s.sameBut (s.issueStep b o m) orderEndParts := by
  unfold State.issueStep
  split
  · exact ((s.putOrder_frame b o).mono (by simp)).then (State.finishOrder_frame _ _ _) (by simp)
  · exact (s.putOrder_frame b o).mono (by simp)

theorem State.stepOrder_frame (s : State) (b : BayNo) (o : Order) : s.sameBut (s.stepOrder b o) orderEndParts := by
  unfold State.stepOrder
  split
  · exact s.finishOrder_frame b _
  · exact s.issueStep_frame b _ _

theorem State.firstStep_frame (s : State) (b : BayNo) (o : Order) : s.sameBut (s.firstStep b o) orderEndParts :=
  (((s.setOrder_frame b _).mono (by simp)).then (State.setBayState_frame _ _ _) (by simp)).then (State.join_frame _ _) (by simp)

theorem State.createOrder_frame (s : State) (id : Nat) (b : BayNo) (m q : Nat) :
    s.sameBut (s.createOrder id b m q) orderEndParts := by
  unfold State.createOrder
  simp only
  split
  · exact ((((s.setOrder_frame b _).mono (by simp)).then (State.modBay_frame _ _ _) (by simp)).then
      (State.setBayState_frame _ _ _) (by simp)).then (State.join_frame _ _) (by simp)
  · split
    · exact (s.setOrder_frame b _).mono (by simp)
    · exact s.firstStep_frame b _
  · exact s.sameBut_refl _

theorem State.retargetEntry_frame (id m : Nat) (s : State) (e : Participant) :
    s.sameBut (State.retargetEntry id m s e) orderEndParts := by
  unfold State.retargetEntry
  repeat' split
  all_goals with_reducible first
    | exact s.sameBut_refl _
    | exact (s.setOrder_frame _ _).mono (by simp)

theorem State.dropOutEntry_frame (id : Nat) (l : List Participant) (s : State) (b : BayNo) :
    s.sameBut (State.dropOutEntry id l s b) orderEndParts := by
  unfold State.dropOutEntry
  repeat' split
  all_goals with_reducible first
    | exact s.sameBut_refl _
    | exact s.endFor_frame _ _ _

theorem State.createEntry_frame (id m : Nat) (s : State) (e : Participant) :
    s.sameBut (State.createEntry id m s e) orderEndParts := by
  unfold State.createEntry
  split
  · exact s.sameBut_refl _
  · exact s.createOrder_frame _ _ _ _

/-- Bringing orders into line with a list writes no request and no vehicle (R83). -/
theorem State.alignOrders_frame (s : State) (id m : Nat) (l : List Participant) :
    s.sameBut (s.alignOrders id m l) orderEndParts :=
  ((State.sameBut_foldl _ (State.retargetEntry_frame id m) l s).trans
    (State.sameBut_foldl _ (State.dropOutEntry_frame id l) allBays _)).trans
    (State.sameBut_foldl _ (State.createEntry_frame id m) l _)

theorem State.endEntry_frame (id : Nat) (c : EndCause) (s : State) (b : BayNo) :
    s.sameBut (State.endEntry id c s b) orderEndParts := by
  unfold State.endEntry
  repeat' split
  all_goals with_reducible first
    | exact s.sameBut_refl _
    | exact s.endFor_frame _ _ _

theorem State.endAllFor_frame (s : State) (id : Nat) (c : EndCause) : s.sameBut (s.endAllFor id c) orderEndParts :=
  State.sameBut_foldl _ (State.endEntry_frame id c) allBays s

theorem cutBay_frame (acc : State × Nat) (b : BayNo) : acc.1.sameBut (cutBay acc b).1 [.orders, .pollQueue] := by
  unfold cutBay
  obtain ⟨s, n⟩ := acc
  simp only
  repeat' split
  all_goals with_reducible first
    | exact s.sameBut_refl _
    | exact ((s.setOrder_frame b _).mono (by simp)).then (State.join_frame _ _) (by simp)

theorem State.siteLimitCut_frame (s : State) : s.sameBut s.siteLimitCut [.orders, .pollQueue] := by
  have h : ∀ (l : List BayNo) (acc : State × Nat), acc.1.sameBut (l.foldl cutBay acc).1 [.orders, .pollQueue] := by
    intro l
    induction l with
    | nil => exact fun acc => acc.1.sameBut_refl _
    | cons b l ih => exact fun acc => (cutBay_frame acc b).trans (ih (cutBay acc b))
  exact h allBays.reverse (s, s.totalSetPoint - s.site.limit)

/-! ### Faults -/

theorem State.takeOut_frame (s : State) (b : BayNo) : s.sameBut (s.takeOut b) bayStateParts :=
  (((s.modFault_frame b _).mono (by simp)).then (State.setBayState_frame _ _ _) (by simp)).then (State.raiseFleet_frame _ _) (by simp)

theorem State.outAtThird_frame (s : State) (b : BayNo) : s.sameBut (s.outAtThird b) bayStateParts := by
  unfold State.outAtThird
  split
  · exact s.takeOut_frame b
  · exact s.sameBut_refl _

theorem State.countEntry_frame (s : State) (b : BayNo) (ks : List FaultKind) :
    s.sameBut (s.countEntry b ks) bayStateParts := by
  unfold State.countEntry
  split
  · exact ((s.modFault_frame b _).mono (by simp)).then (State.outAtThird_frame _ _) (by simp)
  · exact s.sameBut_refl _

theorem State.enterFault_frame (s : State) (b : BayNo) (k : FaultKind) (ks : List FaultKind) :
    s.sameBut (s.enterFault b k ks) orderEndParts :=
  ((((((((s.modFault_frame b _).mono (by simp)).then (State.abortOrder_frame _ _ _ _) (by simp)).then
    (State.stopTimers_frame _ _) (by simp)).then (State.setBayState_frame _ _ _) (by simp)).then (State.releaseFrom_frame _ _ _) (by simp)).then
    (State.modFault_frame _ _ _) (by simp)).then (State.raiseFleet_frame _ _) (by simp)).then (State.countEntry_frame _ _ _) (by simp)

theorem State.faultInFault_frame (s : State) (b : BayNo) (ks : List FaultKind) :
    s.sameBut (s.faultInFault b ks) orderEndParts := by
  unfold State.faultInFault
  simp only
  split
  · exact ((s.setFaultSet_frame b _).mono (by simp)).then (State.raiseFleet_frame _ _) (by simp)
  · exact s.sameBut_refl _

theorem State.faultInOut_frame (s : State) (b : BayNo) (k : FaultKind) (ks : List FaultKind) :
    s.sameBut (s.faultInOut b k ks) orderEndParts := by
  unfold State.faultInOut
  simp only
  repeat' split
  all_goals with_reducible first
    | exact s.sameBut_refl _
    | exact ((s.setFaultSet_frame b _).mono (by simp)).then (State.raiseFleet_frame _ _) (by simp)

theorem State.takeFault_frame (s : State) (b : BayNo) (k : FaultKind) (ks : List FaultKind) :
    s.sameBut (s.takeFault b k ks) orderEndParts := by
  unfold State.takeFault
  split
  all_goals with_reducible first
    | exact s.sameBut_refl _
    | exact s.enterFault_frame b k ks
    | exact s.faultInFault_frame b _
    | exact s.faultInOut_frame b k ks

theorem State.reportFault_frame (s : State) (b : BayNo) (k : FaultKind) :
    s.sameBut (s.reportFault b k) orderEndParts :=
  (s.takeFault_frame b k []).then (State.handIfChanged_frame _ _ _) (by simp)

theorem State.tryExit_frame (s : State) (b : BayNo) : s.sameBut (s.tryExit b) parkParts := by
  unfold State.tryExit
  simp only
  split
  · exact ((s.setFaultSet_frame b _).mono (by simp)).then (State.enterParked_frame _ _) (by simp)
  · exact s.sameBut_refl _

theorem State.takeCauses_frame (s : State) (b : BayNo) (l : List FaultKind) :
    s.sameBut (s.takeCauses b l) orderEndParts := by
  unfold State.takeCauses
  split
  · exact s.sameBut_refl _
  · exact s.takeFault_frame b _ _

theorem State.checkReply_frame (s : State) (b : BayNo) (n : Nat) : s.sameBut (s.checkReply b n) orderEndParts := by
  unfold State.checkReply
  split
  · exact ((s.modFault_frame b _).mono (by simp)).then (State.takeCauses_frame _ _ _) (by simp)
  · exact s.sameBut_refl _

/-! ### Events of a bay -/

theorem State.unplug_frame (s : State) (b : BayNo) : s.sameBut (s.unplug b) bayEventParts :=
  ((((((s.dropOrder_frame b _ _).mono (by simp)).then (State.clearLink_frame _ _) (by simp)).then
    (State.stopTimers_frame _ _) (by simp)).then (State.modBay_frame _ _ _) (by simp)).then (State.modFault_frame _ _ _) (by simp)).then
    (State.setBayState_frame _ _ _) (by simp)

theorem State.detect_frame (s : State) (b : BayNo) : s.sameBut (s.detect b) bayStateParts :=
  (s.setBayState_frame b _).then (State.modBay_frame _ _ _) (by simp)

theorem State.completeBind_frame (s : State) (b : BayNo) : s.sameBut (s.completeBind b) bayStateParts :=
  ((s.modBay_frame b _).mono (by simp)).then (State.setBayState_frame _ _ _) (by simp)

theorem State.passCheck_frame (s : State) (b : BayNo) : s.sameBut (s.passCheck b) bayStateParts :=
  ((s.modBay_frame b _).mono (by simp)).then (State.setBayState_frame _ _ _) (by simp)

theorem State.completeRelease_frame (s : State) (b : BayNo) : s.sameBut (s.completeRelease b) bayStateParts :=
  (((s.endRelease_frame b).mono (by simp)).then (State.modBay_frame _ _ _) (by simp)).then (State.setBayState_frame _ _ _) (by simp)

theorem State.endReleaseIf_frame (s : State) (b : BayNo) (c : Bool) :
    s.sameBut (s.endReleaseIf b c) [.bays, .faults] := by
  unfold State.endReleaseIf
  split
  · exact s.endRelease_frame b
  · exact s.sameBut_refl _

theorem State.replyOutOfService_frame (s : State) (b : BayNo) : s.sameBut (s.replyOutOfService b) parkParts := by
  unfold State.replyOutOfService
  simp only
  split
  · exact ((s.endReleaseIf_frame b _).mono (by simp)).then (State.clearLink_frame _ _) (by simp)
  · exact (s.endReleaseIf_frame b _).mono (by simp)

theorem State.replyEmpty_frame (s : State) (b : BayNo) : s.sameBut (s.replyEmpty b) parkParts := by
  unfold State.replyEmpty
  split
  · exact (s.detect_frame b).mono (by simp)
  · exact s.sameBut_refl _

theorem State.replyDetected_frame (s : State) (b : BayNo) : s.sameBut (s.replyDetected b) parkParts := by
  unfold State.replyDetected
  repeat' split
  all_goals with_reducible first
    | exact (s.setBayState_frame b _).mono (by simp)
    | exact s.enterParked_frame b
    | exact ((s.setBayState_frame b _).mono (by simp)).then (State.detect_frame _ _) (by simp)

theorem State.replySameBus_frame (s : State) (b : BayNo) : s.sameBut (s.replySameBus b) orderEndParts := by
  unfold State.replySameBus
  simp only
  repeat' split
  all_goals with_reducible first
    | exact s.sameBut_refl _
    | exact (s.endReleaseIf_frame b _).mono (by simp)
    | exact (s.completeBind_frame b).mono (by simp)
    | exact (s.passCheck_frame b).mono (by simp)
    | exact s.takeFault_frame b _ _
    | exact (s.completeRelease_frame b).mono (by simp)

theorem State.replyPlugged_frame (s : State) (b : BayNo) (n : Nat) : s.sameBut (s.replyPlugged b n) bayEventParts := by
  unfold State.replyPlugged
  split
  · exact s.unplug_frame b
  · split
    · exact (s.unplug_frame b).then (State.detect_frame _ _) (by simp)
    · exact (s.replySameBus_frame b).mono (by simp)

theorem State.replyTransition_frame (s : State) (b : BayNo) (n : Nat) :
    s.sameBut (s.replyTransition b n) bayEventParts := by
  unfold State.replyTransition
  split
  all_goals with_reducible first
    | exact (s.replyEmpty_frame b).mono (by simp)
    | exact (s.replyDetected_frame b).mono (by simp)
    | exact (s.replyOutOfService_frame b).mono (by simp)
    | exact s.replyPlugged_frame b n

theorem State.reserveGuard_frame (s : State) (b : BayNo) : s.sameBut (s.reserveGuard b) [.orders, .fleetFlags] := by
  unfold State.reserveGuard
  repeat' split
  all_goals with_reducible first
    | exact s.sameBut_refl _
    | exact ((s.setOrder_frame b _).mono (by simp)).then (State.raiseFleet_frame _ _) (by simp)

theorem State.exitAtReply_frame (s : State) (b : BayNo) : s.sameBut (s.exitAtReply b) parkParts := by
  unfold State.exitAtReply
  split
  · exact s.tryExit_frame b
  · exact s.sameBut_refl _

/-- A valid reply writes its bay's records, its link and order, marks and notices, and nothing else. -/
theorem State.takeReply_frame (s : State) (b : BayNo) (t : Telemetry) (n : Nat) :
    s.sameBut (s.takeReply b t n) bayEventParts :=
  (((((((s.modBay_frame b _).mono (by simp)).then (State.recomputeCaps_frame _ _) (by simp)).then
    (State.replyTransition_frame _ _ _) (by simp)).then (State.checkReply_frame _ _ _) (by simp)).then
    (State.exitAtReply_frame _ _) (by simp)).then (State.reserveGuard_frame _ _) (by simp)).then (State.handIfChanged_frame _ _ _) (by simp)

theorem State.guardActs_frame (s : State) (b : BayNo) : s.sameBut (s.guardActs b) orderEndParts :=
  (((s.releaseFor_frame b _).then (State.raiseFleet_frame _ _) (by simp)).then (State.markBay_frame _ _) (by simp)).then
    (State.modBay_frame _ _ _) (by simp)

theorem State.evaluateGuard_frame (s : State) (b : BayNo) : s.sameBut (s.evaluateGuard b) orderEndParts := by
  unfold State.evaluateGuard
  simp only
  repeat' split
  all_goals with_reducible first
    | exact s.sameBut_refl _
    | exact s.guardActs_frame b
    | exact (s.modBay_frame b _).mono (by simp)

theorem State.evaluateGuards_frame (s : State) : s.sameBut s.evaluateGuards orderEndParts := by
  unfold State.evaluateGuards
  split
  · exact State.sameBut_foldl _ State.evaluateGuard_frame allBays s
  · exact s.sameBut_refl _

theorem State.unlinkBay_frame (s : State) (b : BayNo) : s.sameBut (s.unlinkBay b) bayEventParts :=
  ((s.clearLink_frame b).mono (by simp)).then (State.releaseFor_frame _ _ _) (by simp)

theorem State.takeBayOut_frame (s : State) (b : BayNo) : s.sameBut (s.takeBayOut b) orderEndParts :=
  (((((s.abortOrder_frame b _ _).mono (by simp)).then (State.stopTimers_frame _ _) (by simp)).then
    (State.releaseFrom_frame _ _ _) (by simp)).then (State.takeOut_frame _ _) (by simp)).then (State.handIfChanged_frame _ _ _) (by simp)

theorem State.takeReleaseTimeout_frame (s : State) (b : BayNo) : s.sameBut (s.takeReleaseTimeout b) orderEndParts := by
  unfold State.takeReleaseTimeout
  repeat' split
  all_goals with_reducible first
    | exact s.sameBut_refl _
    | exact s.faultInOut_frame b _ _
    | exact (((s.modFault_frame b _).mono (by simp)).then (State.takeOut_frame _ _) (by simp)).then
        (State.raiseFleet_frame _ _) (by simp)

theorem State.releaseTimeout_frame (s : State) (b : BayNo) : s.sameBut (s.releaseTimeout b) orderEndParts :=
  (((s.takeReleaseTimeout_frame b).then (State.modBay_frame _ _ _) (by simp)).then (State.modFault_frame _ _ _) (by simp)).then
    (State.handIfChanged_frame _ _ _) (by simp)

theorem State.countMiss_frame (s : State) (b : BayNo) : s.sameBut (s.countMiss b) [.lines] := s.setLine_frame b _

theorem State.miss_frame (s : State) (b : BayNo) : s.sameBut (s.miss b) (.lines :: orderEndParts) := by
  unfold State.miss
  split
  · exact ((s.countMiss_frame b).mono (by simp)).then (State.reportFault_frame _ _ _) (by simp)
  · exact (s.countMiss_frame b).mono (by simp)

end Sys2Proof.Machine
end

