-- ==== Sys2Proof/Laws/BayFields.lean ====
section
/-! SUPPORT. What the shared operations on one bay leave in the fields they do not write: their frames, field by
field. -/

namespace Sys2Proof.Machine

/-! ### leaveState -/

@[simp] theorem State.leaveState_pending (s : State) (b : BayNo) (st : BayState) :
    (s.leaveState b st).pending = s.pending := (s.leaveState_frame b st).pending (by simp)
@[simp] theorem State.leaveState_device (s : State) (b : BayNo) (st : BayState) :
    (s.leaveState b st).device = s.device := (s.leaveState_frame b st).device (by simp)
@[simp] theorem State.leaveState_clock (s : State) (b : BayNo) (st : BayState) :
    (s.leaveState b st).clock = s.clock := (s.leaveState_frame b st).clock (by simp)
@[simp] theorem State.leaveState_clockValid (s : State) (b : BayNo) (st : BayState) :
    (s.leaveState b st).clockValid = s.clockValid := (s.leaveState_frame b st).clockValid (by simp)
@[simp] theorem State.leaveState_uptime (s : State) (b : BayNo) (st : BayState) :
    (s.leaveState b st).uptime = s.uptime := (s.leaveState_frame b st).uptime (by simp)
@[simp] theorem State.leaveState_site (s : State) (b : BayNo) (st : BayState) :
    (s.leaveState b st).site = s.site := (s.leaveState_frame b st).site (by simp)
@[simp] theorem State.leaveState_siteValid (s : State) (b : BayNo) (st : BayState) :
    (s.leaveState b st).siteValid = s.siteValid := (s.leaveState_frame b st).siteValid (by simp)
@[simp] theorem State.leaveState_roster (s : State) (b : BayNo) (st : BayState) :
    (s.leaveState b st).roster = s.roster := (s.leaveState_frame b st).roster (by simp)
@[simp] theorem State.leaveState_bays (s : State) (b : BayNo) (st : BayState) :
    (s.leaveState b st).bays = s.bays := (s.leaveState_frame b st).bays (by simp)
@[simp] theorem State.leaveState_policy (s : State) (b : BayNo) (st : BayState) :
    (s.leaveState b st).policy = s.policy := (s.leaveState_frame b st).policy (by simp)
@[simp] theorem State.leaveState_orders (s : State) (b : BayNo) (st : BayState) :
    (s.leaveState b st).orders = s.orders := (s.leaveState_frame b st).orders (by simp)
@[simp] theorem State.leaveState_profiles (s : State) (b : BayNo) (st : BayState) :
    (s.leaveState b st).profiles = s.profiles := (s.leaveState_frame b st).profiles (by simp)
@[simp] theorem State.leaveState_queue (s : State) (b : BayNo) (st : BayState) :
    (s.leaveState b st).queue = s.queue := (s.leaveState_frame b st).queue (by simp)
@[simp] theorem State.leaveState_lastResult (s : State) (b : BayNo) (st : BayState) :
    (s.leaveState b st).lastResult = s.lastResult := (s.leaveState_frame b st).lastResult (by simp)
@[simp] theorem State.leaveState_notices (s : State) (b : BayNo) (st : BayState) :
    (s.leaveState b st).notices = s.notices := (s.leaveState_frame b st).notices (by simp)
@[simp] theorem State.leaveState_lines (s : State) (b : BayNo) (st : BayState) :
    (s.leaveState b st).lines = s.lines := (s.leaveState_frame b st).lines (by simp)
@[simp] theorem State.leaveState_pollQueue (s : State) (b : BayNo) (st : BayState) :
    (s.leaveState b st).pollQueue = s.pollQueue := (s.leaveState_frame b st).pollQueue (by simp)
@[simp] theorem State.leaveState_exchange (s : State) (b : BayNo) (st : BayState) :
    (s.leaveState b st).exchange = s.exchange := (s.leaveState_frame b st).exchange (by simp)
@[simp] theorem State.leaveState_grid (s : State) (b : BayNo) (st : BayState) :
    (s.leaveState b st).grid = s.grid := (s.leaveState_frame b st).grid (by simp)
@[simp] theorem State.leaveState_fleet (s : State) (b : BayNo) (st : BayState) :
    (s.leaveState b st).fleet = s.fleet := (s.leaveState_frame b st).fleet (by simp)
@[simp] theorem State.leaveState_changeSet (s : State) (b : BayNo) (st : BayState) :
    (s.leaveState b st).changeSet = s.changeSet := (s.leaveState_frame b st).changeSet (by simp)
@[simp] theorem State.bay_leaveState (s : State) (b : BayNo) (st : BayState) (c : BayNo) :
    (s.leaveState b st).bay c = s.bay c := by
  simp only [State.bay, State.leaveState_bays]
@[simp] theorem State.order_leaveState (s : State) (b : BayNo) (st : BayState) (c : BayNo) :
    (s.leaveState b st).order c = s.order c := by
  simp only [State.order, State.leaveState_orders]
@[simp] theorem State.line_leaveState (s : State) (b : BayNo) (st : BayState) (c : BayNo) :
    (s.leaveState b st).line c = s.line c := by
  simp only [State.line, State.leaveState_lines]
@[simp] theorem State.request?_leaveState (s : State) (b : BayNo) (st : BayState) (id : Nat) :
    (s.leaveState b st).request? id = s.request? id := by
  simp only [State.request?, State.leaveState_queue]
@[simp] theorem State.releaseOnEnd_leaveState (s : State) (b : BayNo) (st : BayState) (id : Nat) :
    (s.leaveState b st).releaseOnEnd id = s.releaseOnEnd id := by
  simp only [State.releaseOnEnd, State.request?_leaveState]

/-! ### setBayState -/

@[simp] theorem State.setBayState_pending (s : State) (b : BayNo) (st : BayState) :
    (s.setBayState b st).pending = s.pending := (s.setBayState_frame b st).pending (by simp)
@[simp] theorem State.setBayState_device (s : State) (b : BayNo) (st : BayState) :
    (s.setBayState b st).device = s.device := (s.setBayState_frame b st).device (by simp)
@[simp] theorem State.setBayState_clock (s : State) (b : BayNo) (st : BayState) :
    (s.setBayState b st).clock = s.clock := (s.setBayState_frame b st).clock (by simp)
@[simp] theorem State.setBayState_clockValid (s : State) (b : BayNo) (st : BayState) :
    (s.setBayState b st).clockValid = s.clockValid := (s.setBayState_frame b st).clockValid (by simp)
@[simp] theorem State.setBayState_uptime (s : State) (b : BayNo) (st : BayState) :
    (s.setBayState b st).uptime = s.uptime := (s.setBayState_frame b st).uptime (by simp)
@[simp] theorem State.setBayState_site (s : State) (b : BayNo) (st : BayState) :
    (s.setBayState b st).site = s.site := (s.setBayState_frame b st).site (by simp)
@[simp] theorem State.setBayState_siteValid (s : State) (b : BayNo) (st : BayState) :
    (s.setBayState b st).siteValid = s.siteValid := (s.setBayState_frame b st).siteValid (by simp)
@[simp] theorem State.setBayState_roster (s : State) (b : BayNo) (st : BayState) :
    (s.setBayState b st).roster = s.roster := (s.setBayState_frame b st).roster (by simp)
@[simp] theorem State.setBayState_policy (s : State) (b : BayNo) (st : BayState) :
    (s.setBayState b st).policy = s.policy := (s.setBayState_frame b st).policy (by simp)
@[simp] theorem State.setBayState_orders (s : State) (b : BayNo) (st : BayState) :
    (s.setBayState b st).orders = s.orders := (s.setBayState_frame b st).orders (by simp)
@[simp] theorem State.setBayState_profiles (s : State) (b : BayNo) (st : BayState) :
    (s.setBayState b st).profiles = s.profiles := (s.setBayState_frame b st).profiles (by simp)
@[simp] theorem State.setBayState_queue (s : State) (b : BayNo) (st : BayState) :
    (s.setBayState b st).queue = s.queue := (s.setBayState_frame b st).queue (by simp)
@[simp] theorem State.setBayState_lastResult (s : State) (b : BayNo) (st : BayState) :
    (s.setBayState b st).lastResult = s.lastResult := (s.setBayState_frame b st).lastResult (by simp)
@[simp] theorem State.setBayState_notices (s : State) (b : BayNo) (st : BayState) :
    (s.setBayState b st).notices = s.notices := (s.setBayState_frame b st).notices (by simp)
@[simp] theorem State.setBayState_lines (s : State) (b : BayNo) (st : BayState) :
    (s.setBayState b st).lines = s.lines := (s.setBayState_frame b st).lines (by simp)
@[simp] theorem State.setBayState_pollQueue (s : State) (b : BayNo) (st : BayState) :
    (s.setBayState b st).pollQueue = s.pollQueue := (s.setBayState_frame b st).pollQueue (by simp)
@[simp] theorem State.setBayState_exchange (s : State) (b : BayNo) (st : BayState) :
    (s.setBayState b st).exchange = s.exchange := (s.setBayState_frame b st).exchange (by simp)
@[simp] theorem State.setBayState_grid (s : State) (b : BayNo) (st : BayState) :
    (s.setBayState b st).grid = s.grid := (s.setBayState_frame b st).grid (by simp)
@[simp] theorem State.order_setBayState (s : State) (b : BayNo) (st : BayState) (c : BayNo) :
    (s.setBayState b st).order c = s.order c := by
  simp only [State.order, State.setBayState_orders]
@[simp] theorem State.line_setBayState (s : State) (b : BayNo) (st : BayState) (c : BayNo) :
    (s.setBayState b st).line c = s.line c := by
  simp only [State.line, State.setBayState_lines]
@[simp] theorem State.request?_setBayState (s : State) (b : BayNo) (st : BayState) (id : Nat) :
    (s.setBayState b st).request? id = s.request? id := by
  simp only [State.request?, State.setBayState_queue]
@[simp] theorem State.releaseOnEnd_setBayState (s : State) (b : BayNo) (st : BayState) (id : Nat) :
    (s.setBayState b st).releaseOnEnd id = s.releaseOnEnd id := by
  simp only [State.releaseOnEnd, State.request?_setBayState]

/-! ### recomputeCaps -/

@[simp] theorem State.recomputeCaps_pending (s : State) (b : BayNo) :
    (s.recomputeCaps b).pending = s.pending := (s.recomputeCaps_frame b).pending (by simp)
@[simp] theorem State.recomputeCaps_device (s : State) (b : BayNo) :
    (s.recomputeCaps b).device = s.device := (s.recomputeCaps_frame b).device (by simp)
@[simp] theorem State.recomputeCaps_clock (s : State) (b : BayNo) :
    (s.recomputeCaps b).clock = s.clock := (s.recomputeCaps_frame b).clock (by simp)
@[simp] theorem State.recomputeCaps_clockValid (s : State) (b : BayNo) :
    (s.recomputeCaps b).clockValid = s.clockValid := (s.recomputeCaps_frame b).clockValid (by simp)
@[simp] theorem State.recomputeCaps_uptime (s : State) (b : BayNo) :
    (s.recomputeCaps b).uptime = s.uptime := (s.recomputeCaps_frame b).uptime (by simp)
@[simp] theorem State.recomputeCaps_site (s : State) (b : BayNo) :
    (s.recomputeCaps b).site = s.site := (s.recomputeCaps_frame b).site (by simp)
@[simp] theorem State.recomputeCaps_siteValid (s : State) (b : BayNo) :
    (s.recomputeCaps b).siteValid = s.siteValid := (s.recomputeCaps_frame b).siteValid (by simp)
@[simp] theorem State.recomputeCaps_roster (s : State) (b : BayNo) :
    (s.recomputeCaps b).roster = s.roster := (s.recomputeCaps_frame b).roster (by simp)
@[simp] theorem State.recomputeCaps_faults (s : State) (b : BayNo) :
    (s.recomputeCaps b).faults = s.faults := (s.recomputeCaps_frame b).faults (by simp)
@[simp] theorem State.recomputeCaps_policy (s : State) (b : BayNo) :
    (s.recomputeCaps b).policy = s.policy := (s.recomputeCaps_frame b).policy (by simp)
@[simp] theorem State.recomputeCaps_orders (s : State) (b : BayNo) :
    (s.recomputeCaps b).orders = s.orders := (s.recomputeCaps_frame b).orders (by simp)
@[simp] theorem State.recomputeCaps_profiles (s : State) (b : BayNo) :
    (s.recomputeCaps b).profiles = s.profiles := (s.recomputeCaps_frame b).profiles (by simp)
@[simp] theorem State.recomputeCaps_queue (s : State) (b : BayNo) :
    (s.recomputeCaps b).queue = s.queue := (s.recomputeCaps_frame b).queue (by simp)
@[simp] theorem State.recomputeCaps_lastResult (s : State) (b : BayNo) :
    (s.recomputeCaps b).lastResult = s.lastResult := (s.recomputeCaps_frame b).lastResult (by simp)
@[simp] theorem State.recomputeCaps_notices (s : State) (b : BayNo) :
    (s.recomputeCaps b).notices = s.notices := (s.recomputeCaps_frame b).notices (by simp)
@[simp] theorem State.recomputeCaps_lines (s : State) (b : BayNo) :
    (s.recomputeCaps b).lines = s.lines := (s.recomputeCaps_frame b).lines (by simp)
@[simp] theorem State.recomputeCaps_pollQueue (s : State) (b : BayNo) :
    (s.recomputeCaps b).pollQueue = s.pollQueue := (s.recomputeCaps_frame b).pollQueue (by simp)
@[simp] theorem State.recomputeCaps_exchange (s : State) (b : BayNo) :
    (s.recomputeCaps b).exchange = s.exchange := (s.recomputeCaps_frame b).exchange (by simp)
@[simp] theorem State.recomputeCaps_grid (s : State) (b : BayNo) :
    (s.recomputeCaps b).grid = s.grid := (s.recomputeCaps_frame b).grid (by simp)
@[simp] theorem State.recomputeCaps_fleet (s : State) (b : BayNo) :
    (s.recomputeCaps b).fleet = s.fleet := (s.recomputeCaps_frame b).fleet (by simp)
@[simp] theorem State.recomputeCaps_changeSet (s : State) (b : BayNo) :
    (s.recomputeCaps b).changeSet = s.changeSet := (s.recomputeCaps_frame b).changeSet (by simp)
@[simp] theorem State.faultSet_recomputeCaps (s : State) (b : BayNo) (c : BayNo) :
    (s.recomputeCaps b).faultSet c = s.faultSet c := by
  simp only [State.faultSet, State.recomputeCaps_faults]
@[simp] theorem State.order_recomputeCaps (s : State) (b : BayNo) (c : BayNo) :
    (s.recomputeCaps b).order c = s.order c := by
  simp only [State.order, State.recomputeCaps_orders]
@[simp] theorem State.line_recomputeCaps (s : State) (b : BayNo) (c : BayNo) :
    (s.recomputeCaps b).line c = s.line c := by
  simp only [State.line, State.recomputeCaps_lines]
@[simp] theorem State.request?_recomputeCaps (s : State) (b : BayNo) (id : Nat) :
    (s.recomputeCaps b).request? id = s.request? id := by
  simp only [State.request?, State.recomputeCaps_queue]
@[simp] theorem State.releaseOnEnd_recomputeCaps (s : State) (b : BayNo) (id : Nat) :
    (s.recomputeCaps b).releaseOnEnd id = s.releaseOnEnd id := by
  simp only [State.releaseOnEnd, State.request?_recomputeCaps]

/-! ### linkBay -/

@[simp] theorem State.linkBay_pending (s : State) (b : BayNo) (v : Vehicle) :
    (s.linkBay b v).pending = s.pending := (s.linkBay_frame b v).pending (by simp)
@[simp] theorem State.linkBay_device (s : State) (b : BayNo) (v : Vehicle) :
    (s.linkBay b v).device = s.device := (s.linkBay_frame b v).device (by simp)
@[simp] theorem State.linkBay_clock (s : State) (b : BayNo) (v : Vehicle) :
    (s.linkBay b v).clock = s.clock := (s.linkBay_frame b v).clock (by simp)
@[simp] theorem State.linkBay_clockValid (s : State) (b : BayNo) (v : Vehicle) :
    (s.linkBay b v).clockValid = s.clockValid := (s.linkBay_frame b v).clockValid (by simp)
@[simp] theorem State.linkBay_uptime (s : State) (b : BayNo) (v : Vehicle) :
    (s.linkBay b v).uptime = s.uptime := (s.linkBay_frame b v).uptime (by simp)
@[simp] theorem State.linkBay_site (s : State) (b : BayNo) (v : Vehicle) :
    (s.linkBay b v).site = s.site := (s.linkBay_frame b v).site (by simp)
@[simp] theorem State.linkBay_siteValid (s : State) (b : BayNo) (v : Vehicle) :
    (s.linkBay b v).siteValid = s.siteValid := (s.linkBay_frame b v).siteValid (by simp)
@[simp] theorem State.linkBay_faults (s : State) (b : BayNo) (v : Vehicle) :
    (s.linkBay b v).faults = s.faults := (s.linkBay_frame b v).faults (by simp)
@[simp] theorem State.linkBay_policy (s : State) (b : BayNo) (v : Vehicle) :
    (s.linkBay b v).policy = s.policy := (s.linkBay_frame b v).policy (by simp)
@[simp] theorem State.linkBay_orders (s : State) (b : BayNo) (v : Vehicle) :
    (s.linkBay b v).orders = s.orders := (s.linkBay_frame b v).orders (by simp)
@[simp] theorem State.linkBay_profiles (s : State) (b : BayNo) (v : Vehicle) :
    (s.linkBay b v).profiles = s.profiles := (s.linkBay_frame b v).profiles (by simp)
@[simp] theorem State.linkBay_queue (s : State) (b : BayNo) (v : Vehicle) :
    (s.linkBay b v).queue = s.queue := (s.linkBay_frame b v).queue (by simp)
@[simp] theorem State.linkBay_lastResult (s : State) (b : BayNo) (v : Vehicle) :
    (s.linkBay b v).lastResult = s.lastResult := (s.linkBay_frame b v).lastResult (by simp)
@[simp] theorem State.linkBay_notices (s : State) (b : BayNo) (v : Vehicle) :
    (s.linkBay b v).notices = s.notices := (s.linkBay_frame b v).notices (by simp)
@[simp] theorem State.linkBay_lines (s : State) (b : BayNo) (v : Vehicle) :
    (s.linkBay b v).lines = s.lines := (s.linkBay_frame b v).lines (by simp)
@[simp] theorem State.linkBay_pollQueue (s : State) (b : BayNo) (v : Vehicle) :
    (s.linkBay b v).pollQueue = s.pollQueue := (s.linkBay_frame b v).pollQueue (by simp)
@[simp] theorem State.linkBay_exchange (s : State) (b : BayNo) (v : Vehicle) :
    (s.linkBay b v).exchange = s.exchange := (s.linkBay_frame b v).exchange (by simp)
@[simp] theorem State.linkBay_grid (s : State) (b : BayNo) (v : Vehicle) :
    (s.linkBay b v).grid = s.grid := (s.linkBay_frame b v).grid (by simp)
@[simp] theorem State.faultSet_linkBay (s : State) (b : BayNo) (v : Vehicle) (c : BayNo) :
    (s.linkBay b v).faultSet c = s.faultSet c := by
  simp only [State.faultSet, State.linkBay_faults]
@[simp] theorem State.order_linkBay (s : State) (b : BayNo) (v : Vehicle) (c : BayNo) :
    (s.linkBay b v).order c = s.order c := by
  simp only [State.order, State.linkBay_orders]
@[simp] theorem State.line_linkBay (s : State) (b : BayNo) (v : Vehicle) (c : BayNo) :
    (s.linkBay b v).line c = s.line c := by
  simp only [State.line, State.linkBay_lines]
@[simp] theorem State.request?_linkBay (s : State) (b : BayNo) (v : Vehicle) (id : Nat) :
    (s.linkBay b v).request? id = s.request? id := by
  simp only [State.request?, State.linkBay_queue]
@[simp] theorem State.releaseOnEnd_linkBay (s : State) (b : BayNo) (v : Vehicle) (id : Nat) :
    (s.linkBay b v).releaseOnEnd id = s.releaseOnEnd id := by
  simp only [State.releaseOnEnd, State.request?_linkBay]

/-! ### clearLink -/

@[simp] theorem State.clearLink_pending (s : State) (b : BayNo) :
    (s.clearLink b).pending = s.pending := (s.clearLink_frame b).pending (by simp)
@[simp] theorem State.clearLink_device (s : State) (b : BayNo) :
    (s.clearLink b).device = s.device := (s.clearLink_frame b).device (by simp)
@[simp] theorem State.clearLink_clock (s : State) (b : BayNo) :
    (s.clearLink b).clock = s.clock := (s.clearLink_frame b).clock (by simp)
@[simp] theorem State.clearLink_clockValid (s : State) (b : BayNo) :
    (s.clearLink b).clockValid = s.clockValid := (s.clearLink_frame b).clockValid (by simp)
@[simp] theorem State.clearLink_uptime (s : State) (b : BayNo) :
    (s.clearLink b).uptime = s.uptime := (s.clearLink_frame b).uptime (by simp)
@[simp] theorem State.clearLink_site (s : State) (b : BayNo) :
    (s.clearLink b).site = s.site := (s.clearLink_frame b).site (by simp)
@[simp] theorem State.clearLink_siteValid (s : State) (b : BayNo) :
    (s.clearLink b).siteValid = s.siteValid := (s.clearLink_frame b).siteValid (by simp)
@[simp] theorem State.clearLink_faults (s : State) (b : BayNo) :
    (s.clearLink b).faults = s.faults := (s.clearLink_frame b).faults (by simp)
@[simp] theorem State.clearLink_policy (s : State) (b : BayNo) :
    (s.clearLink b).policy = s.policy := (s.clearLink_frame b).policy (by simp)
@[simp] theorem State.clearLink_orders (s : State) (b : BayNo) :
    (s.clearLink b).orders = s.orders := (s.clearLink_frame b).orders (by simp)
@[simp] theorem State.clearLink_profiles (s : State) (b : BayNo) :
    (s.clearLink b).profiles = s.profiles := (s.clearLink_frame b).profiles (by simp)
@[simp] theorem State.clearLink_queue (s : State) (b : BayNo) :
    (s.clearLink b).queue = s.queue := (s.clearLink_frame b).queue (by simp)
@[simp] theorem State.clearLink_lastResult (s : State) (b : BayNo) :
    (s.clearLink b).lastResult = s.lastResult := (s.clearLink_frame b).lastResult (by simp)
@[simp] theorem State.clearLink_notices (s : State) (b : BayNo) :
    (s.clearLink b).notices = s.notices := (s.clearLink_frame b).notices (by simp)
@[simp] theorem State.clearLink_lines (s : State) (b : BayNo) :
    (s.clearLink b).lines = s.lines := (s.clearLink_frame b).lines (by simp)
@[simp] theorem State.clearLink_pollQueue (s : State) (b : BayNo) :
    (s.clearLink b).pollQueue = s.pollQueue := (s.clearLink_frame b).pollQueue (by simp)
@[simp] theorem State.clearLink_exchange (s : State) (b : BayNo) :
    (s.clearLink b).exchange = s.exchange := (s.clearLink_frame b).exchange (by simp)
@[simp] theorem State.clearLink_grid (s : State) (b : BayNo) :
    (s.clearLink b).grid = s.grid := (s.clearLink_frame b).grid (by simp)
@[simp] theorem State.faultSet_clearLink (s : State) (b : BayNo) (c : BayNo) :
    (s.clearLink b).faultSet c = s.faultSet c := by
  simp only [State.faultSet, State.clearLink_faults]
@[simp] theorem State.order_clearLink (s : State) (b : BayNo) (c : BayNo) :
    (s.clearLink b).order c = s.order c := by
  simp only [State.order, State.clearLink_orders]
@[simp] theorem State.line_clearLink (s : State) (b : BayNo) (c : BayNo) :
    (s.clearLink b).line c = s.line c := by
  simp only [State.line, State.clearLink_lines]
@[simp] theorem State.request?_clearLink (s : State) (b : BayNo) (id : Nat) :
    (s.clearLink b).request? id = s.request? id := by
  simp only [State.request?, State.clearLink_queue]
@[simp] theorem State.releaseOnEnd_clearLink (s : State) (b : BayNo) (id : Nat) :
    (s.clearLink b).releaseOnEnd id = s.releaseOnEnd id := by
  simp only [State.releaseOnEnd, State.request?_clearLink]

/-! ### testLink -/

@[simp] theorem State.testLink_pending (s : State) (b : BayNo) :
    (s.testLink b).pending = s.pending := (s.testLink_frame b).pending (by simp)
@[simp] theorem State.testLink_device (s : State) (b : BayNo) :
    (s.testLink b).device = s.device := (s.testLink_frame b).device (by simp)
@[simp] theorem State.testLink_clock (s : State) (b : BayNo) :
    (s.testLink b).clock = s.clock := (s.testLink_frame b).clock (by simp)
@[simp] theorem State.testLink_clockValid (s : State) (b : BayNo) :
    (s.testLink b).clockValid = s.clockValid := (s.testLink_frame b).clockValid (by simp)
@[simp] theorem State.testLink_uptime (s : State) (b : BayNo) :
    (s.testLink b).uptime = s.uptime := (s.testLink_frame b).uptime (by simp)
@[simp] theorem State.testLink_site (s : State) (b : BayNo) :
    (s.testLink b).site = s.site := (s.testLink_frame b).site (by simp)
@[simp] theorem State.testLink_siteValid (s : State) (b : BayNo) :
    (s.testLink b).siteValid = s.siteValid := (s.testLink_frame b).siteValid (by simp)
@[simp] theorem State.testLink_faults (s : State) (b : BayNo) :
    (s.testLink b).faults = s.faults := (s.testLink_frame b).faults (by simp)
@[simp] theorem State.testLink_policy (s : State) (b : BayNo) :
    (s.testLink b).policy = s.policy := (s.testLink_frame b).policy (by simp)
@[simp] theorem State.testLink_orders (s : State) (b : BayNo) :
    (s.testLink b).orders = s.orders := (s.testLink_frame b).orders (by simp)
@[simp] theorem State.testLink_profiles (s : State) (b : BayNo) :
    (s.testLink b).profiles = s.profiles := (s.testLink_frame b).profiles (by simp)
@[simp] theorem State.testLink_queue (s : State) (b : BayNo) :
    (s.testLink b).queue = s.queue := (s.testLink_frame b).queue (by simp)
@[simp] theorem State.testLink_lastResult (s : State) (b : BayNo) :
    (s.testLink b).lastResult = s.lastResult := (s.testLink_frame b).lastResult (by simp)
@[simp] theorem State.testLink_notices (s : State) (b : BayNo) :
    (s.testLink b).notices = s.notices := (s.testLink_frame b).notices (by simp)
@[simp] theorem State.testLink_lines (s : State) (b : BayNo) :
    (s.testLink b).lines = s.lines := (s.testLink_frame b).lines (by simp)
@[simp] theorem State.testLink_pollQueue (s : State) (b : BayNo) :
    (s.testLink b).pollQueue = s.pollQueue := (s.testLink_frame b).pollQueue (by simp)
@[simp] theorem State.testLink_exchange (s : State) (b : BayNo) :
    (s.testLink b).exchange = s.exchange := (s.testLink_frame b).exchange (by simp)
@[simp] theorem State.testLink_grid (s : State) (b : BayNo) :
    (s.testLink b).grid = s.grid := (s.testLink_frame b).grid (by simp)
@[simp] theorem State.faultSet_testLink (s : State) (b : BayNo) (c : BayNo) :
    (s.testLink b).faultSet c = s.faultSet c := by
  simp only [State.faultSet, State.testLink_faults]
@[simp] theorem State.order_testLink (s : State) (b : BayNo) (c : BayNo) :
    (s.testLink b).order c = s.order c := by
  simp only [State.order, State.testLink_orders]
@[simp] theorem State.line_testLink (s : State) (b : BayNo) (c : BayNo) :
    (s.testLink b).line c = s.line c := by
  simp only [State.line, State.testLink_lines]
@[simp] theorem State.request?_testLink (s : State) (b : BayNo) (id : Nat) :
    (s.testLink b).request? id = s.request? id := by
  simp only [State.request?, State.testLink_queue]
@[simp] theorem State.releaseOnEnd_testLink (s : State) (b : BayNo) (id : Nat) :
    (s.testLink b).releaseOnEnd id = s.releaseOnEnd id := by
  simp only [State.releaseOnEnd, State.request?_testLink]

/-! ### enterParked -/

@[simp] theorem State.enterParked_pending (s : State) (b : BayNo) :
    (s.enterParked b).pending = s.pending := (s.enterParked_frame b).pending (by simp)
@[simp] theorem State.enterParked_device (s : State) (b : BayNo) :
    (s.enterParked b).device = s.device := (s.enterParked_frame b).device (by simp)
@[simp] theorem State.enterParked_clock (s : State) (b : BayNo) :
    (s.enterParked b).clock = s.clock := (s.enterParked_frame b).clock (by simp)
@[simp] theorem State.enterParked_clockValid (s : State) (b : BayNo) :
    (s.enterParked b).clockValid = s.clockValid := (s.enterParked_frame b).clockValid (by simp)
@[simp] theorem State.enterParked_uptime (s : State) (b : BayNo) :
    (s.enterParked b).uptime = s.uptime := (s.enterParked_frame b).uptime (by simp)
@[simp] theorem State.enterParked_site (s : State) (b : BayNo) :
    (s.enterParked b).site = s.site := (s.enterParked_frame b).site (by simp)
@[simp] theorem State.enterParked_siteValid (s : State) (b : BayNo) :
    (s.enterParked b).siteValid = s.siteValid := (s.enterParked_frame b).siteValid (by simp)
@[simp] theorem State.enterParked_policy (s : State) (b : BayNo) :
    (s.enterParked b).policy = s.policy := (s.enterParked_frame b).policy (by simp)
@[simp] theorem State.enterParked_orders (s : State) (b : BayNo) :
    (s.enterParked b).orders = s.orders := (s.enterParked_frame b).orders (by simp)
@[simp] theorem State.enterParked_profiles (s : State) (b : BayNo) :
    (s.enterParked b).profiles = s.profiles := (s.enterParked_frame b).profiles (by simp)
@[simp] theorem State.enterParked_queue (s : State) (b : BayNo) :
    (s.enterParked b).queue = s.queue := (s.enterParked_frame b).queue (by simp)
@[simp] theorem State.enterParked_lastResult (s : State) (b : BayNo) :
    (s.enterParked b).lastResult = s.lastResult := (s.enterParked_frame b).lastResult (by simp)
@[simp] theorem State.enterParked_notices (s : State) (b : BayNo) :
    (s.enterParked b).notices = s.notices := (s.enterParked_frame b).notices (by simp)
@[simp] theorem State.enterParked_lines (s : State) (b : BayNo) :
    (s.enterParked b).lines = s.lines := (s.enterParked_frame b).lines (by simp)
@[simp] theorem State.enterParked_pollQueue (s : State) (b : BayNo) :
    (s.enterParked b).pollQueue = s.pollQueue := (s.enterParked_frame b).pollQueue (by simp)
@[simp] theorem State.enterParked_exchange (s : State) (b : BayNo) :
    (s.enterParked b).exchange = s.exchange := (s.enterParked_frame b).exchange (by simp)
@[simp] theorem State.enterParked_grid (s : State) (b : BayNo) :
    (s.enterParked b).grid = s.grid := (s.enterParked_frame b).grid (by simp)
@[simp] theorem State.order_enterParked (s : State) (b : BayNo) (c : BayNo) :
    (s.enterParked b).order c = s.order c := by
  simp only [State.order, State.enterParked_orders]
@[simp] theorem State.line_enterParked (s : State) (b : BayNo) (c : BayNo) :
    (s.enterParked b).line c = s.line c := by
  simp only [State.line, State.enterParked_lines]
@[simp] theorem State.request?_enterParked (s : State) (b : BayNo) (id : Nat) :
    (s.enterParked b).request? id = s.request? id := by
  simp only [State.request?, State.enterParked_queue]
@[simp] theorem State.releaseOnEnd_enterParked (s : State) (b : BayNo) (id : Nat) :
    (s.enterParked b).releaseOnEnd id = s.releaseOnEnd id := by
  simp only [State.releaseOnEnd, State.request?_enterParked]

/-! ### startRelease -/

@[simp] theorem State.startRelease_pending (s : State) (b : BayNo) :
    (s.startRelease b).pending = s.pending := (s.startRelease_frame b).pending (by simp)
@[simp] theorem State.startRelease_device (s : State) (b : BayNo) :
    (s.startRelease b).device = s.device := (s.startRelease_frame b).device (by simp)
@[simp] theorem State.startRelease_clock (s : State) (b : BayNo) :
    (s.startRelease b).clock = s.clock := (s.startRelease_frame b).clock (by simp)
@[simp] theorem State.startRelease_clockValid (s : State) (b : BayNo) :
    (s.startRelease b).clockValid = s.clockValid := (s.startRelease_frame b).clockValid (by simp)
@[simp] theorem State.startRelease_uptime (s : State) (b : BayNo) :
    (s.startRelease b).uptime = s.uptime := (s.startRelease_frame b).uptime (by simp)
@[simp] theorem State.startRelease_site (s : State) (b : BayNo) :
    (s.startRelease b).site = s.site := (s.startRelease_frame b).site (by simp)
@[simp] theorem State.startRelease_siteValid (s : State) (b : BayNo) :
    (s.startRelease b).siteValid = s.siteValid := (s.startRelease_frame b).siteValid (by simp)
@[simp] theorem State.startRelease_roster (s : State) (b : BayNo) :
    (s.startRelease b).roster = s.roster := (s.startRelease_frame b).roster (by simp)
@[simp] theorem State.startRelease_policy (s : State) (b : BayNo) :
    (s.startRelease b).policy = s.policy := (s.startRelease_frame b).policy (by simp)
@[simp] theorem State.startRelease_orders (s : State) (b : BayNo) :
    (s.startRelease b).orders = s.orders := (s.startRelease_frame b).orders (by simp)
@[simp] theorem State.startRelease_profiles (s : State) (b : BayNo) :
    (s.startRelease b).profiles = s.profiles := (s.startRelease_frame b).profiles (by simp)
@[simp] theorem State.startRelease_queue (s : State) (b : BayNo) :
    (s.startRelease b).queue = s.queue := (s.startRelease_frame b).queue (by simp)
@[simp] theorem State.startRelease_lastResult (s : State) (b : BayNo) :
    (s.startRelease b).lastResult = s.lastResult := (s.startRelease_frame b).lastResult (by simp)
@[simp] theorem State.startRelease_notices (s : State) (b : BayNo) :
    (s.startRelease b).notices = s.notices := (s.startRelease_frame b).notices (by simp)
@[simp] theorem State.startRelease_lines (s : State) (b : BayNo) :
    (s.startRelease b).lines = s.lines := (s.startRelease_frame b).lines (by simp)
@[simp] theorem State.startRelease_exchange (s : State) (b : BayNo) :
    (s.startRelease b).exchange = s.exchange := (s.startRelease_frame b).exchange (by simp)
@[simp] theorem State.startRelease_grid (s : State) (b : BayNo) :
    (s.startRelease b).grid = s.grid := (s.startRelease_frame b).grid (by simp)
@[simp] theorem State.startRelease_fleet (s : State) (b : BayNo) :
    (s.startRelease b).fleet = s.fleet := (s.startRelease_frame b).fleet (by simp)
@[simp] theorem State.startRelease_changeSet (s : State) (b : BayNo) :
    (s.startRelease b).changeSet = s.changeSet := (s.startRelease_frame b).changeSet (by simp)
@[simp] theorem State.order_startRelease (s : State) (b : BayNo) (c : BayNo) :
    (s.startRelease b).order c = s.order c := by
  simp only [State.order, State.startRelease_orders]
@[simp] theorem State.line_startRelease (s : State) (b : BayNo) (c : BayNo) :
    (s.startRelease b).line c = s.line c := by
  simp only [State.line, State.startRelease_lines]
@[simp] theorem State.request?_startRelease (s : State) (b : BayNo) (id : Nat) :
    (s.startRelease b).request? id = s.request? id := by
  simp only [State.request?, State.startRelease_queue]
@[simp] theorem State.releaseOnEnd_startRelease (s : State) (b : BayNo) (id : Nat) :
    (s.startRelease b).releaseOnEnd id = s.releaseOnEnd id := by
  simp only [State.releaseOnEnd, State.request?_startRelease]

/-! ### releaseFrom -/

@[simp] theorem State.releaseFrom_pending (s : State) (b : BayNo) (st : BayState) :
    (s.releaseFrom b st).pending = s.pending := (s.releaseFrom_frame b st).pending (by simp)
@[simp] theorem State.releaseFrom_device (s : State) (b : BayNo) (st : BayState) :
    (s.releaseFrom b st).device = s.device := (s.releaseFrom_frame b st).device (by simp)
@[simp] theorem State.releaseFrom_clock (s : State) (b : BayNo) (st : BayState) :
    (s.releaseFrom b st).clock = s.clock := (s.releaseFrom_frame b st).clock (by simp)
@[simp] theorem State.releaseFrom_clockValid (s : State) (b : BayNo) (st : BayState) :
    (s.releaseFrom b st).clockValid = s.clockValid := (s.releaseFrom_frame b st).clockValid (by simp)
@[simp] theorem State.releaseFrom_uptime (s : State) (b : BayNo) (st : BayState) :
    (s.releaseFrom b st).uptime = s.uptime := (s.releaseFrom_frame b st).uptime (by simp)
@[simp] theorem State.releaseFrom_site (s : State) (b : BayNo) (st : BayState) :
    (s.releaseFrom b st).site = s.site := (s.releaseFrom_frame b st).site (by simp)
@[simp] theorem State.releaseFrom_siteValid (s : State) (b : BayNo) (st : BayState) :
    (s.releaseFrom b st).siteValid = s.siteValid := (s.releaseFrom_frame b st).siteValid (by simp)
@[simp] theorem State.releaseFrom_roster (s : State) (b : BayNo) (st : BayState) :
    (s.releaseFrom b st).roster = s.roster := (s.releaseFrom_frame b st).roster (by simp)
@[simp] theorem State.releaseFrom_policy (s : State) (b : BayNo) (st : BayState) :
    (s.releaseFrom b st).policy = s.policy := (s.releaseFrom_frame b st).policy (by simp)
@[simp] theorem State.releaseFrom_orders (s : State) (b : BayNo) (st : BayState) :
    (s.releaseFrom b st).orders = s.orders := (s.releaseFrom_frame b st).orders (by simp)
@[simp] theorem State.releaseFrom_profiles (s : State) (b : BayNo) (st : BayState) :
    (s.releaseFrom b st).profiles = s.profiles := (s.releaseFrom_frame b st).profiles (by simp)
@[simp] theorem State.releaseFrom_queue (s : State) (b : BayNo) (st : BayState) :
    (s.releaseFrom b st).queue = s.queue := (s.releaseFrom_frame b st).queue (by simp)
@[simp] theorem State.releaseFrom_lastResult (s : State) (b : BayNo) (st : BayState) :
    (s.releaseFrom b st).lastResult = s.lastResult := (s.releaseFrom_frame b st).lastResult (by simp)
@[simp] theorem State.releaseFrom_notices (s : State) (b : BayNo) (st : BayState) :
    (s.releaseFrom b st).notices = s.notices := (s.releaseFrom_frame b st).notices (by simp)
@[simp] theorem State.releaseFrom_lines (s : State) (b : BayNo) (st : BayState) :
    (s.releaseFrom b st).lines = s.lines := (s.releaseFrom_frame b st).lines (by simp)
@[simp] theorem State.releaseFrom_exchange (s : State) (b : BayNo) (st : BayState) :
    (s.releaseFrom b st).exchange = s.exchange := (s.releaseFrom_frame b st).exchange (by simp)
@[simp] theorem State.releaseFrom_grid (s : State) (b : BayNo) (st : BayState) :
    (s.releaseFrom b st).grid = s.grid := (s.releaseFrom_frame b st).grid (by simp)
@[simp] theorem State.releaseFrom_fleet (s : State) (b : BayNo) (st : BayState) :
    (s.releaseFrom b st).fleet = s.fleet := (s.releaseFrom_frame b st).fleet (by simp)
@[simp] theorem State.releaseFrom_changeSet (s : State) (b : BayNo) (st : BayState) :
    (s.releaseFrom b st).changeSet = s.changeSet := (s.releaseFrom_frame b st).changeSet (by simp)
@[simp] theorem State.order_releaseFrom (s : State) (b : BayNo) (st : BayState) (c : BayNo) :
    (s.releaseFrom b st).order c = s.order c := by
  simp only [State.order, State.releaseFrom_orders]
@[simp] theorem State.line_releaseFrom (s : State) (b : BayNo) (st : BayState) (c : BayNo) :
    (s.releaseFrom b st).line c = s.line c := by
  simp only [State.line, State.releaseFrom_lines]
@[simp] theorem State.request?_releaseFrom (s : State) (b : BayNo) (st : BayState) (id : Nat) :
    (s.releaseFrom b st).request? id = s.request? id := by
  simp only [State.request?, State.releaseFrom_queue]
@[simp] theorem State.releaseOnEnd_releaseFrom (s : State) (b : BayNo) (st : BayState) (id : Nat) :
    (s.releaseFrom b st).releaseOnEnd id = s.releaseOnEnd id := by
  simp only [State.releaseOnEnd, State.request?_releaseFrom]

/-! ### endRelease -/

@[simp] theorem State.endRelease_pending (s : State) (b : BayNo) :
    (s.endRelease b).pending = s.pending := (s.endRelease_frame b).pending (by simp)
@[simp] theorem State.endRelease_device (s : State) (b : BayNo) :
    (s.endRelease b).device = s.device := (s.endRelease_frame b).device (by simp)
@[simp] theorem State.endRelease_clock (s : State) (b : BayNo) :
    (s.endRelease b).clock = s.clock := (s.endRelease_frame b).clock (by simp)
@[simp] theorem State.endRelease_clockValid (s : State) (b : BayNo) :
    (s.endRelease b).clockValid = s.clockValid := (s.endRelease_frame b).clockValid (by simp)
@[simp] theorem State.endRelease_uptime (s : State) (b : BayNo) :
    (s.endRelease b).uptime = s.uptime := (s.endRelease_frame b).uptime (by simp)
@[simp] theorem State.endRelease_site (s : State) (b : BayNo) :
    (s.endRelease b).site = s.site := (s.endRelease_frame b).site (by simp)
@[simp] theorem State.endRelease_siteValid (s : State) (b : BayNo) :
    (s.endRelease b).siteValid = s.siteValid := (s.endRelease_frame b).siteValid (by simp)
@[simp] theorem State.endRelease_roster (s : State) (b : BayNo) :
    (s.endRelease b).roster = s.roster := (s.endRelease_frame b).roster (by simp)
@[simp] theorem State.endRelease_policy (s : State) (b : BayNo) :
    (s.endRelease b).policy = s.policy := (s.endRelease_frame b).policy (by simp)
@[simp] theorem State.endRelease_orders (s : State) (b : BayNo) :
    (s.endRelease b).orders = s.orders := (s.endRelease_frame b).orders (by simp)
@[simp] theorem State.endRelease_profiles (s : State) (b : BayNo) :
    (s.endRelease b).profiles = s.profiles := (s.endRelease_frame b).profiles (by simp)
@[simp] theorem State.endRelease_queue (s : State) (b : BayNo) :
    (s.endRelease b).queue = s.queue := (s.endRelease_frame b).queue (by simp)
@[simp] theorem State.endRelease_lastResult (s : State) (b : BayNo) :
    (s.endRelease b).lastResult = s.lastResult := (s.endRelease_frame b).lastResult (by simp)
@[simp] theorem State.endRelease_notices (s : State) (b : BayNo) :
    (s.endRelease b).notices = s.notices := (s.endRelease_frame b).notices (by simp)
@[simp] theorem State.endRelease_lines (s : State) (b : BayNo) :
    (s.endRelease b).lines = s.lines := (s.endRelease_frame b).lines (by simp)
@[simp] theorem State.endRelease_pollQueue (s : State) (b : BayNo) :
    (s.endRelease b).pollQueue = s.pollQueue := (s.endRelease_frame b).pollQueue (by simp)
@[simp] theorem State.endRelease_exchange (s : State) (b : BayNo) :
    (s.endRelease b).exchange = s.exchange := (s.endRelease_frame b).exchange (by simp)
@[simp] theorem State.endRelease_grid (s : State) (b : BayNo) :
    (s.endRelease b).grid = s.grid := (s.endRelease_frame b).grid (by simp)
@[simp] theorem State.endRelease_fleet (s : State) (b : BayNo) :
    (s.endRelease b).fleet = s.fleet := (s.endRelease_frame b).fleet (by simp)
@[simp] theorem State.endRelease_changeSet (s : State) (b : BayNo) :
    (s.endRelease b).changeSet = s.changeSet := (s.endRelease_frame b).changeSet (by simp)
@[simp] theorem State.order_endRelease (s : State) (b : BayNo) (c : BayNo) :
    (s.endRelease b).order c = s.order c := by
  simp only [State.order, State.endRelease_orders]
@[simp] theorem State.line_endRelease (s : State) (b : BayNo) (c : BayNo) :
    (s.endRelease b).line c = s.line c := by
  simp only [State.line, State.endRelease_lines]
@[simp] theorem State.request?_endRelease (s : State) (b : BayNo) (id : Nat) :
    (s.endRelease b).request? id = s.request? id := by
  simp only [State.request?, State.endRelease_queue]
@[simp] theorem State.releaseOnEnd_endRelease (s : State) (b : BayNo) (id : Nat) :
    (s.endRelease b).releaseOnEnd id = s.releaseOnEnd id := by
  simp only [State.releaseOnEnd, State.request?_endRelease]

/-! ### stopTimers -/

@[simp] theorem State.stopTimers_pending (s : State) (b : BayNo) :
    (s.stopTimers b).pending = s.pending := (s.stopTimers_frame b).pending (by simp)
@[simp] theorem State.stopTimers_device (s : State) (b : BayNo) :
    (s.stopTimers b).device = s.device := (s.stopTimers_frame b).device (by simp)
@[simp] theorem State.stopTimers_clock (s : State) (b : BayNo) :
    (s.stopTimers b).clock = s.clock := (s.stopTimers_frame b).clock (by simp)
@[simp] theorem State.stopTimers_clockValid (s : State) (b : BayNo) :
    (s.stopTimers b).clockValid = s.clockValid := (s.stopTimers_frame b).clockValid (by simp)
@[simp] theorem State.stopTimers_uptime (s : State) (b : BayNo) :
    (s.stopTimers b).uptime = s.uptime := (s.stopTimers_frame b).uptime (by simp)
@[simp] theorem State.stopTimers_site (s : State) (b : BayNo) :
    (s.stopTimers b).site = s.site := (s.stopTimers_frame b).site (by simp)
@[simp] theorem State.stopTimers_siteValid (s : State) (b : BayNo) :
    (s.stopTimers b).siteValid = s.siteValid := (s.stopTimers_frame b).siteValid (by simp)
@[simp] theorem State.stopTimers_roster (s : State) (b : BayNo) :
    (s.stopTimers b).roster = s.roster := (s.stopTimers_frame b).roster (by simp)
@[simp] theorem State.stopTimers_faults (s : State) (b : BayNo) :
    (s.stopTimers b).faults = s.faults := (s.stopTimers_frame b).faults (by simp)
@[simp] theorem State.stopTimers_policy (s : State) (b : BayNo) :
    (s.stopTimers b).policy = s.policy := (s.stopTimers_frame b).policy (by simp)
@[simp] theorem State.stopTimers_orders (s : State) (b : BayNo) :
    (s.stopTimers b).orders = s.orders := (s.stopTimers_frame b).orders (by simp)
@[simp] theorem State.stopTimers_profiles (s : State) (b : BayNo) :
    (s.stopTimers b).profiles = s.profiles := (s.stopTimers_frame b).profiles (by simp)
@[simp] theorem State.stopTimers_queue (s : State) (b : BayNo) :
    (s.stopTimers b).queue = s.queue := (s.stopTimers_frame b).queue (by simp)
@[simp] theorem State.stopTimers_lastResult (s : State) (b : BayNo) :
    (s.stopTimers b).lastResult = s.lastResult := (s.stopTimers_frame b).lastResult (by simp)
@[simp] theorem State.stopTimers_notices (s : State) (b : BayNo) :
    (s.stopTimers b).notices = s.notices := (s.stopTimers_frame b).notices (by simp)
@[simp] theorem State.stopTimers_lines (s : State) (b : BayNo) :
    (s.stopTimers b).lines = s.lines := (s.stopTimers_frame b).lines (by simp)
@[simp] theorem State.stopTimers_pollQueue (s : State) (b : BayNo) :
    (s.stopTimers b).pollQueue = s.pollQueue := (s.stopTimers_frame b).pollQueue (by simp)
@[simp] theorem State.stopTimers_exchange (s : State) (b : BayNo) :
    (s.stopTimers b).exchange = s.exchange := (s.stopTimers_frame b).exchange (by simp)
@[simp] theorem State.stopTimers_grid (s : State) (b : BayNo) :
    (s.stopTimers b).grid = s.grid := (s.stopTimers_frame b).grid (by simp)
@[simp] theorem State.stopTimers_fleet (s : State) (b : BayNo) :
    (s.stopTimers b).fleet = s.fleet := (s.stopTimers_frame b).fleet (by simp)
@[simp] theorem State.stopTimers_changeSet (s : State) (b : BayNo) :
    (s.stopTimers b).changeSet = s.changeSet := (s.stopTimers_frame b).changeSet (by simp)
@[simp] theorem State.faultSet_stopTimers (s : State) (b : BayNo) (c : BayNo) :
    (s.stopTimers b).faultSet c = s.faultSet c := by
  simp only [State.faultSet, State.stopTimers_faults]
@[simp] theorem State.order_stopTimers (s : State) (b : BayNo) (c : BayNo) :
    (s.stopTimers b).order c = s.order c := by
  simp only [State.order, State.stopTimers_orders]
@[simp] theorem State.line_stopTimers (s : State) (b : BayNo) (c : BayNo) :
    (s.stopTimers b).line c = s.line c := by
  simp only [State.line, State.stopTimers_lines]
@[simp] theorem State.request?_stopTimers (s : State) (b : BayNo) (id : Nat) :
    (s.stopTimers b).request? id = s.request? id := by
  simp only [State.request?, State.stopTimers_queue]
@[simp] theorem State.releaseOnEnd_stopTimers (s : State) (b : BayNo) (id : Nat) :
    (s.stopTimers b).releaseOnEnd id = s.releaseOnEnd id := by
  simp only [State.releaseOnEnd, State.request?_stopTimers]

/-! ### release -/

@[simp] theorem State.release_pending (s : State) (b : BayNo) :
    (s.release b).pending = s.pending := (s.release_frame b).pending (by simp)
@[simp] theorem State.release_device (s : State) (b : BayNo) :
    (s.release b).device = s.device := (s.release_frame b).device (by simp)
@[simp] theorem State.release_clock (s : State) (b : BayNo) :
    (s.release b).clock = s.clock := (s.release_frame b).clock (by simp)
@[simp] theorem State.release_clockValid (s : State) (b : BayNo) :
    (s.release b).clockValid = s.clockValid := (s.release_frame b).clockValid (by simp)
@[simp] theorem State.release_uptime (s : State) (b : BayNo) :
    (s.release b).uptime = s.uptime := (s.release_frame b).uptime (by simp)
@[simp] theorem State.release_site (s : State) (b : BayNo) :
    (s.release b).site = s.site := (s.release_frame b).site (by simp)
@[simp] theorem State.release_siteValid (s : State) (b : BayNo) :
    (s.release b).siteValid = s.siteValid := (s.release_frame b).siteValid (by simp)
@[simp] theorem State.release_roster (s : State) (b : BayNo) :
    (s.release b).roster = s.roster := (s.release_frame b).roster (by simp)
@[simp] theorem State.release_policy (s : State) (b : BayNo) :
    (s.release b).policy = s.policy := (s.release_frame b).policy (by simp)
@[simp] theorem State.release_orders (s : State) (b : BayNo) :
    (s.release b).orders = s.orders := (s.release_frame b).orders (by simp)
@[simp] theorem State.release_profiles (s : State) (b : BayNo) :
    (s.release b).profiles = s.profiles := (s.release_frame b).profiles (by simp)
@[simp] theorem State.release_queue (s : State) (b : BayNo) :
    (s.release b).queue = s.queue := (s.release_frame b).queue (by simp)
@[simp] theorem State.release_lastResult (s : State) (b : BayNo) :
    (s.release b).lastResult = s.lastResult := (s.release_frame b).lastResult (by simp)
@[simp] theorem State.release_notices (s : State) (b : BayNo) :
    (s.release b).notices = s.notices := (s.release_frame b).notices (by simp)
@[simp] theorem State.release_lines (s : State) (b : BayNo) :
    (s.release b).lines = s.lines := (s.release_frame b).lines (by simp)
@[simp] theorem State.release_exchange (s : State) (b : BayNo) :
    (s.release b).exchange = s.exchange := (s.release_frame b).exchange (by simp)
@[simp] theorem State.release_grid (s : State) (b : BayNo) :
    (s.release b).grid = s.grid := (s.release_frame b).grid (by simp)
@[simp] theorem State.order_release (s : State) (b : BayNo) (c : BayNo) :
    (s.release b).order c = s.order c := by
  simp only [State.order, State.release_orders]
@[simp] theorem State.line_release (s : State) (b : BayNo) (c : BayNo) :
    (s.release b).line c = s.line c := by
  simp only [State.line, State.release_lines]
@[simp] theorem State.request?_release (s : State) (b : BayNo) (id : Nat) :
    (s.release b).request? id = s.request? id := by
  simp only [State.request?, State.release_queue]
@[simp] theorem State.releaseOnEnd_release (s : State) (b : BayNo) (id : Nat) :
    (s.release b).releaseOnEnd id = s.releaseOnEnd id := by
  simp only [State.releaseOnEnd, State.request?_release]

/-! ### startCheck -/

@[simp] theorem State.startCheck_pending (s : State) (b : BayNo) :
    (s.startCheck b).pending = s.pending := (s.startCheck_frame b).pending (by simp)
@[simp] theorem State.startCheck_device (s : State) (b : BayNo) :
    (s.startCheck b).device = s.device := (s.startCheck_frame b).device (by simp)
@[simp] theorem State.startCheck_clock (s : State) (b : BayNo) :
    (s.startCheck b).clock = s.clock := (s.startCheck_frame b).clock (by simp)
@[simp] theorem State.startCheck_clockValid (s : State) (b : BayNo) :
    (s.startCheck b).clockValid = s.clockValid := (s.startCheck_frame b).clockValid (by simp)
@[simp] theorem State.startCheck_uptime (s : State) (b : BayNo) :
    (s.startCheck b).uptime = s.uptime := (s.startCheck_frame b).uptime (by simp)
@[simp] theorem State.startCheck_site (s : State) (b : BayNo) :
    (s.startCheck b).site = s.site := (s.startCheck_frame b).site (by simp)
@[simp] theorem State.startCheck_siteValid (s : State) (b : BayNo) :
    (s.startCheck b).siteValid = s.siteValid := (s.startCheck_frame b).siteValid (by simp)
@[simp] theorem State.startCheck_roster (s : State) (b : BayNo) :
    (s.startCheck b).roster = s.roster := (s.startCheck_frame b).roster (by simp)
@[simp] theorem State.startCheck_policy (s : State) (b : BayNo) :
    (s.startCheck b).policy = s.policy := (s.startCheck_frame b).policy (by simp)
@[simp] theorem State.startCheck_orders (s : State) (b : BayNo) :
    (s.startCheck b).orders = s.orders := (s.startCheck_frame b).orders (by simp)
@[simp] theorem State.startCheck_profiles (s : State) (b : BayNo) :
    (s.startCheck b).profiles = s.profiles := (s.startCheck_frame b).profiles (by simp)
@[simp] theorem State.startCheck_queue (s : State) (b : BayNo) :
    (s.startCheck b).queue = s.queue := (s.startCheck_frame b).queue (by simp)
@[simp] theorem State.startCheck_lastResult (s : State) (b : BayNo) :
    (s.startCheck b).lastResult = s.lastResult := (s.startCheck_frame b).lastResult (by simp)
@[simp] theorem State.startCheck_notices (s : State) (b : BayNo) :
    (s.startCheck b).notices = s.notices := (s.startCheck_frame b).notices (by simp)
@[simp] theorem State.startCheck_lines (s : State) (b : BayNo) :
    (s.startCheck b).lines = s.lines := (s.startCheck_frame b).lines (by simp)
@[simp] theorem State.startCheck_exchange (s : State) (b : BayNo) :
    (s.startCheck b).exchange = s.exchange := (s.startCheck_frame b).exchange (by simp)
@[simp] theorem State.startCheck_grid (s : State) (b : BayNo) :
    (s.startCheck b).grid = s.grid := (s.startCheck_frame b).grid (by simp)
@[simp] theorem State.order_startCheck (s : State) (b : BayNo) (c : BayNo) :
    (s.startCheck b).order c = s.order c := by
  simp only [State.order, State.startCheck_orders]
@[simp] theorem State.line_startCheck (s : State) (b : BayNo) (c : BayNo) :
    (s.startCheck b).line c = s.line c := by
  simp only [State.line, State.startCheck_lines]
@[simp] theorem State.request?_startCheck (s : State) (b : BayNo) (id : Nat) :
    (s.startCheck b).request? id = s.request? id := by
  simp only [State.request?, State.startCheck_queue]
@[simp] theorem State.releaseOnEnd_startCheck (s : State) (b : BayNo) (id : Nat) :
    (s.startCheck b).releaseOnEnd id = s.releaseOnEnd id := by
  simp only [State.releaseOnEnd, State.request?_startCheck]

/-! ### dropOrder -/

@[simp] theorem State.dropOrder_pending (s : State) (b : BayNo) (k : Option EndCause) (m : Bool) :
    (s.dropOrder b k m).pending = s.pending := (s.dropOrder_frame b k m).pending (by simp)
@[simp] theorem State.dropOrder_device (s : State) (b : BayNo) (k : Option EndCause) (m : Bool) :
    (s.dropOrder b k m).device = s.device := (s.dropOrder_frame b k m).device (by simp)
@[simp] theorem State.dropOrder_clock (s : State) (b : BayNo) (k : Option EndCause) (m : Bool) :
    (s.dropOrder b k m).clock = s.clock := (s.dropOrder_frame b k m).clock (by simp)
@[simp] theorem State.dropOrder_clockValid (s : State) (b : BayNo) (k : Option EndCause) (m : Bool) :
    (s.dropOrder b k m).clockValid = s.clockValid := (s.dropOrder_frame b k m).clockValid (by simp)
@[simp] theorem State.dropOrder_uptime (s : State) (b : BayNo) (k : Option EndCause) (m : Bool) :
    (s.dropOrder b k m).uptime = s.uptime := (s.dropOrder_frame b k m).uptime (by simp)
@[simp] theorem State.dropOrder_site (s : State) (b : BayNo) (k : Option EndCause) (m : Bool) :
    (s.dropOrder b k m).site = s.site := (s.dropOrder_frame b k m).site (by simp)
@[simp] theorem State.dropOrder_siteValid (s : State) (b : BayNo) (k : Option EndCause) (m : Bool) :
    (s.dropOrder b k m).siteValid = s.siteValid := (s.dropOrder_frame b k m).siteValid (by simp)
@[simp] theorem State.dropOrder_roster (s : State) (b : BayNo) (k : Option EndCause) (m : Bool) :
    (s.dropOrder b k m).roster = s.roster := (s.dropOrder_frame b k m).roster (by simp)
@[simp] theorem State.dropOrder_bays (s : State) (b : BayNo) (k : Option EndCause) (m : Bool) :
    (s.dropOrder b k m).bays = s.bays := (s.dropOrder_frame b k m).bays (by simp)
@[simp] theorem State.dropOrder_faults (s : State) (b : BayNo) (k : Option EndCause) (m : Bool) :
    (s.dropOrder b k m).faults = s.faults := (s.dropOrder_frame b k m).faults (by simp)
@[simp] theorem State.dropOrder_policy (s : State) (b : BayNo) (k : Option EndCause) (m : Bool) :
    (s.dropOrder b k m).policy = s.policy := (s.dropOrder_frame b k m).policy (by simp)
@[simp] theorem State.dropOrder_profiles (s : State) (b : BayNo) (k : Option EndCause) (m : Bool) :
    (s.dropOrder b k m).profiles = s.profiles := (s.dropOrder_frame b k m).profiles (by simp)
@[simp] theorem State.dropOrder_queue (s : State) (b : BayNo) (k : Option EndCause) (m : Bool) :
    (s.dropOrder b k m).queue = s.queue := (s.dropOrder_frame b k m).queue (by simp)
@[simp] theorem State.dropOrder_lastResult (s : State) (b : BayNo) (k : Option EndCause) (m : Bool) :
    (s.dropOrder b k m).lastResult = s.lastResult := (s.dropOrder_frame b k m).lastResult (by simp)
@[simp] theorem State.dropOrder_lines (s : State) (b : BayNo) (k : Option EndCause) (m : Bool) :
    (s.dropOrder b k m).lines = s.lines := (s.dropOrder_frame b k m).lines (by simp)
@[simp] theorem State.dropOrder_pollQueue (s : State) (b : BayNo) (k : Option EndCause) (m : Bool) :
    (s.dropOrder b k m).pollQueue = s.pollQueue := (s.dropOrder_frame b k m).pollQueue (by simp)
@[simp] theorem State.dropOrder_exchange (s : State) (b : BayNo) (k : Option EndCause) (m : Bool) :
    (s.dropOrder b k m).exchange = s.exchange := (s.dropOrder_frame b k m).exchange (by simp)
@[simp] theorem State.dropOrder_grid (s : State) (b : BayNo) (k : Option EndCause) (m : Bool) :
    (s.dropOrder b k m).grid = s.grid := (s.dropOrder_frame b k m).grid (by simp)
@[simp] theorem State.dropOrder_fleet (s : State) (b : BayNo) (k : Option EndCause) (m : Bool) :
    (s.dropOrder b k m).fleet = s.fleet := (s.dropOrder_frame b k m).fleet (by simp)
@[simp] theorem State.dropOrder_changeSet (s : State) (b : BayNo) (k : Option EndCause) (m : Bool) :
    (s.dropOrder b k m).changeSet = s.changeSet := (s.dropOrder_frame b k m).changeSet (by simp)
@[simp] theorem State.bay_dropOrder (s : State) (b : BayNo) (k : Option EndCause) (m : Bool) (c : BayNo) :
    (s.dropOrder b k m).bay c = s.bay c := by
  simp only [State.bay, State.dropOrder_bays]
@[simp] theorem State.faultSet_dropOrder (s : State) (b : BayNo) (k : Option EndCause) (m : Bool) (c : BayNo) :
    (s.dropOrder b k m).faultSet c = s.faultSet c := by
  simp only [State.faultSet, State.dropOrder_faults]
@[simp] theorem State.line_dropOrder (s : State) (b : BayNo) (k : Option EndCause) (m : Bool) (c : BayNo) :
    (s.dropOrder b k m).line c = s.line c := by
  simp only [State.line, State.dropOrder_lines]
@[simp] theorem State.request?_dropOrder (s : State) (b : BayNo) (k : Option EndCause) (m : Bool) (id : Nat) :
    (s.dropOrder b k m).request? id = s.request? id := by
  simp only [State.request?, State.dropOrder_queue]
@[simp] theorem State.releaseOnEnd_dropOrder (s : State) (b : BayNo) (k : Option EndCause) (m : Bool) (id : Nat) :
    (s.dropOrder b k m).releaseOnEnd id = s.releaseOnEnd id := by
  simp only [State.releaseOnEnd, State.request?_dropOrder]

/-! ### abortOrder -/

@[simp] theorem State.abortOrder_pending (s : State) (b : BayNo) (k : EndCause) (m : Bool) :
    (s.abortOrder b k m).pending = s.pending := (s.abortOrder_frame b k m).pending (by simp)
@[simp] theorem State.abortOrder_device (s : State) (b : BayNo) (k : EndCause) (m : Bool) :
    (s.abortOrder b k m).device = s.device := (s.abortOrder_frame b k m).device (by simp)
@[simp] theorem State.abortOrder_clock (s : State) (b : BayNo) (k : EndCause) (m : Bool) :
    (s.abortOrder b k m).clock = s.clock := (s.abortOrder_frame b k m).clock (by simp)
@[simp] theorem State.abortOrder_clockValid (s : State) (b : BayNo) (k : EndCause) (m : Bool) :
    (s.abortOrder b k m).clockValid = s.clockValid := (s.abortOrder_frame b k m).clockValid (by simp)
@[simp] theorem State.abortOrder_uptime (s : State) (b : BayNo) (k : EndCause) (m : Bool) :
    (s.abortOrder b k m).uptime = s.uptime := (s.abortOrder_frame b k m).uptime (by simp)
@[simp] theorem State.abortOrder_site (s : State) (b : BayNo) (k : EndCause) (m : Bool) :
    (s.abortOrder b k m).site = s.site := (s.abortOrder_frame b k m).site (by simp)
@[simp] theorem State.abortOrder_siteValid (s : State) (b : BayNo) (k : EndCause) (m : Bool) :
    (s.abortOrder b k m).siteValid = s.siteValid := (s.abortOrder_frame b k m).siteValid (by simp)
@[simp] theorem State.abortOrder_roster (s : State) (b : BayNo) (k : EndCause) (m : Bool) :
    (s.abortOrder b k m).roster = s.roster := (s.abortOrder_frame b k m).roster (by simp)
@[simp] theorem State.abortOrder_bays (s : State) (b : BayNo) (k : EndCause) (m : Bool) :
    (s.abortOrder b k m).bays = s.bays := (s.abortOrder_frame b k m).bays (by simp)
@[simp] theorem State.abortOrder_faults (s : State) (b : BayNo) (k : EndCause) (m : Bool) :
    (s.abortOrder b k m).faults = s.faults := (s.abortOrder_frame b k m).faults (by simp)
@[simp] theorem State.abortOrder_policy (s : State) (b : BayNo) (k : EndCause) (m : Bool) :
    (s.abortOrder b k m).policy = s.policy := (s.abortOrder_frame b k m).policy (by simp)
@[simp] theorem State.abortOrder_profiles (s : State) (b : BayNo) (k : EndCause) (m : Bool) :
    (s.abortOrder b k m).profiles = s.profiles := (s.abortOrder_frame b k m).profiles (by simp)
@[simp] theorem State.abortOrder_queue (s : State) (b : BayNo) (k : EndCause) (m : Bool) :
    (s.abortOrder b k m).queue = s.queue := (s.abortOrder_frame b k m).queue (by simp)
@[simp] theorem State.abortOrder_lastResult (s : State) (b : BayNo) (k : EndCause) (m : Bool) :
    (s.abortOrder b k m).lastResult = s.lastResult := (s.abortOrder_frame b k m).lastResult (by simp)
@[simp] theorem State.abortOrder_lines (s : State) (b : BayNo) (k : EndCause) (m : Bool) :
    (s.abortOrder b k m).lines = s.lines := (s.abortOrder_frame b k m).lines (by simp)
@[simp] theorem State.abortOrder_exchange (s : State) (b : BayNo) (k : EndCause) (m : Bool) :
    (s.abortOrder b k m).exchange = s.exchange := (s.abortOrder_frame b k m).exchange (by simp)
@[simp] theorem State.abortOrder_grid (s : State) (b : BayNo) (k : EndCause) (m : Bool) :
    (s.abortOrder b k m).grid = s.grid := (s.abortOrder_frame b k m).grid (by simp)
@[simp] theorem State.abortOrder_fleet (s : State) (b : BayNo) (k : EndCause) (m : Bool) :
    (s.abortOrder b k m).fleet = s.fleet := (s.abortOrder_frame b k m).fleet (by simp)
@[simp] theorem State.abortOrder_changeSet (s : State) (b : BayNo) (k : EndCause) (m : Bool) :
    (s.abortOrder b k m).changeSet = s.changeSet := (s.abortOrder_frame b k m).changeSet (by simp)
@[simp] theorem State.bay_abortOrder (s : State) (b : BayNo) (k : EndCause) (m : Bool) (c : BayNo) :
    (s.abortOrder b k m).bay c = s.bay c := by
  simp only [State.bay, State.abortOrder_bays]
@[simp] theorem State.faultSet_abortOrder (s : State) (b : BayNo) (k : EndCause) (m : Bool) (c : BayNo) :
    (s.abortOrder b k m).faultSet c = s.faultSet c := by
  simp only [State.faultSet, State.abortOrder_faults]
@[simp] theorem State.line_abortOrder (s : State) (b : BayNo) (k : EndCause) (m : Bool) (c : BayNo) :
    (s.abortOrder b k m).line c = s.line c := by
  simp only [State.line, State.abortOrder_lines]
@[simp] theorem State.request?_abortOrder (s : State) (b : BayNo) (k : EndCause) (m : Bool) (id : Nat) :
    (s.abortOrder b k m).request? id = s.request? id := by
  simp only [State.request?, State.abortOrder_queue]
@[simp] theorem State.releaseOnEnd_abortOrder (s : State) (b : BayNo) (k : EndCause) (m : Bool) (id : Nat) :
    (s.abortOrder b k m).releaseOnEnd id = s.releaseOnEnd id := by
  simp only [State.releaseOnEnd, State.request?_abortOrder]

end Sys2Proof.Machine
end

