-- ==== Sys2Proof/Laws/BayOps.lean ====
section
/-! SUPPORT. What the shared operations on one bay leave at that bay, and that they leave every other bay alone. -/

namespace Sys2Proof.Machine

/-! ### Other bays -/

theorem State.otherBays_refl (s : State) (b : BayNo) : s.otherBays s b := fun _ _ => ⟨rfl, rfl, rfl⟩

theorem State.otherBays.trans {s t u : State} {b : BayNo} (h : s.otherBays t b) (h' : t.otherBays u b) :
    s.otherBays u b := fun c hc =>
  ⟨(h' c hc).1.trans (h c hc).1, (h' c hc).2.1.trans (h c hc).2.1, (h' c hc).2.2.trans (h c hc).2.2⟩

/-- An operation that writes neither bays, fault sets nor orders leaves every bay alone. -/
theorem State.sameBut.otherBays {s t : State} {ps : List Part} (h : s.sameBut t ps) (b : BayNo)
    (h1 : Part.bays ∉ ps) (h2 : Part.faults ∉ ps) (h3 : Part.orders ∉ ps) : s.otherBays t b := fun c _ =>
  ⟨by simp only [State.bay, h.bays h1], by simp only [State.faultSet, h.faults h2],
    by simp only [State.order, h.orders h3]⟩

theorem State.setBay_other (s : State) (b : BayNo) (r : BayRecord) : s.otherBays (s.setBay b r) b :=
  fun _ h => ⟨s.bay_setBay_ne r h, rfl, rfl⟩
theorem State.modBay_other (s : State) (b : BayNo) (f : BayRecord → BayRecord) : s.otherBays (s.modBay b f) b :=
  s.setBay_other b _
theorem State.setFaultSet_other (s : State) (b : BayNo) (r : FaultSet) : s.otherBays (s.setFaultSet b r) b :=
  fun _ h => ⟨rfl, s.faultSet_setFaultSet_ne r h, rfl⟩
theorem State.modFault_other (s : State) (b : BayNo) (f : FaultSet → FaultSet) : s.otherBays (s.modFault b f) b :=
  s.setFaultSet_other b _
theorem State.setOrder_other (s : State) (b : BayNo) (o : Option Order) : s.otherBays (s.setOrder b o) b :=
  fun _ h => ⟨rfl, rfl, s.order_setOrder_ne o h⟩
theorem State.markBay_other (s : State) (c b : BayNo) : s.otherBays (s.markBay c) b := fun _ _ => ⟨rfl, rfl, rfl⟩
theorem State.raiseFleet_other (s : State) (e : FleetEvent) (b : BayNo) : s.otherBays (s.raiseFleet e) b :=
  fun _ _ => ⟨rfl, rfl, rfl⟩
theorem State.hand_other (s : State) (n : Notice) (b : BayNo) : s.otherBays (s.hand n) b := fun _ _ => ⟨rfl, rfl, rfl⟩
theorem State.modVehicle_other (s : State) (n : Nat) (f : Vehicle → Vehicle) (b : BayNo) :
    s.otherBays (s.modVehicle n f) b := fun _ _ => ⟨rfl, rfl, rfl⟩
theorem State.join_other (s : State) (c b : BayNo) : s.otherBays (s.join c) b :=
  (s.join_frame c).otherBays b (by simp) (by simp) (by simp)
theorem State.setLine_other (s : State) (c b : BayNo) (r : LineRecord) : s.otherBays (s.setLine c r) b :=
  fun _ _ => ⟨rfl, rfl, rfl⟩
theorem State.handIfChanged_other (s : State) (c : BayNo) (st : BayState) (b : BayNo) :
    s.otherBays (s.handIfChanged c st) b := (s.handIfChanged_frame c st).otherBays b (by simp) (by simp) (by simp)
theorem State.recomputeCaps_other (s : State) (b : BayNo) : s.otherBays (s.recomputeCaps b) b := s.setBay_other b _

theorem State.leaveState_other (s : State) (b : BayNo) (st : BayState) : s.otherBays (s.leaveState b st) b := by
  unfold State.leaveState
  split
  · exact s.modFault_other b _
  · exact s.otherBays_refl b

theorem State.setBayState_other (s : State) (b : BayNo) (st : BayState) : s.otherBays (s.setBayState b st) b := by
  unfold State.setBayState
  split
  · exact s.otherBays_refl b
  · exact ((s.modBay_other b _).trans (State.leaveState_other _ b _)).trans (State.markBay_other _ b b)

theorem State.linkBay_other (s : State) (b : BayNo) (v : Vehicle) : s.otherBays (s.linkBay b v) b :=
  (((s.modVehicle_other _ _ b).trans (State.modBay_other _ b _)).trans (State.recomputeCaps_other _ b)).trans
    (State.markBay_other _ b b)

theorem State.clearLink_other (s : State) (b : BayNo) : s.otherBays (s.clearLink b) b := by
  unfold State.clearLink
  split
  · exact s.otherBays_refl b
  · exact (((s.modVehicle_other _ _ b).trans (State.modBay_other _ b _)).trans (State.recomputeCaps_other _ b)).trans
      (State.markBay_other _ b b)

theorem State.testLink_other (s : State) (b : BayNo) : s.otherBays (s.testLink b) b := by
  unfold State.testLink
  repeat' split
  all_goals with_reducible first
    | exact s.otherBays_refl b
    | exact s.linkBay_other b _
    | exact s.raiseFleet_other _ b

theorem State.enterParked_other (s : State) (b : BayNo) : s.otherBays (s.enterParked b) b :=
  ((s.modBay_other b _).trans (State.setBayState_other _ b _)).trans (State.testLink_other _ b)

theorem State.startRelease_other (s : State) (b : BayNo) : s.otherBays (s.startRelease b) b :=
  ((s.modBay_other b _).trans (State.modFault_other _ b _)).trans (State.join_other _ b b)

theorem State.releaseFrom_other (s : State) (b : BayNo) (st : BayState) : s.otherBays (s.releaseFrom b st) b := by
  unfold State.releaseFrom
  split
  · exact s.startRelease_other b
  · exact s.otherBays_refl b

theorem State.endRelease_other (s : State) (b : BayNo) : s.otherBays (s.endRelease b) b :=
  (s.modBay_other b _).trans (State.modFault_other _ b _)

theorem State.stopTimers_other (s : State) (b : BayNo) : s.otherBays (s.stopTimers b) b := s.modBay_other b _

theorem State.release_other (s : State) (b : BayNo) : s.otherBays (s.release b) b :=
  ((s.stopTimers_other b).trans (State.setBayState_other _ b _)).trans (State.startRelease_other _ b)

theorem State.startCheck_other (s : State) (b : BayNo) : s.otherBays (s.startCheck b) b :=
  ((s.modBay_other b _).trans (State.setBayState_other _ b _)).trans (State.join_other _ b b)

theorem State.dropOrder_other (s : State) (b : BayNo) (k : Option EndCause) (m : Bool) :
    s.otherBays (s.dropOrder b k m) b := by
  unfold State.dropOrder
  split
  · exact s.otherBays_refl b
  · exact (s.setOrder_other b _).trans (State.hand_other _ _ b)

theorem State.afterOrderEnd_other (s : State) (b : BayNo) (o : Order) : s.otherBays (s.afterOrderEnd b o) b := by
  unfold State.afterOrderEnd
  repeat' split
  all_goals with_reducible first
    | exact s.release_other b
    | exact s.startCheck_other b
    | exact s.setBayState_other b _

theorem State.finishOrder_other (s : State) (b : BayNo) (o : Order) : s.otherBays (s.finishOrder b o) b :=
  ((s.dropOrder_other b _ _).trans (State.join_other _ b b)).trans (State.afterOrderEnd_other _ b o)

theorem State.abortOrder_other (s : State) (b : BayNo) (k : EndCause) (m : Bool) :
    s.otherBays (s.abortOrder b k m) b := by
  unfold State.abortOrder
  split
  · exact s.otherBays_refl b
  · exact (s.dropOrder_other b _ _).trans (State.join_other _ b b)

theorem State.afterRemoval_other (s : State) (b : BayNo) (o : Order) : s.otherBays (s.afterRemoval b o) b := by
  unfold State.afterRemoval
  repeat' split
  all_goals with_reducible first
    | exact s.release_other b
    | exact s.otherBays_refl b

theorem State.endFor_other (s : State) (b : BayNo) (o : Order) (k : EndCause) : s.otherBays (s.endFor b o k) b := by
  unfold State.endFor
  split
  · exact (s.abortOrder_other b k false).trans (State.afterRemoval_other _ b o)
  · exact s.setOrder_other b _

theorem State.declineBay_other (s : State) (b : BayNo) (k : EndCause) : s.otherBays (s.declineBay b k) b := by
  unfold State.declineBay
  repeat' split
  all_goals with_reducible first
    | exact s.otherBays_refl b
    | exact s.setOrder_other b _

theorem State.releaseFor_other (s : State) (b : BayNo) (k : EndCause) : s.otherBays (s.releaseFor b k) b := by
  unfold State.releaseFor
  split
  all_goals first
    | with_reducible exact s.otherBays_refl b
    | with_reducible exact s.declineBay_other b k
    | exact (s.abortOrder_other b k false).trans (State.release_other _ b)

theorem State.putOrder_other (s : State) (b : BayNo) (o : Order) : s.otherBays (s.putOrder b o) b :=
  (s.setOrder_other b _).trans (State.join_other _ b b)

theorem State.issueStep_other (s : State) (b : BayNo) (o : Order) (ps : Nat) : s.otherBays (s.issueStep b o ps) b := by
  unfold State.issueStep
  split
  · exact (s.putOrder_other b o).trans (State.finishOrder_other _ b o)
  · exact s.putOrder_other b o

theorem State.stepOrder_other (s : State) (b : BayNo) (o : Order) : s.otherBays (s.stepOrder b o) b := by
  unfold State.stepOrder
  split
  · exact s.finishOrder_other b _
  · exact s.issueStep_other b _ _

theorem State.firstStep_other (s : State) (b : BayNo) (o : Order) : s.otherBays (s.firstStep b o) b :=
  ((s.setOrder_other b _).trans (State.setBayState_other _ b _)).trans (State.join_other _ b b)

theorem State.createOrder_other (s : State) (id : Nat) (b : BayNo) (m q : Nat) :
    s.otherBays (s.createOrder id b m q) b := by
  unfold State.createOrder
  dsimp only
  repeat' split
  all_goals first
    | with_reducible exact s.otherBays_refl b
    | with_reducible exact s.setOrder_other b _
    | with_reducible exact s.firstStep_other b _
    | exact (((s.setOrder_other b _).trans (State.modBay_other _ b _)).trans (State.setBayState_other _ b _)).trans
        (State.join_other _ b b)

theorem State.takeOut_other (s : State) (b : BayNo) : s.otherBays (s.takeOut b) b :=
  ((s.modFault_other b _).trans (State.setBayState_other _ b _)).trans (State.raiseFleet_other _ _ b)

theorem State.outAtThird_other (s : State) (b : BayNo) : s.otherBays (s.outAtThird b) b := by
  unfold State.outAtThird
  split
  · exact s.takeOut_other b
  · exact s.otherBays_refl b

theorem State.countEntry_other (s : State) (b : BayNo) (ks : List FaultKind) : s.otherBays (s.countEntry b ks) b := by
  unfold State.countEntry
  split
  · exact (s.modFault_other b _).trans (State.outAtThird_other _ b)
  · exact s.otherBays_refl b

theorem State.enterFault_other (s : State) (b : BayNo) (k : FaultKind) (ks : List FaultKind) :
    s.otherBays (s.enterFault b k ks) b :=
  (((((((s.modFault_other b _).trans (State.abortOrder_other _ b _ _)).trans (State.stopTimers_other _ b)).trans
    (State.setBayState_other _ b _)).trans (State.releaseFrom_other _ b _)).trans (State.modFault_other _ b _)).trans
      (State.raiseFleet_other _ _ b)).trans (State.countEntry_other _ b _)

theorem State.faultInFault_other (s : State) (b : BayNo) (ks : List FaultKind) :
    s.otherBays (s.faultInFault b ks) b := by
  unfold State.faultInFault
  dsimp only
  split
  · exact (s.setFaultSet_other b _).trans (State.raiseFleet_other _ _ b)
  · exact s.otherBays_refl b

theorem State.faultInOut_other (s : State) (b : BayNo) (k : FaultKind) (ks : List FaultKind) :
    s.otherBays (s.faultInOut b k ks) b := by
  unfold State.faultInOut
  dsimp only
  repeat' split
  all_goals first
    | with_reducible exact s.otherBays_refl b
    | exact (s.setFaultSet_other b _).trans (State.raiseFleet_other _ _ b)

theorem State.takeFault_other (s : State) (b : BayNo) (k : FaultKind) (ks : List FaultKind) :
    s.otherBays (s.takeFault b k ks) b := by
  unfold State.takeFault
  split
  all_goals with_reducible first
    | exact s.otherBays_refl b
    | exact s.enterFault_other b k ks
    | exact s.faultInFault_other b _
    | exact s.faultInOut_other b k ks

theorem State.reportFault_other (s : State) (b : BayNo) (k : FaultKind) : s.otherBays (s.reportFault b k) b :=
  (s.takeFault_other b k []).trans (State.handIfChanged_other _ b _ b)

theorem State.tryExit_other (s : State) (b : BayNo) : s.otherBays (s.tryExit b) b := by
  unfold State.tryExit
  dsimp only
  split
  · exact (s.setFaultSet_other b _).trans (State.enterParked_other _ b)
  · exact s.otherBays_refl b

theorem State.unplug_other (s : State) (b : BayNo) : s.otherBays (s.unplug b) b :=
  (((((s.dropOrder_other b _ _).trans (State.clearLink_other _ b)).trans (State.stopTimers_other _ b)).trans
    (State.modBay_other _ b _)).trans (State.modFault_other _ b _)).trans (State.setBayState_other _ b _)

theorem State.detect_other (s : State) (b : BayNo) : s.otherBays (s.detect b) b :=
  (s.setBayState_other b _).trans (State.modBay_other _ b _)

/-! ### What is left at the bay -/

/-- A bay after a change of state. -/
theorem State.bay_setBayState (s : State) (b : BayNo) (st : BayState) :
    (s.setBayState b st).bay b = if (s.bay b).state = st then s.bay b else (s.bay b).toState st := by
  unfold State.setBayState
  split <;> simp

/-- A bay's fault set after a change of state: leaving TRANSFER clears the tracking count. -/
theorem State.faultSet_setBayState (s : State) (b : BayNo) (st : BayState) :
    (s.setBayState b st).faultSet b
      = if (s.bay b).state = .transfer ∧ st ≠ .transfer then { s.faultSet b with tracking := 0 }
        else s.faultSet b := by
  unfold State.setBayState State.leaveState
  by_cases h : (s.bay b).state = st
  · subst h
    rw [if_pos rfl, if_neg (fun hh => hh.2 hh.1)]
  · by_cases h' : (s.bay b).state = .transfer
    · have hs : st ≠ .transfer := fun e => h (h'.trans e.symm)
      simp [h', hs, hs.symm]
    · simp [h, h']

/-- The change set after a change of state. -/
theorem State.changeSet_setBayState (s : State) (b : BayNo) (st : BayState) (h : (s.bay b).state ≠ st) :
    (s.setBayState b st).changeSet = s.changeSet ||| BitVec.twoPow 16 b.val := by
  simp [State.setBayState, h]

/-- The fleet port after a change of state. -/
theorem State.fleet_setBayState (s : State) (b : BayNo) (st : BayState) (h : (s.bay b).state ≠ st) :
    (s.setBayState b st).fleet = { s.fleet with flags := s.fleet.flags ||| fleetBit .bayChange } := by
  simp [State.setBayState, h]

/-- A bay's record with a release pending started. -/
@[simp] theorem State.bay_startRelease (s : State) (b : BayNo) :
    (s.startRelease b).bay b = { s.bay b with releasePending := true, releaseTimer := some releaseTime } := by
  simp [State.startRelease]

@[simp] theorem State.faultSet_startRelease (s : State) (b : BayNo) :
    (s.startRelease b).faultSet b = { s.faultSet b with releaseTimedOut := false } := by
  simp [State.startRelease]

theorem State.mem_join (s : State) (b : BayNo) : b ∈ (s.join b).pollQueue := by
  rw [State.join_pollQueue]; split <;> simp_all

theorem State.mem_startRelease (s : State) (b : BayNo) : b ∈ (s.startRelease b).pollQueue := State.mem_join _ b

@[simp] theorem State.bay_stopTimers (s : State) (b : BayNo) :
    (s.stopTimers b).bay b = { s.bay b with stateTimer := none, settleTimer := none, checkDue := false } := by
  simp [State.stopTimers]

/-- A released bay (R29). -/
theorem State.bayReleased_release (s : State) (b : BayNo) (h : (s.bay b).state ≠ .releasing) :
    s.bayReleased (s.release b) b := by
  refine ⟨?_, ?_, State.mem_startRelease _ b, ?_⟩
  · simp [State.release, State.bay_setBayState, h, BayRecord.toState, releaseTime]
  · simp [State.release]
  · simp only [State.release, State.startRelease_changeSet]
    rw [State.changeSet_setBayState _ _ _ (by simpa using h)]
    simp

theorem State.fleet_release (s : State) (b : BayNo) (h : (s.bay b).state ≠ .releasing) :
    (s.release b).fleet = { s.fleet with flags := s.fleet.flags ||| fleetBit .bayChange } := by
  simp only [State.release, State.startRelease_fleet]
  rw [State.fleet_setBayState _ _ _ (by simpa using h)]
  simp

theorem State.faultSet_release (s : State) (b : BayNo) :
    (s.release b).faultSet b = { s.faultSet b with
      releaseTimedOut := false
      tracking := if (s.bay b).state = .transfer then 0 else (s.faultSet b).tracking } := by
  simp only [State.release, State.faultSet_startRelease, State.faultSet_setBayState]
  by_cases h : (s.bay b).state = .transfer <;> simp [h]

/-- A bay that has started its isolation check (R32). -/
theorem State.bay_startCheck (s : State) (b : BayNo) (h : (s.bay b).state ≠ .checking) :
    (s.startCheck b).bay b = { s.bay b with
      state := .checking, candidate := none, checkDue := false, stateTimer := some checkTime } := by
  simp [State.startCheck, State.bay_setBayState, h, BayRecord.toState]

theorem State.mem_startCheck (s : State) (b : BayNo) : b ∈ (s.startCheck b).pollQueue := State.mem_join _ b

theorem State.changeSet_startCheck (s : State) (b : BayNo) (h : (s.bay b).state ≠ .checking) :
    (s.startCheck b).changeSet = s.changeSet ||| BitVec.twoPow 16 b.val := by
  simp only [State.startCheck, State.join_changeSet]
  rw [State.changeSet_setBayState _ _ _ (by simpa using h)]
  simp

theorem State.fleet_startCheck (s : State) (b : BayNo) (h : (s.bay b).state ≠ .checking) :
    (s.startCheck b).fleet = { s.fleet with flags := s.fleet.flags ||| fleetBit .bayChange } := by
  simp only [State.startCheck, State.join_fleet]
  rw [State.fleet_setBayState _ _ _ (by simpa using h)]
  simp

theorem State.faultSet_startCheck (s : State) (b : BayNo) :
    (s.startCheck b).faultSet b = { s.faultSet b with
      tracking := if (s.bay b).state = .transfer then 0 else (s.faultSet b).tracking } := by
  simp only [State.startCheck, State.faultSet_join, State.faultSet_setBayState]
  by_cases h : (s.bay b).state = .transfer <;> simp [h]

/-! ### The end of an order -/

@[simp] theorem State.order_dropOrder (s : State) (b : BayNo) (k : Option EndCause) (m : Bool) :
    (s.dropOrder b k m).order b = none := by
  unfold State.dropOrder
  split <;> simp_all

theorem State.notices_dropOrder (s : State) (b : BayNo) (k : Option EndCause) (m : Bool) (o : Order)
    (h : s.order b = some o) :
    (s.dropOrder b k m).notices = s.notices ++ [.orderEnd o.request b k o.delivered m] := by
  simp [State.dropOrder, h]

theorem State.dropOrder_none (s : State) (b : BayNo) (k : Option EndCause) (m : Bool) (h : s.order b = none) :
    s.dropOrder b k m = s := by
  simp [State.dropOrder, h]

@[simp] theorem State.order_abortOrder (s : State) (b : BayNo) (k : EndCause) (m : Bool) :
    (s.abortOrder b k m).order b = none := by
  unfold State.abortOrder
  split <;> simp_all

theorem State.notices_abortOrder (s : State) (b : BayNo) (k : EndCause) (m : Bool) (o : Order)
    (h : s.order b = some o) :
    (s.abortOrder b k m).notices = s.notices ++ [.orderEnd o.request b (some k) o.delivered m] := by
  simp [State.abortOrder, h, State.notices_dropOrder _ _ _ _ _ h]

theorem State.abortOrder_none (s : State) (b : BayNo) (k : EndCause) (m : Bool) (h : s.order b = none) :
    s.abortOrder b k m = s := by
  simp [State.abortOrder, h]

/-! ### Commands -/

/-- A command handed by its port runs, and its reply waits at the port. -/
theorem carryOut_of_handed {s : State} {p : Port} {c : Instr} (run : State → CmdResult) (h : s.handed p c) :
    carryOut p c run s = match run s with
      | .error r => .next (s.answer p [r.code])
      | .ok (t, data) => .next (t.answer p (0 :: data)) := by
  unfold carryOut
  exact if_pos h

theorem carryOut_ok {s t : State} {p : Port} {c : Instr} {run : State → CmdResult} {data : List Byte}
    (h : s.handed p c) (hr : run s = .ok (t, data)) : carryOut p c run s = .next (t.answer p (0 :: data)) := by
  rw [carryOut_of_handed run h, hr]

theorem carryOut_error {s : State} {p : Port} {c : Instr} {run : State → CmdResult} {r : ResultCode}
    (h : s.handed p c) (hr : run s = .error r) : carryOut p c run s = .next (s.answer p [r.code]) := by
  rw [carryOut_of_handed run h, hr]

end Sys2Proof.Machine
end

