-- ==== Sys2Proof/Laws/Codec.lean ====
section
/-! SUPPORT. Fields of frames: reading back what was written, and the lengths of what is written. -/

namespace Sys2Proof

@[simp] theorem length_le1 (n : Nat) : (le1 n).length = 1 := rfl
@[simp] theorem length_le2 (n : Nat) : (le2 n).length = 2 := rfl
@[simp] theorem length_le3 (n : Nat) : (le3 n).length = 3 := rfl
@[simp] theorem length_le4 (n : Nat) : (le4 n).length = 4 := rfl

@[simp] theorem byteAt_zero (x : Byte) (f : List Byte) : byteAt (x :: f) 0 = x := rfl
@[simp] theorem byteAt_succ (x : Byte) (f : List Byte) (i : Nat) : byteAt (x :: f) (i + 1) = byteAt f i := rfl
@[simp] theorem byteAt_nil (i : Nat) : byteAt [] i = 0 := by cases i <;> rfl

/-- A byte behind a front part is the rest's byte. -/
theorem byteAt_append (f g : List Byte) (i : Nat) (h : f.length ≤ i) : byteAt (f ++ g) i = byteAt g (i - f.length) := by
  simp [byteAt, List.getD_eq_getElem?_getD, List.getElem?_append_right h]

/-- The word of two bytes at an offset is the number written there. -/
theorem wordAt_le2 (w : BitVec 16) (f : List Byte) : wordAt (le2 w.toNat ++ f) 0 = w := by
  apply BitVec.eq_of_toNat_eq
  have := w.isLt
  simp [wordAt, le2, BitVec.toNat_ofNat]
  omega

/-- The three-byte field at an offset is the number written there. -/
theorem tripleAt_le3 (w : BitVec 24) (f : List Byte) : tripleAt (le3 w.toNat ++ f) 0 = w := by
  apply BitVec.eq_of_toNat_eq
  have := w.isLt
  simp [tripleAt, le3, BitVec.toNat_ofNat]
  omega

@[simp] theorem wordAt_succ (x : Byte) (f : List Byte) (i : Nat) : wordAt (x :: f) (i + 1) = wordAt f i := rfl
@[simp] theorem tripleAt_succ (x : Byte) (f : List Byte) (i : Nat) : tripleAt (x :: f) (i + 1) = tripleAt f i := rfl

/-- The bytes of a word are those read at its place. -/
theorem le2_wordAt (x y : Byte) (f : List Byte) : le2 (wordAt (x :: y :: f) 0).toNat = [x, y] := by
  have hx := x.isLt
  have hy := y.isLt
  have h : (wordAt (x :: y :: f) 0).toNat = x.toNat + 256 * y.toNat := by
    simp [wordAt, BitVec.toNat_ofNat]
    omega
  rw [h]
  simp only [le2, List.cons.injEq, and_true]
  constructor <;> apply BitVec.eq_of_toNat_eq <;> simp only [BitVec.toNat_ofNat] <;> omega

/-- The bytes of a three-byte field are those read at its place. -/
theorem le3_tripleAt (x y z : Byte) (f : List Byte) : le3 (tripleAt (x :: y :: z :: f) 0).toNat = [x, y, z] := by
  have hx := x.isLt
  have hy := y.isLt
  have hz := z.isLt
  have h : (tripleAt (x :: y :: z :: f) 0).toNat = x.toNat + 256 * y.toNat + 65536 * z.toNat := by
    simp [tripleAt, BitVec.toNat_ofNat]
    omega
  rw [h]
  simp only [le3, List.cons.injEq, and_true]
  refine ⟨?_, ?_, ?_⟩ <;> apply BitVec.eq_of_toNat_eq <;> simp only [BitVec.toNat_ofNat] <;> omega

/-- Band entries take four bytes each. -/
theorem length_bandBytes (bands : List (BitVec 16 × BitVec 16)) : (bandBytes bands).length = 4 * bands.length := by
  induction bands with
  | nil => rfl
  | cons b rest ih =>
    simp [bandBytes, ih]
    omega

/-- Shifting the front byte out of a frame shifts the band entries. -/
@[simp] theorem bandsAt_succ (x : Byte) (f : List Byte) (n i : Nat) : bandsAt (x :: f) (i + 1) n = bandsAt f i n := by
  induction n generalizing i with
  | zero => rfl
  | succ n ih => simp only [bandsAt, wordAt_succ, show i + 1 + 2 = (i + 2) + 1 by omega, show i + 1 + 4 = (i + 4) + 1 by omega, ih]

/-- The band entries that were written are read back. -/
theorem bandsAt_bandBytes (bands : List (BitVec 16 × BitVec 16)) : bandsAt (bandBytes bands) 0 bands.length = bands := by
  induction bands with
  | nil => rfl
  | cons b rest ih =>
    have h1 := wordAt_le2 b.1 (le2 b.2.toNat ++ bandBytes rest)
    have h2 := wordAt_le2 b.2 (bandBytes rest)
    simp only [bandBytes, List.append_assoc, List.length_cons, bandsAt, Nat.zero_add]
    rw [h1]
    have e : le2 b.1.toNat ++ (le2 b.2.toNat ++ bandBytes rest)
        = BitVec.ofNat 8 b.1.toNat :: BitVec.ofNat 8 (b.1.toNat / 256) :: (le2 b.2.toNat ++ bandBytes rest) := rfl
    have e' : le2 b.2.toNat ++ bandBytes rest
        = BitVec.ofNat 8 b.2.toNat :: BitVec.ofNat 8 (b.2.toNat / 256) :: bandBytes rest := rfl
    rw [e'] at h2
    rw [e, e']
    simp only [wordAt_succ, h2, bandsAt_succ, ih]

end Sys2Proof
end

