-- ==== Sys2Proof/Laws/Folds.lean ====
section
/-! SUPPORT. Operations taken bay by bay: each bay is changed by its own turn alone. -/

namespace Sys2Proof.Machine

/-- Two states agree on a bay's record, fault set and order slot. -/
def State.sameAt (s t : State) (b : BayNo) : Prop :=
  t.bay b = s.bay b ∧ t.faultSet b = s.faultSet b ∧ t.order b = s.order b

theorem State.sameAt_refl (s : State) (b : BayNo) : s.sameAt s b := ⟨rfl, rfl, rfl⟩

theorem State.sameAt.trans {s t u : State} {b : BayNo} (h : s.sameAt t b) (h' : t.sameAt u b) : s.sameAt u b :=
  ⟨h'.1.trans h.1, h'.2.1.trans h.2.1, h'.2.2.trans h.2.2⟩

theorem State.otherBays.sameAt {s t : State} {b c : BayNo} (h : s.otherBays t b) (hc : c ≠ b) : s.sameAt t c := h c hc

/-- A bay whose turn does not come keeps its record, fault set and order. -/
theorem foldl_not_mem {f : State → BayNo → State} (hf : ∀ (s : State) (b : BayNo), s.otherBays (f s b) b) {l : List BayNo} {b : BayNo}
    (h : b ∉ l) (s : State) : s.sameAt (l.foldl f s) b := by
  induction l generalizing s with
  | nil => exact s.sameAt_refl b
  | cons c rest ih =>
    have hb : b ≠ c := fun e => h (e ▸ List.mem_cons_self)
    exact ((hf s c).sameAt hb).trans (ih (fun m => h (List.mem_cons_of_mem _ m)) (f s c))

/-- A bay whose turn comes once ends as its turn left it, taken in a state that had the bay as the first state has it. -/
theorem foldl_mem {f : State → BayNo → State} (hf : ∀ (s : State) (b : BayNo), s.otherBays (f s b) b) {l : List BayNo} (hl : l.Nodup)
    {b : BayNo} (h : b ∈ l) (s : State) : ∃ m, s.sameAt m b ∧ (f m b).sameAt (l.foldl f s) b := by
  induction l generalizing s with
  | nil => simp at h
  | cons c rest ih =>
    obtain ⟨hc, hr⟩ := List.nodup_cons.1 hl
    by_cases e : b = c
    · subst e
      exact ⟨s, s.sameAt_refl b, foldl_not_mem hf hc (f s b)⟩
    · rcases List.mem_cons.1 h with h | h
      · exact absurd h e
      · obtain ⟨m, hm, ht⟩ := ih hr h (f s c)
        exact ⟨m, ((hf s c).sameAt e).trans hm, ht⟩

theorem nodup_allBays : allBays.Nodup := by decide

/-- `foldl_mem` over the sixteen bays. -/
theorem foldl_allBays {f : State → BayNo → State} (hf : ∀ (s : State) (b : BayNo), s.otherBays (f s b) b) (b : BayNo) (s : State) :
    ∃ m, s.sameAt m b ∧ (f m b).sameAt (allBays.foldl f s) b := foldl_mem hf nodup_allBays (mem_allBays b) s

/-- A part that every turn keeps is kept, up to the turn of each bay too. -/
theorem foldl_mem_sameBut {f : State → BayNo → State} (hf : ∀ (s : State) (b : BayNo), s.otherBays (f s b) b) {ps : List Part}
    (hp : ∀ (s : State) (b : BayNo), s.sameBut (f s b) ps) {l : List BayNo} (hl : l.Nodup) {b : BayNo} (h : b ∈ l) (s : State) :
    ∃ m, s.sameAt m b ∧ s.sameBut m ps ∧ (f m b).sameAt (l.foldl f s) b := by
  induction l generalizing s with
  | nil => simp at h
  | cons c rest ih =>
    obtain ⟨hc, hr⟩ := List.nodup_cons.1 hl
    by_cases e : b = c
    · subst e
      exact ⟨s, s.sameAt_refl b, s.sameBut_refl ps, foldl_not_mem hf hc (f s b)⟩
    · rcases List.mem_cons.1 h with h | h
      · exact absurd h e
      · obtain ⟨m, hm, hs, ht⟩ := ih hr h (f s c)
        exact ⟨m, ((hf s c).sameAt e).trans hm, (hp s c).trans hs, ht⟩

end Sys2Proof.Machine
end

