-- ==== Sys2Proof/Laws/Link.lean ====
section
/-! SUPPORT. What BL_TX carries, how often the part polls a bay, and when it reports a lost link. -/

namespace Sys2Proof.Machine

/-! ### BL_TX (R129, R179) -/

/-- A byte's ten bit times, in order. -/
theorem lineBits_eq (b : Byte) : lineBits b =
    [.start, .data (b.getLsbD 0), .data (b.getLsbD 1), .data (b.getLsbD 2), .data (b.getLsbD 3), .data (b.getLsbD 4),
      .data (b.getLsbD 5), .data (b.getLsbD 6), .data (b.getLsbD 7), .stop] := rfl

@[simp] theorem length_lineBits (b : Byte) : (lineBits b).length = 10 := rfl

@[simp] theorem Exchange.length_bitsOut (x : Exchange) : x.bitsOut.length = 10 * x.frame.length := by
  simp [Exchange.bitsOut, List.length_flatMap, Nat.mul_comm]

/-- The bit of a poll at a bit time of one of its bytes. -/
theorem Exchange.getElem?_bitsOut (x : Exchange) (place : Nat) {k : Nat} (hk : k < 10) :
    x.bitsOut[10 * place + k]? = x.frame[place]?.bind fun b => (lineBits b)[k]? := by
  unfold Exchange.bitsOut
  induction x.frame generalizing place with
  | nil => simp
  | cons b l ih =>
    rw [List.flatMap_cons]
    match place with
    | 0 => rw [List.getElem?_append_left (by simpa using hk)]; simp
    | n + 1 =>
      rw [List.getElem?_append_right (by simp; omega), length_lineBits,
        show 10 * (n + 1) + k - 10 = 10 * n + k by omega, ih]
      simp

/-- BL_TX carries nothing while BL_DE is low. -/
theorem State.blTx_of_not_driving {s : State} (h : s.driving = false) (time : Nat) : s.blTx time = none := by
  unfold State.driving at h
  unfold State.blTx
  split <;> simp_all

/-- While BL_DE is high BL_TX carries the bits of the poll. -/
theorem State.blTx_of_sending {s : State} {x : Exchange} (h : s.exchange = some x) (hx : x.listening = false)
    (time : Nat) : s.blTx time = x.bitsOut[time]? := by
  simp [State.blTx, h, hx]

/-! ### Polls and misses (R135, R141, R145) -/

theorem BayRecord.period_transfer {r : BayRecord} (h : r.state = .transfer) : r.period = 1 := by
  simp [BayRecord.period, h]

theorem BayRecord.period_le (r : BayRecord) : r.period ≤ 30 := by
  unfold BayRecord.period
  split <;> (try split) <;> decide

/-- The third miss in a row is reported as LINK_LOST. -/
theorem State.miss_third {s : State} {b : BayNo} (h : (s.line b).miss = 2) :
    s.miss b = (s.countMiss b).reportFault b .linkLost := by
  simp [State.miss, h]

end Sys2Proof.Machine
end

