-- ==== Sys2Proof/Laws/Ports.lean ====
section
/-! SUPPORT. What a port shifts out on MISO, and the fields that the operations of a port leave alone. -/

namespace Sys2Proof.Machine

/-! ### MISO (R159, R176) -/

@[simp] theorem PortState.misoPin_high {x : PortState} (h : x.transaction = none) (clock : Nat) :
    x.misoPin clock = none := by
  simp [PortState.misoPin, h]

@[simp] theorem PortState.misoPin_low {x : PortState} {tr : Transaction} (h : x.transaction = some tr) (clock : Nat) :
    x.misoPin clock = some (tr.snapshot.bitOut clock) := by
  simp [PortState.misoPin, h]

@[simp] theorem Snapshot.byteOut_zero (t : Snapshot) : t.byteOut 0 = t.status := rfl

@[simp] theorem Snapshot.byteOut_one (t : Snapshot) : t.byteOut 1 = BitVec.ofNat 8 t.reply.length := rfl

@[simp] theorem Snapshot.byteOut_reply (t : Snapshot) (k : Nat) : t.byteOut (k + 2) = byteAt t.reply k := rfl

@[simp] theorem length_shiftOut (t : Snapshot) (clocks : Nat) : (shiftOut t clocks).length = clocks := by
  simp [shiftOut]

/-- The bits of a list of bytes, by their places. -/
theorem getElem?_flatMap_bitsOf (l : List Byte) (k : Nat) :
    (l.flatMap bitsOf)[k]? = (l[k / 8]?).map fun b => b.getLsbD (7 - k % 8) := by
  induction l generalizing k with
  | nil => simp
  | cons b l ih =>
    rw [List.flatMap_cons]
    by_cases hk : k < 8
    · rw [List.getElem?_append_left (by simpa [bitsOf] using hk), Nat.div_eq_of_lt hk]
      interval_cases k <;> rfl
    · obtain ⟨m, rfl⟩ : ∃ m, k = m + 8 := ⟨k - 8, by omega⟩
      rw [List.getElem?_append_right (by simp [bitsOf])]
      simp [bitsOf, ih, Nat.add_div_right]

/-- The bytes of a snapshot and zeros, by their places. -/
theorem Snapshot.getElem?_bytes (t : Snapshot) {n k : Nat} (h : k < n + 2) :
    (t.bytes n)[k]? = some (t.byteOut k) := by
  match k with
  | 0 => rfl
  | 1 => rfl
  | k + 2 =>
    simp only [Snapshot.bytes, List.cons_append, List.getElem?_cons_succ, Snapshot.byteOut_reply, byteAt,
      List.getD_eq_getElem?_getD]
    by_cases hk : k < t.reply.length
    · simp [List.getElem?_append_left hk, hk]
    · rw [List.getElem?_append_right (by omega), List.getElem?_replicate, if_pos (by omega)]
      simp [List.getElem?_eq_none (by omega : t.reply.length ≤ k)]

/-- What a transaction shifts out, byte after byte: the bits of the snapshot's bytes and of the zeros behind them. -/
theorem shiftOut_eq (t : Snapshot) {clocks n : Nat} (h : clocks ≤ 8 * (n + 2)) :
    shiftOut t clocks = ((t.bytes n).flatMap bitsOf).take clocks := by
  refine List.ext_getElem? fun k => ?_
  by_cases hk : k < clocks
  · rw [List.getElem?_take_of_lt hk, getElem?_flatMap_bitsOf, t.getElem?_bytes (by omega)]
    simp [shiftOut, hk, Snapshot.bitOut]
  · simp [shiftOut, not_lt.mp hk]

/-! ### A port at CS's rise (R160) -/

@[simp] theorem PortState.collect_reply (x : PortState) (t : Transaction) (l : List Byte) (n : Nat) :
    (x.collect t l n).reply = x.reply := rfl
@[simp] theorem PortState.collect_progress (x : PortState) (t : Transaction) (l : List Byte) (n : Nat) :
    (x.collect t l n).progress = x.progress := rfl
@[simp] theorem PortState.collect_transaction (x : PortState) (t : Transaction) (l : List Byte) (n : Nat) :
    (x.collect t l n).transaction = none := rfl
@[simp] theorem PortState.collect_flags (x : PortState) (t : Transaction) (l : List Byte) (n : Nat) :
    (x.collect t l n).flags = x.flags := rfl
@[simp] theorem PortState.collect_mask (x : PortState) (t : Transaction) (l : List Byte) (n : Nat) :
    (x.collect t l n).mask = x.mask := rfl

/-- A frame that is not handled leaves the port as a transaction without a command leaves it (R160, R161). -/
theorem PortState.collect_emptied (x : PortState) (t : Transaction) (l : List Byte) (n : Nat) :
    (x.collect t l n).emptied = x.untaken t l n := by
  simp only [PortState.collect, PortState.emptied, PortState.untaken]
  rw [shiftOut_eq t.snapshot (n := l.length + n) (by omega)]

end Sys2Proof.Machine
end

