-- ==== Sys2Proof/Laws/RequestFrames.lean ====
section
/-! SUPPORT. The frames of the operations of the Request Queue and of the device state: the parts of the state each can
write, said once. -/

namespace Sys2Proof.Machine

/-- The parts a request leaving the queue writes. -/
abbrev leaveParts : List Part := [.queue, .notices, .lastResult, .gridFlags]
/-- The parts a re-split writes. -/
abbrev resplitParts : List Part := .queue :: orderEndParts
/-- The parts an event of the Request Queue may write at most. -/
abbrev requestEventParts : List Part :=
  [.bays, .faults, .fleetFlags, .changeSet, .pollQueue, .orders, .notices, .queue, .lastResult, .gridFlags]

theorem State.leave_frame (s : State) (id : Nat) : s.sameBut (s.leave id) leaveParts := by
  unfold State.leave
  split
  · split
    · refine State.sameBut.trans (t := State.dropRequest _ id) (State.sameBut.trans (t := { s with lastResult := _ })
        ?_ ((State.dropRequest_frame _ id).mono (by simp))) ((State.raiseGrid_frame _ _).mono (by simp))
      intro p hp
      cases p <;> first | rfl | simp at hp
    · exact s.sameBut_refl _
    · exact s.sameBut_refl _
  · exact s.sameBut_refl _

theorem State.leaveIfDone_frame (s : State) (id : Nat) : s.sameBut (s.leaveIfDone id) leaveParts := by
  unfold State.leaveIfDone
  split
  · exact s.leave_frame id
  · exact s.sameBut_refl _

/-- A request that becomes ENDING writes its record, its orders and, where it leaves, the last result (R73, R75). -/
theorem State.endRequest_frame (s : State) (id : Nat) (c : RequestCause) (o : EndCause) :
    s.sameBut (s.endRequest id c o) requestEventParts :=
  (((s.modRequest_frame id _).mono (by simp)).then (State.endAllFor_frame _ _ _) (by simp)).then
    (State.leaveIfDone_frame _ _) (by simp)

theorem State.applyResplit_frame (s : State) (id m : Nat) (a : Allocation) (g : Bool) :
    s.sameBut (s.applyResplit id m a g) resplitParts :=
  ((s.modRequest_frame id _).mono (by simp)).then (State.alignOrders_frame _ _ _ _) (by simp)

theorem State.resplitWith_frame (s : State) (r : Request) (m p : Nat) (g : Bool) :
    s.sameBut (s.resplitWith r m p g) resplitParts := s.applyResplit_frame _ _ _ _

/-- A re-split writes its request and that request's orders, and no vehicle, result or grid event (R83, R87). -/
theorem State.resplit_frame (s : State) : s.sameBut s.resplit resplitParts := by
  unfold State.resplit
  split
  · split
    · exact s.resplitWith_frame _ _ _ _
    · exact s.sameBut_refl _
    · exact s.sameBut_refl _
  · exact s.sameBut_refl _

theorem State.applyReview_frame (s : State) (id m : Nat) (a : Allocation) :
    s.sameBut (s.applyReview id m a) [.queue, .gridFlags] :=
  ((s.modRequest_frame id _).mono (by simp)).then (State.noteReduced_frame _ _ _) (by simp)

theorem State.review_frame (s : State) (id : Nat) : s.sameBut (s.review id) [.queue, .gridFlags] := by
  unfold State.review
  split
  · split
    · exact s.applyReview_frame _ _ _
    · exact s.sameBut_refl _
    · exact s.sameBut_refl _
  · exact s.sameBut_refl _

theorem State.takeChange_frame (s : State) : s.sameBut s.takeChange (.gridFlags :: resplitParts) :=
  ((State.sameBut_foldl _ State.review_frame _ s).mono (by simp)).then (State.resplit_frame _) (by simp)

theorem State.applyActivation_frame (s : State) (id m w : Nat) (a : Allocation) :
    s.sameBut (s.applyActivation id m w a) (.gridFlags :: resplitParts) :=
  ((((s.modRequest_frame id _).mono (by simp)).then (State.noteReduced_frame _ _ _) (by simp)).trans
    ((State.sameBut_foldl _ (State.createEntry_frame id w) a.list _).mono (by simp))).then
    (State.raiseGrid_frame _ _) (by simp)

theorem State.activate_frame (s : State) (r : Request) : s.sameBut (s.activate r) (.gridFlags :: resplitParts) :=
  s.applyActivation_frame _ _ _ _

theorem State.newlyEligible_frame (s : State) : s.sameBut s.newlyEligible resplitParts := by
  unfold State.newlyEligible
  split
  · split
    · simp only
      split
      · exact s.resplit_frame
      · exact s.sameBut_refl _
    · exact s.sameBut_refl _
    · exact s.sameBut_refl _
  · exact s.sameBut_refl _

theorem State.afterOrderNotice_frame (s : State) (r : Request) (c : Option EndCause) (m : Bool) :
    s.sameBut (s.afterOrderNotice r c m) requestEventParts := by
  unfold State.afterOrderNotice
  split
  · split
    · exact s.sameBut_refl _
    · exact (s.leaveIfDone_frame _).mono (by simp)
  · split
    · exact s.resplit_frame.mono (by simp)
    · exact s.sameBut_refl _
  · exact s.sameBut_refl _

theorem State.takeOrderEnd_frame (s : State) (id : Nat) (c : Option EndCause) (e : Nat) (m : Bool) :
    s.sameBut (s.takeOrderEnd id c e m) requestEventParts := by
  unfold State.takeOrderEnd
  split
  · exact s.sameBut_refl _
  · exact ((s.modRequest_frame id _).mono (by simp)).then (State.afterOrderNotice_frame _ _ _ _) (by simp)

/-! ### TRIP (R152) -/

theorem State.releaseIfEngaged_frame (s : State) (b : BayNo) : s.sameBut (s.releaseIfEngaged b) releaseParts := by
  unfold State.releaseIfEngaged
  split
  · exact s.release_frame b
  · exact s.sameBut_refl _

theorem State.tripOrder_frame (s : State) (b : BayNo) : s.sameBut (s.tripOrder b) resplitParts := by
  unfold State.tripOrder
  split
  · exact s.sameBut_refl _
  · exact ((((s.setOrder_frame b _).mono (by simp)).then (State.modRequest_frame _ _ _) (by simp)).then
      (State.join_frame _ _) (by simp)).then (State.releaseIfEngaged_frame _ _) (by simp)

theorem State.tripRequest_frame (s : State) (r : Request) : s.sameBut (s.tripRequest r) leaveParts := by
  have h : s.sameBut (State.dropRequest { s with lastResult := some (r.result .trip) } r.id) leaveParts :=
    State.sameBut.trans (t := { s with lastResult := some (r.result .trip) })
      (by intro p hp; cases p <;> first | rfl | simp at hp) ((State.dropRequest_frame _ _).mono (by simp))
  unfold State.tripRequest
  split
  · exact (s.dropRequest_frame r.id).mono (by simp)
  · exact h
  · exact h

theorem State.tripQueue_frame (s : State) : s.sameBut s.tripQueue leaveParts := by
  unfold State.tripQueue
  split
  · exact s.sameBut_refl _
  · exact (State.sameBut_foldl _ State.tripRequest_frame s.queue s).then (State.raiseGrid_frame _ _) (by simp)

theorem State.halt_frame (s : State) : s.sameBut s.halt [.device] := by
  unfold State.halt
  split
  · intro p hp; cases p <;> first | rfl | simp at hp
  · exact s.sameBut_refl _

/-- A TRIP keeps clock, uptime, settings, roster, policy, profiles, lines and the exchange (R152). -/
theorem State.doTrip_frame (s : State) : s.sameBut s.doTrip (.device :: requestEventParts) :=
  (((((State.sameBut_foldl _ State.tripOrder_frame allBays s).mono (by simp)).trans
    ((State.sameBut_foldl _ State.releaseIfEngaged_frame allBays _).mono (by simp))).then
    (State.tripQueue_frame _) (by simp)).then (State.halt_frame _) (by simp)).then
    (State.raiseDeviceState_frame _) (by simp)

end Sys2Proof.Machine
end

