-- ==== Sys2Proof/Laws/Split.lean ====
section
/-! SUPPORT. What the split hands out (R59 to R61). -/

namespace Sys2Proof.Machine

/-- One bay's turn in a split. -/
theorem split_cons (ps span power : Nat) (x : BayNo × Nat) (rest : List (BayNo × Nat)) :
    split ps span power (x :: rest) = if min x.2 power < ps then split ps span power rest
      else ⟨x.1, min x.2 power, min x.2 power * span⟩ :: split ps span (power - min x.2 power) rest := rfl

/-- The targets of a split stay within the power it shares. -/
theorem targetSum_split_le (ps span power : Nat) (l : List (BayNo × Nat)) :
    targetSum (split ps span power l) ≤ power := by
  induction l generalizing power with
  | nil => simp [split, targetSum]
  | cons x rest ih =>
    rw [split_cons]
    split
    · exact ih power
    · have := ih (power - min x.2 power)
      simp only [targetSum, List.map_cons, List.sum_cons] at this ⊢
      omega

/-- Every entry of a split comes from a bay of the list, with a target of at least Ps and at most the bay's power. -/
theorem mem_split {ps span power : Nat} {l : List (BayNo × Nat)} {e : Participant} (h : e ∈ split ps span power l) :
    ∃ x ∈ l, e.bay = x.1 ∧ ps ≤ e.target ∧ e.target ≤ x.2 ∧ e.committed = e.target * span := by
  induction l generalizing power with
  | nil => simp [split] at h
  | cons x rest ih =>
    rw [split_cons] at h
    split at h
    · obtain ⟨y, hy, h⟩ := ih h
      exact ⟨y, List.mem_cons_of_mem _ hy, h⟩
    · rcases List.mem_cons.1 h with rfl | h
      · exact ⟨x, List.mem_cons_self, rfl, by simp only; omega, Nat.min_le_left .., rfl⟩
      · obtain ⟨y, hy, h⟩ := ih h
        exact ⟨y, List.mem_cons_of_mem _ hy, h⟩

/-- The bays of a split run in the order of the list. -/
theorem split_sublist (ps span power : Nat) (l : List (BayNo × Nat)) :
    ((split ps span power l).map (·.bay)).Sublist (l.map (·.1)) := by
  induction l generalizing power with
  | nil => simp [split]
  | cons x rest ih =>
    rw [split_cons]
    split
    · exact (ih power).cons _
    · exact (ih _).cons_cons _

theorem insertRanked_perm (x : BayNo × Nat) (l : List (BayNo × Nat)) : (insertRanked x l).Perm (x :: l) := by
  induction l with
  | nil => exact List.Perm.refl _
  | cons y rest ih =>
    unfold insertRanked
    split
    · exact List.Perm.refl _
    · exact (ih.cons y).trans (List.Perm.swap x y rest)

theorem foldl_insertRanked_perm (l acc : List (BayNo × Nat)) :
    (l.foldl (fun acc x => insertRanked x acc) acc).Perm (l ++ acc) := by
  induction l generalizing acc with
  | nil => exact List.Perm.refl _
  | cons x rest ih =>
    exact (ih (insertRanked x acc)).trans (((insertRanked_perm x acc).append_left rest).trans List.perm_middle)

/-- Split order rearranges the eligible bays and loses none. -/
theorem rank_perm (l : List (BayNo × Nat)) : (rank l).Perm l := by
  simpa [rank] using foldl_insertRanked_perm l []

end Sys2Proof.Machine
end

