-- ==== Sys2Proof/Tests/Slice0.lean ====
section
/-! SUPPORT. Tests: refused ill-formed terms, frames and results worked by hand from the manual, and for each statement
with hypotheses a state and operands that meet them. -/

namespace Sys2Proof.Tests

set_option Elab.async false

open Sys2Proof Sys2Proof.Machine

/-! ### Well-formedness: each check refuses an ill-formed term -/

/-- Thirteen bytes are no reply (R137). -/
theorem test_wf_reply : (Instr.replyReceived (List.replicate 13 0) false).wellFormed = false := by decide
/-- A reply cut short has begun and is not whole (R137). -/
theorem test_wf_incomplete : (Instr.replyIncompleteTimeout []).wellFormed = false
    ∧ (Instr.replyIncompleteTimeout (List.replicate 14 0)).wellFormed = false := by decide
/-- A partial byte has fewer than eight clocks (R160). -/
theorem test_wf_frameEnd : (Instr.frameEnd .grid [0x08] 8).wellFormed = false := by decide
/-- Fifteen bands do not fit the frame buffer (R160, R177). -/
theorem test_wf_loadProfile : (Instr.loadProfile 0 50 60 (List.replicate 15 (1200, 40))).wellFormed = false := by decide

/-! ### Frames written out from the manual (R175, R177) -/

theorem test_frame_setClock : decodeFrame .grid [0x10, 0x40, 0xFD, 0x00] false = .ok (.setClock 64832) := by decide
theorem test_frame_loadProfile : decodeFrame .grid
    [0x11, 0x02, 0x32, 0x00, 0x3C, 0x00, 0x02, 0xC8, 0x00, 0x14, 0x00, 0xB0, 0x04, 0x28, 0x00] false
      = .ok (.loadProfile 2 50 60 [(200, 20), (1200, 40)]) := by decide
theorem test_frame_submit : decodeFrame .grid [0x12, 0x05, 0x50, 0x46, 0x01, 0x08, 0x07, 0x90, 0x01, 0x02, 0x01] false
    = .ok (.submitRequest 5 83536 1800 400 2 1) := by decide
theorem test_frame_setSite : decodeFrame .fleet
    [0x20, 0xE8, 0x03, 0x84, 0x03, 0x84, 0x03, 0x3C, 0x00, 40, 80, 170, 190, 210] false
      = .ok (.setSite 1000 900 900 60 40 80 170 190 210) := by decide
theorem test_frame_enroll : decodeFrame .fleet
    [0x22, 0x07, 0x00, 0x00, 0x00, 0x01, 0xE8, 0x03, 0x00, 0xC8, 0x00, 0x2C, 0x01, 0x01] false
      = .ok (.enrollVehicle 7 65536 1000 200 300 1) := by decide
theorem test_frame_departure : decodeFrame .fleet [0x23, 0x07, 0x00, 0x01, 0x68, 0x01, 0x10, 0x27, 0x00] false
    = .ok (.setDeparture 7 1 360 10000) := by decide
/-- 0x25 is three bytes long, and refused on the grid port (R163, R164). -/
theorem test_frame_roster : decodeFrame .fleet [0x25, 0x00, 0x10] false = .ok (.readRoster 0 16)
    ∧ decodeFrame .grid [0x25, 0x00, 0x10] false = .error .notPermitted
    ∧ decodeFrame .fleet [0x25, 0x00] false = .error .length := by decide
theorem test_frame_unknown : decodeFrame .grid [0x05] false = .error .unknownCommand := by decide

/-! ### Results the manual works out -/

/-- The worked poll (10.5): the CRC and the bytes of a poll to bay 5, sequence number 7, export enable, set-point 200. -/
theorem test_poll_bytes : crc8 [0x57] = 0xC7 ∧ crc8 [0x57, 0x80, 0x00, 0xC8] = 0x89
    ∧ pollFrame 5 7 ⟨true, false, false, false, false⟩ 200
      = [0xC3, 0x57, 0x80, 0x00, 0xC8, 0x00, 0x37, 0xFF, 0x5F] := by decide +kernel
/-- The decline energies of the worked ramp (5.9). -/
theorem test_declineEnergy : (⟨50, 0, [⟨1200, 40⟩]⟩ : Profile).declineEnergy 170 = 270 := by decide +kernel
/-- Step 6 of the worked ramp (5.9): the hold fails and the order declines for its quota. -/
theorem test_ramp_step6 : (⟨1, 200, 1000, 610, 170, .hold, none, false, none, true⟩ : Order).plan ⟨50, 0, [⟨1200, 40⟩]⟩
    = .issue 130 .decline (some .quota) := by decide +kernel
/-- Step 5 of the worked ramp (5.9): the climb to 200 is not affordable, the hold is. -/
theorem test_ramp_step5 : (⟨1, 200, 1000, 440, 170, .rise, none, false, none, true⟩ : Order).plan ⟨50, 0, [⟨1200, 40⟩]⟩
    = .issue 170 .hold none := by decide +kernel
/-- The cold batteries of 3.9 and 11.2. -/
theorem test_derate : derate Site.reset 600 (-24) = 240 ∧ derate Site.reset 600 (-16) = 360
    ∧ derate Site.reset 600 110 = 0 ∧ derate Site.reset 600 90 = 600 := by decide

/-- A plugged bay with a linked vehicle. -/
def plugged (state : BayState) (vehicle energy cap : Nat) : BayRecord :=
  { BayRecord.reset with
    state := state, link := some vehicle, ratedCap := cap, tempCap := cap, capEff := cap, guardArmed := true
    tele := { Telemetry.zero with plug := true, vehicle := vehicle, energy := energy, temp := 40 } }

/-- A bus of the worked depot case (3.9). -/
def bus (number : Nat) (bay : BayNo) (minute qDep : Nat) : Vehicle :=
  ⟨number, 7200000, 720000, 190, 600, true, some ⟨minute, qDep⟩, some bay⟩

/-- The depot of 3.9 at 16:50:00. -/
def depot : State :=
  { State.reset with
    device := .run, clock := 60600, clockValid := true, site := { Site.reset with limit := 2000 }, siteValid := true
    roster := [bus 101 0 390 3600000, bus 102 1 1140 2880000, bus 103 2 375 3600000, bus 104 3 390 3600000]
    profiles := Vector.ofFn fun i => if i = 2 then some ⟨50, 0, [⟨1200, 40⟩]⟩ else none
    bays := Vector.ofFn fun b =>
      if b = 0 then plugged .parked 101 5400000 600
      else if b = 1 then plugged .parked 102 3000000 600
      else if b = 2 then plugged .parked 103 2000000 600
      else if b = 3 then plugged .parked 104 4000000 240
      else BayRecord.reset }

/-- A state with a command handed to its block by a port. -/
def giving (s : State) (p : Port) (c : Instr) : State := s.setPort p { s.port p with progress := .handed c }

/-- The reply a command leaves at its port. -/
def replyAt (p : Port) (o : Host.Outcome State Fault Refusal) : Option (List Byte) :=
  match o with
  | .next t =>
    match (t.port p).progress with
    | .done reply => some reply
    | _ => none
  | _ => none

/-- The offer of 3.9: the grant 1399 (0577H), the countdown 600 (0258H), four participants. -/
theorem test_submit_depot : replyAt .grid (exec (.submitRequest 1 61200 3600 1500 2 0)
      (giving depot .grid (.submitRequest 1 61200 3600 1500 2 0)))
    = some [0, 1, 0x77, 0x05, 0x58, 0x02, 4] := by decide +kernel
/-- The targets of 3.9 in split order. -/
theorem test_evaluate_depot : (depot.evaluate (offerTerms 1 ⟨50, 0, [⟨1200, 40⟩]⟩ 1500 600 3600)).list.map
    (fun e => (e.bay, e.target, e.committed))
      = [(0, 600, 2160000), (2, 355, 1278000), (3, 240, 864000), (1, 204, 734400)] := by decide +kernel
/-- START without settings, without a clock, and with both (8.6). -/
theorem test_start_codes :
    replyAt .fleet (exec .start (giving State.reset .fleet .start)) = some [5]
    ∧ replyAt .fleet (exec .start (giving { State.reset with siteValid := true } .fleet .start)) = some [6]
    ∧ replyAt .fleet (exec .start (giving { State.reset with siteValid := true, clockValid := true } .fleet .start))
      = some [0, 1] := by decide +kernel
/-- SET CLOCK on the fleet port (8.6). -/
theorem test_setClock_fleet : decodeFrame .fleet [0x10, 0x1D, 0xFD, 0x00] false = .error .notPermitted := by decide

/-! ### States that meet the hypotheses of the statements

One theorem for each statement that has hypotheses, each clause at a boundary of its range. -/

/-- A linked vehicle of the evening. -/
def van (number : Nat) (departure : Option Departure) (link : Option BayNo) : Vehicle :=
  ⟨number, 50000, 1000, 100, 200, true, departure, link⟩

/-- The bays of the evening: one in each state, the others EMPTY. -/
def eveningBay (b : BayNo) : BayRecord :=
  match b.val with
  | 0 => { plugged .transfer 1 30000 200 with interval := 1800 }
  | 1 => { plugged .bound 2 30000 200 with settleTimer := some 0, interval := 900 }
  | 2 => plugged .parked 3 30000 200
  | 3 => { plugged .binding 4 30000 200 with stateTimer := some 0 }
  | 4 => { plugged .checking 5 30000 200 with stateTimer := some 0 }
  | 5 => { plugged .releasing 6 30000 200 with releasePending := true, releaseTimer := some 0 }
  | 6 => { plugged .cooldown 7 30000 200 with stateTimer := some 0 }
  | 7 => { plugged .fault 8 30000 200 with releasePending := true, releaseTimer := some 0 }
  | 8 => plugged .outOfService 9 30000 200
  | 9 => { plugged .detected 11 30000 200 with link := none, candidate := some 11 }
  | 10 => { plugged .parked 10 30000 200 with link := none }
  | 11 => { plugged .outOfService 12 30000 200 with link := none, releasePending := true, releaseTimer := some 0 }
  | 12 => { plugged .transfer 13 30000 200 with link := none }
  | _ => BayRecord.reset

/-- The ACTIVE request of the evening. -/
def request1 : Request :=
  ⟨1, .active 600 [0, 1, 3], 1800, 400, 300, 300, 0, false, [⟨0, 150, 0⟩, ⟨1, 60, 0⟩, ⟨3, 60, 0⟩], 0⟩

/-- The HELD request of the evening. -/
def request2 : Request := ⟨2, .held 2000, 600, 200, 100, 100, 0, false, [⟨2, 100, 66000⟩], 0⟩

/-- A running order of request 1. -/
def running : Order := ⟨1, 150, 5000, 500, 100, .rise, none, false, some 0, true⟩

/-- A waiting order of request 1. -/
def waiting : Order := ⟨1, 60, 36000, 0, 0, .waitBind, none, false, none, false⟩

/-- A part in the middle of an evening, with a bay in each state and a request in HELD and in ACTIVE. -/
def evening : State :=
  { State.reset with
    device := .run, clock := 64800, clockValid := true, uptime := 5000, siteValid := true
    site := { Site.reset with limit := 500 }
    roster := [van 1 none (some 0), van 2 none (some 1), van 3 (some ⟨1095, 20000⟩) (some 2), van 4 none (some 3),
      van 5 none (some 4), van 6 none (some 5), van 7 none (some 6), van 8 none (some 7), van 9 none (some 8),
      { van 10 none none with consent := false }]
    bays := Vector.ofFn eveningBay
    faults := Vector.ofFn fun b => if b = 7 then ⟨⟨.opened, some .bayReported, [], 4900, 0⟩, [], some 0, 0, false⟩ else .reset
    orders := Vector.ofFn fun b =>
      if b = 0 then some running else if b = 1 ∨ b = 3 then some waiting
      else if b = 12 then some { running with level := 50, phase := .decline } else none
    profiles := Vector.ofFn fun i => if i = 0 then some ⟨50, 60, [⟨1200, 40⟩]⟩ else none
    queue := [request1, request2] }

/-- Orders stand on engaged bays, by a test of the sixteen bays. -/
theorem ordersEngaged_of_test {s : State}
    (h : ∀ b, ((s.order b).isNone || (s.bay b).state.engaged) = true) : s.ordersEngaged := by
  intro b o ho
  simpa [ho] using h b

/-- Orders stand where their bays' states ask for them, by a test of the sixteen bays. -/
theorem ordersPlaced_of_test {s : State}
    (h : ∀ b, (match (s.bay b).state, s.order b with
      | .binding, some o => o.phase == .waitBind
      | .bound, some o => o.phase == .waitBind && (s.bay b).settleTimer.isSome
      | .transfer, some o => o.phase != .waitBind
      | .binding, none | .transfer, none => false
      | .bound, none => true
      | _, o => o.isNone) = true) : s.ordersPlaced := by
  intro b
  have := h b
  cases hs : (s.bay b).state <;> cases ho : s.order b <;> simp_all [Option.ne_none_iff_isSome]

/-- Links are paired, by a test of the sixteen bays and of the roster. -/
theorem linksAgree_of_test {s : State} (hl : s.roster.length ≤ 48) (hn : (s.roster.map (·.number)).Nodup)
    (hp : ∀ v ∈ s.roster, ∀ b, v.bayLink = some b ↔ (s.bay b).link = some v.number)
    (hb : ∀ b, ((s.bay b).link.all fun n => s.roster.any fun v => v.number == n) = true) : s.linksAgree := by
  refine ⟨hl, hn, hp, fun b n h => ?_⟩
  have := hb b
  simpa [h] using this

theorem evening_ordersEngaged : evening.ordersEngaged := ordersEngaged_of_test (by decide +kernel)
theorem evening_ordersPlaced : evening.ordersPlaced := ordersPlaced_of_test (by decide +kernel)
theorem evening_linksAgree : evening.linksAgree :=
  linksAgree_of_test (by decide) (by decide) (by decide +kernel) (by decide +kernel)
theorem evening_queueSound : evening.queueSound := ⟨by decide, by decide, by decide⟩

/-- The evening without departures. -/
def noDepartures : State := { evening with roster := evening.roster.map fun v => { v with departure := none } }

/-- A port in a transaction. -/
def inTransaction (s : State) (p : Port) : State := s.setPort p { s.port p with transaction := some ⟨⟨0, []⟩, false⟩ }

theorem test_meets_StepRunsFrontCommand : State.reset.pending = [] := rfl

/-- A LOAD PROFILE of fourteen bands, the most the frame buffer holds. -/
theorem test_meets_CommandFramesRoundTrip : ∃ (c : Instr) (f : List Byte), c.wellFormed = true ∧ encodeFrame c = some f
    ∧ f.length = 63 ∧ c.port? = some .grid :=
  ⟨.loadProfile 0 50 60 (List.replicate 14 (1200, 40)), _, by decide, rfl, by decide, by decide⟩

theorem test_meets_AcceptedFrameIsTheCommands : decodeFrame .fleet [0x2C] false = .ok .resetDevice := by decide

/-- 65 bytes, a code of no command, 64 bytes of a one-byte command, a fleet command on the grid port; both variable
codes. -/
theorem test_meets_PortChecksInOrder :
    (∀ f, (inTransaction .reset .grid).frameAtRise .grid ⟨⟨0, []⟩, false⟩ f f) ∧ State.reset.grid.busy = false
    ∧ 64 < (List.replicate 65 (0x01 : Byte)).length
    ∧ ¬ 64 < ([0x05] : List Byte).length ∧ expectedLength [0x05] = none
    ∧ ¬ 64 < (List.replicate 64 (0x01 : Byte)).length ∧ expectedLength (List.replicate 64 0x01) = some 1
    ∧ expectedLength [0x2A] = some 1 ∧ permitted .grid (byteAt [0x2A] 0) = false
    ∧ byteAt [0x11] 0 = 0x11 ∧ byteAt [0x25] 0 = 0x25 :=
  ⟨fun _ => ⟨rfl, rfl⟩, by decide⟩

theorem test_meets_CommandTakenAndCompleted :
    (inTransaction .reset .fleet).frameAtRise .fleet ⟨⟨0, []⟩, false⟩ [0x2A] [0x2A] ∧ State.reset.fleet.busy = false
    ∧ State.reset.fleet.overflow = false ∧ encodeFrame .start = some [0x2A] ∧ Instr.start.port? = some .fleet
    ∧ Instr.start.wellFormed = true ∧ Instr.start ≠ .nop .fleet
    ∧ ((State.reset.answer .grid [0]).port .grid).progress = .done [0]
    ∧ ∀ reply, (State.reset.port .grid).progress ≠ .done reply :=
  ⟨⟨rfl, rfl⟩, by decide, by decide, by decide, by decide, by decide, by decide, rfl, nofun⟩

theorem test_meets_FramesNotTaken :
    (∀ f, (inTransaction .reset .grid).frameAtRise .grid ⟨⟨0, []⟩, false⟩ f f) ∧ State.reset.grid.overflow = false
    ∧ ((State.reset.setPort .grid { State.reset.grid with transaction := some ⟨⟨0, []⟩, true⟩ }).frameAtRise .grid
        ⟨⟨0, []⟩, true⟩ [0x01] [0x01])
    ∧ ((inTransaction (giving .reset .grid (.cancel 1)) .grid).port .grid).busy = true
    ∧ (inTransaction (giving .reset .grid (.cancel 1)) .grid).frameAtRise .grid ⟨⟨0, []⟩, false⟩ [0x01] [0x01]
    ∧ (State.reset.port .grid).transaction = none :=
  ⟨fun _ => ⟨rfl, rfl⟩, rfl, ⟨rfl, rfl⟩, rfl, ⟨rfl, rfl⟩, rfl⟩

theorem test_meets_SnapshotTakenAndStands :
    (State.reset.port .fleet).transaction = none
    ∧ ∃ t, exec .resetDevice (inTransaction (giving .reset .fleet .resetDevice) .grid) = .next t
      ∧ ((inTransaction (giving .reset .fleet .resetDevice) .grid).port .grid).transaction = some ⟨⟨0, []⟩, false⟩
      ∧ 0 = 7 / 8 ∧ 1 = 8 / 8 ∧ ([0x00] : List Byte)[16 / 8 - 2]? = some 0x00 ∧ ([0x00] : List Byte).length + 2 ≤ 24 / 8 :=
  ⟨rfl, _, rfl, rfl, by decide⟩

/-- After a power-on reset the first byte on MISO is 0x20: RESET_SEEN alone, bit 7 first. Three clocks shift out 0, 0, 1,
and the pin is at high impedance while CS is high (R159, R173, R176). -/
theorem test_miso_partial_byte :
    (State.reset.port .grid).misoPin 0 = none
    ∧ ∃ t, exec (.transactionStart .grid) State.reset = .next t ∧ (t.port .grid).misoPin 2 = some true
      ∧ ∃ u, exec (.frameEnd .grid [] 3) t = .next u
        ∧ (u.port .grid).miso = [false, false, true] ∧ (u.port .grid).misoPin 0 = none :=
  ⟨rfl, _, rfl, by decide, _, rfl, by decide, rfl⟩

theorem test_meets_EventsReadAndAcknowledged :
    (giving evening .grid (.readEvents .grid)).handed .grid (.readEvents .grid)
    ∧ (giving evening .fleet (.readEvents .fleet)).handed .fleet (.readEvents .fleet)
    ∧ (giving evening .grid (.ackReset .grid)).handed .grid (.ackReset .grid)
    ∧ (giving evening .fleet (.ackReset .fleet)).handed .fleet (.ackReset .fleet) := ⟨rfl, rfl, rfl, rfl⟩

/-- The lowest bit that names no event, and every bit that names one, on each port. -/
theorem test_meets_EventMaskReplaced :
    (∀ m, (giving evening .grid (.setEventMask .grid m)).handed .grid (.setEventMask .grid m))
    ∧ (∀ m, (giving evening .fleet (.setEventMask .fleet m)).handed .fleet (.setEventMask .fleet m))
    ∧ (0x20#8).getLsbD 5 = true ∧ (0x80#8).getLsbD 7 = true
    ∧ (∀ i, 5 ≤ i → (0x1F#8).getLsbD i = false) ∧ ∀ i, 7 ≤ i → (0x7F#8).getLsbD i = false := by
  refine ⟨fun _ => rfl, fun _ => rfl, by decide, by decide, fun i hi => ?_, fun i hi => ?_⟩ <;>
  · rcases Nat.lt_or_ge i 8 with h | h
    · interval_cases i <;> decide
    · exact BitVec.getLsbD_of_ge _ _ h

theorem test_meets_ReadsChangeNothing : isRead (.readBay .fleet 15) = true
    ∧ Instr.port? (.readBay .fleet 15) = some .fleet
    ∧ (giving evening .fleet (.readBay .fleet 15)).handed .fleet (.readBay .fleet 15) := ⟨by decide, by decide, rfl⟩

/-- Profile indexes 8, 7 (unloaded) and 0 (loaded, in use); a last result absent and present. -/
theorem test_meets_StatusProfileResultReplies :
    (∀ c : Instr, (giving evening .grid c).handed .grid c) ∧ 7 < (8 : Byte).toNat ∧ (7 : Byte).toNat = (7 : Fin 8).val
    ∧ evening.profiles[(7 : Fin 8)] = none ∧ evening.profiles[(0 : Fin 8)] = some ⟨50, 60, [⟨1200, 40⟩]⟩
    ∧ evening.lastResult = none
    ∧ { evening with lastResult := some ⟨1, .trip, 300, 0, 0⟩ }.lastResult = some ⟨1, .trip, 300, 0, 0⟩ :=
  ⟨fun _ => rfl, by decide, by decide, by decide, by decide, rfl, rfl⟩

theorem test_meets_RequestReplies :
    (∀ id, (giving evening .grid (.readRequest .grid id)).handed .grid (.readRequest .grid id))
    ∧ (3 : Byte) ≠ 0 ∧ (∀ r ∈ evening.queue, r.id ≠ (3 : Byte).toNat)
    ∧ evening.request? (1 : Byte).toNat = some request1 ∧ evening.request? (2 : Byte).toNat = some request2 :=
  ⟨fun _ => rfl, by decide, by decide, by decide, by decide⟩

/-- The numbers 0 and 65 535, an absent number, the first record; the starts 47 and 48, the counts 0, 1, 16 and 17. -/
theorem test_meets_VehicleAndRosterReplies :
    (∀ n, (giving evening .fleet (.readVehicle .fleet n)).handed .fleet (.readVehicle .fleet n))
    ∧ (∀ v ∈ evening.roster, v.number ≠ (65534 : BitVec 16).toNat)
    ∧ (∃ back, evening.roster = [] ++ van 1 none (some 0) :: back)
    ∧ (∀ a b, (giving evening .fleet (.readRoster a b)).handed .fleet (.readRoster a b))
    ∧ 47 < (48 : Byte).toNat ∧ 16 < (17 : Byte).toNat ∧ (47 : Byte).toNat ≤ 47 ∧ (16 : Byte) ≠ 0 ∧ (16 : Byte).toNat ≤ 16 :=
  ⟨fun _ => rfl, by decide, ⟨_, rfl⟩, fun _ _ => rfl, by decide⟩

theorem test_meets_BayReply : (∀ n, (giving evening .grid (.readBay .grid n)).handed .grid (.readBay .grid n))
    ∧ 15 < (16 : Byte).toNat ∧ (15 : Byte).toNat = (15 : BayNo).val := ⟨fun _ => rfl, by decide, by decide⟩

theorem test_meets_SetClockWritesClock : (∀ n, (giving evening .grid (.setClock n)).handed .grid (.setClock n))
    ∧ 86399 < (86400 : BitVec 24).toNat ∧ (86399 : BitVec 24).toNat ≤ 86399
    ∧ ∃ u, exec .timebaseSecond (evening.answer .grid []) = .next u := ⟨fun _ => rfl, by decide, by decide, _, rfl⟩

/-- Index 8; an index in use; Ps 9; Ps 10, lead 600, step 400. -/
theorem test_meets_LoadProfileChecksAndLoads :
    (∀ i ps lead bands, (giving evening .grid (.loadProfile i ps lead bands)).handed .grid (.loadProfile i ps lead bands))
    ∧ 7 < (8 : Byte).toNat ∧ (∃ r ∈ evening.queue, r.profile = (0 : Fin 8).val)
    ∧ (∀ r ∈ evening.queue, r.profile ≠ (7 : Fin 8).val) ∧ (9 : BitVec 16).toNat < 10
    ∧ ¬ ((10 : BitVec 16).toNat < 10 ∨ 600 < (10 : BitVec 16).toNat ∨ 600 < (600 : BitVec 16).toNat)
    ∧ (let bands : List (BitVec 16 × BitVec 16) := [(1200, 400)]
      ¬ (bands = [] ∨ 8 < bands.length ∨ (∃ b ∈ bands, b.2 = 0 ∨ 400 < b.2.toNat ∨ b.1 = 0)
        ∨ ¬ List.Pairwise (fun a b => a.1.toNat < b.1.toNat) bands ∨ bands.getLast?.map (·.1) ≠ some 1200))
    ∧ ([0x11, 0, 0, 0, 0, 0, 1] : List Byte).length ≠ 7 + 4 * (byteAt [0x11, 0, 0, 0, 0, 0, 1] 6).toNat :=
  ⟨fun _ _ _ _ => rfl, by decide⟩

/-- Each check of a SUBMIT REQUEST at a bound: CONFIG; ID 0; an unloaded profile; a queued ID; a full queue; countdowns
89 and 43 201; the countdown 90, which meets the ACTIVE request's window. -/
theorem test_meets_SubmitChecksInOrder :
    (∀ id start length power profile release,
      (giving evening .grid (.submitRequest id start length power profile release)).handed .grid
        (.submitRequest id start length power profile release))
    ∧ State.reset.device ≠ .run ∧ evening.device = .run
    ∧ (let range (id : Byte) (start : BitVec 24) (length power : BitVec 16) (profile release : Byte) : Prop :=
        id = 0 ∨ 86399 < start.toNat ∨ length.toNat < 60 ∨ 14400 < length.toNat ∨ power = 0 ∨ 19200 < power.toNat
          ∨ 7 < profile.toNat ∨ 1 < release.toNat
      range 0 0 60 1 0 0 ∧ ¬ range 255 86399 60 19200 7 1 ∧ ¬ range 1 0 14400 1 0 0)
    ∧ evening.profiles[(7 : Fin 8)] = none ∧ (∃ r ∈ evening.queue, r.id = (2 : Byte).toNat)
    ∧ (∀ r ∈ evening.queue, r.id ≠ (3 : Byte).toNat)
    ∧ 4 ≤ { evening with queue := [request1, request2, request2, request2] }.queue.length ∧ evening.queue.length < 4
    ∧ ((64889 : Int) - evening.clock) % 86400 = 89 ∧ ((21601 : Int) - evening.clock) % 86400 = 43201
    ∧ ((64890 : Int) - evening.clock) % 86400 = 90
    ∧ (∃ r ∈ evening.queue, evening.occupied r = some (0, 600)) ∧ (90 : Int) - 60 < 600 ∧ (0 : Int) < 90 + 60 := by
  refine ⟨fun _ _ _ _ _ _ => rfl, ?_⟩
  decide

/-- A window that opens 90 steps after the command, its lead beginning where the interval of the request before it
ends. -/
theorem test_meets_SubmitStoresOffer :
    let s := { evening with queue := [{ request1 with state := .active 30 [] }, request2] }
    (giving s .grid (.submitRequest 3 64890 60 1 0 1)).handed .grid (.submitRequest 3 64890 60 1 0 1)
    ∧ s.device = .run ∧ s.profiles[(0 : Fin 8)] = some ⟨50, 60, [⟨1200, 40⟩]⟩
    ∧ (∀ r ∈ s.queue, r.id ≠ (3 : Byte).toNat) ∧ s.queue.length < 4
    ∧ ((90 : Nat) : Int) = ((64890 : Int) - (s.clock : Int)) % 86400
    ∧ s.queue.map s.occupied = [some (0, 30), some (1940, 2600)] ∧ (30 : Int) ≤ 90 - 60 ∧ (90 : Int) + 60 ≤ 1940 :=
  ⟨rfl, by decide⟩

/-- Bays 0 and 1 use the power up; bay 2 has committed all it holds to the other request. -/
theorem test_meets_SplitSharesPower :
    let t : Terms := ⟨1, ⟨50, 60, [⟨1200, 40⟩]⟩, 400, 660, 1, true⟩
    0 < t.span ∧ noDepartures.eligible t 0 = true ∧ noDepartures.eligible t 1 = true ∧ noDepartures.eligible t 2 = true
    ∧ noDepartures.sustainable t 1 = 200 ∧ noDepartures.sustainable t 2 = 0
    ∧ (noDepartures.evaluate t).list = [⟨0, 200, 200⟩, ⟨1, 200, 200⟩]
    ∧ noDepartures.linkedVehicle? 2 = some (van 3 none (some 2)) := by decide +kernel

/-- ID 0; powers 19 201 and 19 200; an ID that is not queued; a HELD and an ACTIVE request; powers 1 and 0. -/
theorem test_meets_RetargetResplits :
    (∀ id power, (giving evening .grid (.retarget id power)).handed .grid (.retarget id power))
    ∧ (∀ id power, (giving evening .grid (.retarget id power)).ordersPlaced)
    ∧ 19200 < (19201 : BitVec 16).toNat ∧ (19200 : BitVec 16).toNat ≤ 19200 ∧ 0 < (1 : BitVec 16).toNat
    ∧ (∀ r ∈ evening.queue, r.id ≠ (3 : Byte).toNat) ∧ evening.request? (2 : Byte).toNat = some request2
    ∧ (∀ remaining eligible, request2.state ≠ .active remaining eligible)
    ∧ evening.request? (1 : Byte).toNat = some request1 ∧ request1.state = .active 600 [0, 1, 3] :=
  ⟨fun _ _ => rfl, fun _ _ => evening_ordersPlaced, by decide, by decide, by decide, by decide, by decide, nofun,
    by decide, rfl⟩

/-- A request with a running order and one without; a window that is over and none. -/
theorem test_meets_ActiveRequestEnds :
    (∀ id, (giving evening .grid (.curtail id)).handed .grid (.curtail id))
    ∧ (∀ r ∈ evening.queue, r.id ≠ (3 : Byte).toNat) ∧ evening.request? (2 : Byte).toNat = some request2
    ∧ (∀ remaining eligible, request2.state ≠ .active remaining eligible)
    ∧ evening.request? (1 : Byte).toNat = some request1 ∧ evening.runs 1
    ∧ ¬ { evening with orders := Vector.replicate 16 none }.runs 1
    ∧ (∀ r ∈ State.reset.queue, ∀ eligible, r.state ≠ .active 0 eligible)
    ∧ (let s := { evening with queue := [{ request1 with state := .active 0 [] }] }
      s.queueSound ∧ s.runs 1) :=
  ⟨fun _ => rfl, by decide, by decide, nofun, by decide, ⟨0, running, by decide, by decide, by decide⟩,
    by
      rintro ⟨b, o, h, -⟩
      simp [State.order] at h,
    nofun, ⟨by decide, by decide, by decide⟩, ⟨0, running, by decide, by decide, by decide⟩⟩

theorem test_meets_CancelRemovesHeldRequest : (∀ id, (giving evening .grid (.cancel id)).handed .grid (.cancel id))
    ∧ (∀ r ∈ evening.queue, r.id ≠ (3 : Byte).toNat) ∧ evening.request? (1 : Byte).toNat = some request1
    ∧ (∀ countdown, request1.state ≠ .held countdown) ∧ evening.request? (2 : Byte).toNat = some request2
    ∧ request2.state = .held 2000 := ⟨fun _ => rfl, by decide, by decide, nofun, by decide, rfl⟩

/-- The site export limits 0 and 19 200, the other fields at their upper bounds. -/
theorem test_meets_SetSiteRecapsAndCuts :
    (∀ a b c d e f g h i, (giving evening .fleet (.setSite a b c d e f g h i)).handed .fleet (.setSite a b c d e f g h i))
    ∧ ¬ 1 ≤ (0 : BitVec 16).toNat
    ∧ (1 ≤ (19200 : BitVec 16).toNat ∧ (19200 : BitVec 16).toNat ≤ 19200)
    ∧ (700 ≤ (1000 : BitVec 16).toNat ∧ (1000 : BitVec 16).toNat ≤ 1000)
    ∧ (300 ≤ (3600 : BitVec 16).toNat ∧ (3600 : BitVec 16).toNat ≤ 3600)
    ∧ (30 ≤ (600 : BitVec 16).toNat ∧ (600 : BitVec 16).toNat ≤ 600)
    ∧ (250 : Byte).toNat ≤ 250 ∧ (0 : Byte).toNat < (1 : Byte).toNat ∧ (1 : Byte).toNat ≤ (1 : Byte).toNat
    ∧ (1 : Byte).toNat < (250 : Byte).toNat ∧ (250 : Byte).toNat ≤ (250 : Byte).toNat :=
  ⟨fun _ _ _ _ _ _ _ _ _ => rfl, by decide⟩

/-- The four points, and a half degree inside each of the two ramps at either end. -/
theorem test_meets_TemperatureCapByPoints :
    let x := Site.reset
    x.tcz < x.tcf ∧ x.tcf ≤ x.thf ∧ x.thf < x.thz ∧ (-40 : Int) ≤ x.tcz ∧ x.tcz < -39 ∧ (-1 : Int) < x.tcf ∧ x.tcf ≤ 0
    ∧ (90 : Int) ≤ x.thf ∧ x.thf < 91 ∧ (109 : Int) < x.thz ∧ x.thz ≤ 110 := by decide

theorem test_meets_FaultPolicyReplaced :
    (∀ a b c d e f, (giving evening .fleet (.setFaultPolicy a b c d e f)).handed .fleet (.setFaultPolicy a b c d e f))
    ∧ (∃ x ∈ ([0, 1, 0, 1, 0, 2] : List Byte), x ≠ 0 ∧ x ≠ 1)
    ∧ (∀ x ∈ ([0, 1, 0, 1, 0, 1] : List Byte), x = 0 ∨ x = 1) := ⟨fun _ _ _ _ _ _ => rfl, by decide, by decide⟩

/-- The evening with a full roster. -/
def fullRoster : State := { evening with roster := (List.range 48).map fun i => van (i + 100) none none }

/-- A discharge limit of 1201; a capacity one below Q_dep; a new number for a full roster; one that passes with its
floor at its capacity. -/
theorem test_meets_EnrollChecksInOrder :
    (∀ n c f p d y, (giving evening .fleet (.enrollVehicle n c f p d y)).handed .fleet (.enrollVehicle n c f p d y))
    ∧ (let fields (number : BitVec 16) (capacity floor : BitVec 24) (pChg pDis : BitVec 16) (consent : Byte) : Prop :=
        number ≠ 0 ∧ number ≠ 65535 ∧ capacity ≠ 0 ∧ floor.toNat ≤ capacity.toNat ∧ pChg.toNat ≤ 1200 ∧ pDis.toNat ≤ 1200
          ∧ (consent = 0 ∨ consent = 1)
      ¬ fields 3 19999 19999 1200 1201 1 ∧ fields 3 19999 19999 1200 1200 1 ∧ fields 65534 1 1 0 0 0)
    ∧ evening.vehicle? (3 : BitVec 16).toNat = some (van 3 (some ⟨1095, 20000⟩) (some 2))
    ∧ (19999 : BitVec 24).toNat < (⟨1095, 20000⟩ : Departure).qDep
    ∧ fullRoster.vehicle? (20 : BitVec 16).toNat = none ∧ 48 ≤ fullRoster.roster.length
    ∧ evening.vehicle? (20 : BitVec 16).toNat = none ∧ ¬ 48 ≤ evening.roster.length := by
  refine ⟨fun _ _ _ _ _ _ => rfl, ?_⟩
  decide +kernel

/-- The last free position of the roster. -/
theorem test_meets_EnrollAppendsAndLinks :
    let s := { fullRoster with roster := fullRoster.roster.take 47 }
    (giving s .fleet (.enrollVehicle 20 1 1 1200 1200 1)).handed .fleet (.enrollVehicle 20 1 1 1200 1200 1)
    ∧ s.vehicle? (20 : BitVec 16).toNat = none ∧ s.roster.length < 48 := ⟨rfl, by decide +kernel⟩

/-- A linked record whose departure asks for the whole new capacity, with and without consent, and an unlinked one. -/
theorem test_meets_EnrollReplacesInPlace :
    (∀ n c f p d y, (giving evening .fleet (.enrollVehicle n c f p d y)).handed .fleet (.enrollVehicle n c f p d y)
      ∧ (giving evening .fleet (.enrollVehicle n c f p d y)).linksAgree)
    ∧ van 3 (some ⟨1095, 20000⟩) (some 2) ∈ evening.roster ∧ (20000 : BitVec 24).toNat = 20000
    ∧ { van 10 none none with consent := false } ∈ evening.roster :=
  ⟨fun _ _ _ _ _ _ => ⟨rfl, evening_linksAgree⟩, by decide, by decide, by decide⟩

/-- The numbers 0 and 65 535, form 2, the minutes 1440 and 1439, an absent number, Q_dep above and at the capacity. -/
theorem test_meets_DepartureSetAndRearmed :
    (∀ n f m q, (giving evening .fleet (.setDeparture n f m q)).handed .fleet (.setDeparture n f m q))
    ∧ 1 < (2 : Byte).toNat ∧ 1439 < (1440 : BitVec 16).toNat ∧ ¬ 1439 < (1439 : BitVec 16).toNat
    ∧ evening.vehicle? (20 : BitVec 16).toNat = none
    ∧ evening.vehicle? (1 : BitVec 16).toNat = some (van 1 none (some 0))
    ∧ (van 1 none (some 0)).capacity < (50001 : BitVec 24).toNat ∧ (50000 : BitVec 24).toNat ≤ (van 1 none (some 0)).capacity :=
  ⟨fun _ _ _ _ => rfl, by decide⟩

theorem test_meets_WithdrawRemovesAndUnlinks :
    (∀ n, (giving evening .fleet (.withdrawVehicle n)).handed .fleet (.withdrawVehicle n)
      ∧ (giving evening .fleet (.withdrawVehicle n)).linksAgree)
    ∧ (∀ v ∈ evening.roster, v.number ≠ (20 : BitVec 16).toNat)
    ∧ (∃ back, evening.roster = [] ++ van 1 none (some 0) :: back)
    ∧ (∃ front, evening.roster = front ++ { van 10 none none with consent := false } :: []) :=
  ⟨fun _ => ⟨rfl, evening_linksAgree⟩, by decide, ⟨_, rfl⟩, ⟨evening.roster.take 9, by decide⟩⟩

theorem test_meets_RatedCapWritten : (∀ b c, (giving evening .fleet (.setBay b c)).handed .fleet (.setBay b c))
    ∧ 15 < (16 : Byte).toNat ∧ (15 : Byte).toNat = (15 : BayNo).val ∧ 1200 < (1201 : BitVec 16).toNat
    ∧ (1200 : BitVec 16).toNat ≤ 1200 := ⟨fun _ _ => rfl, by decide⟩

/-- A bay in PARKED, BOUND with an order, CHECKING without, and TRANSFER with a running order. -/
theorem test_meets_ReleaseBayByState :
    (∀ b, (giving evening .fleet (.releaseBay b)).handed .fleet (.releaseBay b)) ∧ 15 < (16 : Byte).toNat
    ∧ (evening.bay 2).state = .parked ∧ (evening.bay 1).state = .bound ∧ evening.order 1 = some waiting
    ∧ (evening.bay 4).state = .checking ∧ evening.order 4 = none ∧ (evening.bay 0).state = .transfer
    ∧ evening.order 0 = some running ∧ running.phase ≠ .waitBind := by
  refine ⟨fun _ => rfl, ?_⟩
  decide

theorem test_meets_BayTakenOut : (∀ b, (giving evening .fleet (.takeBayOut b)).handed .fleet (.takeBayOut b))
    ∧ 15 < (16 : Byte).toNat ∧ (evening.bay 8).state = .outOfService ∧ (evening.bay 0).state ≠ .outOfService := by
  refine ⟨fun _ => rfl, ?_⟩
  decide

theorem test_meets_BayRestored : (∀ b, (giving evening .fleet (.restoreBay b)).handed .fleet (.restoreBay b)
      ∧ (giving evening .fleet (.restoreBay b)).linksAgree)
    ∧ 15 < (16 : Byte).toNat ∧ (evening.bay 0).state ≠ .outOfService ∧ (evening.bay 11).releasePending = true
    ∧ (evening.bay 8).state = .outOfService ∧ (evening.bay 8).releasePending = false := by
  refine ⟨fun _ => ⟨rfl, evening_linksAgree⟩, ?_⟩
  decide

theorem test_meets_StartAndResume :
    (∀ s, (giving s .fleet .start).handed .fleet .start ∧ (giving s .fleet .resume).handed .fleet .resume)
    ∧ State.reset.device = .config ∧ evening.device = .run ∧ State.reset.siteValid = false
    ∧ { evening with device := .halted }.device ≠ .run ∧ evening.siteValid = true
    ∧ { State.reset with siteValid := true }.clockValid = false ∧ evening.clockValid = true := by
  refine ⟨fun _ => ⟨rfl, rfl⟩, ?_⟩
  decide

theorem test_meets_TripEndsEverything :
    (giving evening .grid (.trip .grid)).handed .grid (.trip .grid)
    ∧ (giving evening .fleet (.trip .fleet)).handed .fleet (.trip .fleet)
    ∧ (giving evening .grid (.trip .grid)).ordersEngaged ∧ (giving evening .grid (.trip .grid)).queueSound
    ∧ (evening.bay 0).state.engaged = true ∧ (evening.bay 2).state.engaged = false
    ∧ evening.queue = [] ++ request1 :: [request2] ∧ request1.isHeld = false ∧ (∀ q ∈ [request2], q.isHeld = true)
    ∧ (∀ r ∈ State.reset.queue, r.isHeld = true) :=
  ⟨rfl, rfl, evening_ordersEngaged, evening_queueSound, by decide⟩

theorem test_meets_SoftResetKeepsAndSets : (giving evening .fleet .resetDevice).handed .fleet .resetDevice := rfl

/-- The reset state, whose clock is not valid; the evening without a shortfall and without departures, whose clock is
valid, with an ACTIVE and a HELD request. -/
theorem test_meets_SecondAdvancesCounts :
    let s : State := { evening with
      queue := [{ request1 with current := 270 }, request2]
      roster := evening.roster.map ({ · with departure := none }) }
    State.reset.clockValid = false ∧ (∀ r ∈ State.reset.queue, r.isActive = true → r.current ≤ targetSum r.list)
    ∧ s.queueSound ∧ s.clockValid = true ∧ (∀ b v, s.linkedVehicle? b = some v → v.departure = none)
    ∧ (∀ r ∈ s.queue, r.isActive = true → r.current ≤ targetSum r.list) := by
  intro s
  refine ⟨rfl, by decide, ⟨by decide, by decide, by decide⟩, rfl, fun b v h => ?_, by decide⟩
  have all : ∀ b, (s.linkedVehicle? b).all (fun v => v.departure == none) = true := by decide +kernel
  simpa [h] using all b

/-- The last second at which the test is made; a bay outside the eligible set and none. -/
theorem test_meets_NewlyEligibleBayResplits :
    let r (found : List BayNo) : Request := { request1 with state := .active 2 found }
    let s (found : List BayNo) : State := { evening with queue := [r found, request2] }
    let terms : Terms := ⟨1, ⟨50, 60, [⟨1200, 40⟩]⟩, 300, 1, 1, true⟩
    (s []).queueSound ∧ (s []).ordersPlaced ∧ r [] ∈ (s []).queue ∧ 1 < 2
    ∧ targetSum request1.list < request1.current ∧ (s []).advanceTimers.eligible terms 1 = true
    ∧ ∀ b, b ∉ allBays → (s allBays).advanceTimers.eligible terms b = false :=
  ⟨⟨by decide, by decide, by decide⟩, evening_ordersPlaced, by decide, by decide, by decide, by decide +kernel,
    by decide⟩

/-- The evening with a departure at 18:15:00 of the vehicle on a bay, no shortfall, and a clock. -/
def leaving (number clock : Nat) : State :=
  { evening with
    clock := clock, queue := [{ request1 with current := 270 }, request2]
    roster := evening.roster.map fun v => if v.number = number then { v with departure := some ⟨1095, 1000⟩ } else v }

/-- Times to departure of 901 and 900; bays in BOUND, TRANSFER and PARKED; a guard armed and disarmed. -/
theorem test_meets_DepartureGuardActs :
    (∀ n c, (leaving n c).clockValid = true) ∧ State.reset.clockValid = false ∧ (∀ n c, ∀ r ∈ (leaving n c).queue, r.isActive = true →
      r.current ≤ targetSum r.list)
    ∧ ((1095 : Int) * 60 - (leaving 2 64798).advanceTimers.clock) % 86400 = 901
    ∧ ((1095 : Int) * 60 - (leaving 2 64799).advanceTimers.clock) % 86400 = 900
    ∧ (leaving 2 0).linkedVehicle? 1 = some (van 2 (some ⟨1095, 1000⟩) (some 1)) ∧ ((leaving 2 0).bay 1).guardArmed = true
    ∧ (leaving 1 0).linkedVehicle? 0 = some (van 1 (some ⟨1095, 1000⟩) (some 0)) ∧ (leaving 1 0).order 0 = some running
    ∧ (leaving 3 0).linkedVehicle? 2 = some (van 3 (some ⟨1095, 1000⟩) (some 2)) ∧ ((leaving 3 0).bay 2).state.engaged = false
    ∧ (({ leaving 3 0 with bays := (leaving 3 0).bays.set 2 { plugged .parked 3 30000 200 with guardArmed := false } }).bay
        2).guardArmed = false
    ∧ evening.linkedVehicle? 9 = none := by
  refine ⟨fun _ _ => rfl, rfl, ?_, by decide +kernel⟩
  intro n c
  show ∀ r ∈ [{ request1 with current := 270 }, request2], r.isActive = true → r.current ≤ targetSum r.list
  decide

/-- Intervals of 899, 900, 1799 and 1800 s; a settle timer and a cooldown timer that have expired and that have not. -/
theorem test_meets_BayTimersExpire :
    let with' (b : BayNo) (f : BayRecord → BayRecord) : State := evening.modBay b f
    ((with' 1 fun r => { r with interval := 899 }).bay 1).interval < 900
    ∧ 900 ≤ (evening.bay 1).interval ∧ (evening.bay 1).checkDue = false ∧ (evening.bay 1).state = .bound
    ∧ (evening.bay 1).settleTimer ≠ none ∧ ((with' 1 fun r => { r with settleTimer := none }).bay 1).settleTimer = none
    ∧ 1800 ≤ (evening.bay 0).interval ∧ (evening.bay 0).checkDue = false ∧ (evening.bay 0).state = .transfer
    ∧ evening.order 0 = some running ∧ running.phase ≠ .waitBind
    ∧ ((with' 0 fun r => { r with interval := 1799 }).bay 0).interval < 1800
    ∧ (evening.bay 1).settleTimer = some 0 ∧ evening.order 1 = some waiting ∧ waiting.phase = .waitBind
    ∧ ((with' 4 fun r => { r with settleTimer := some 0 }).bay 4).settleTimer = some 0 ∧ evening.order 4 = none
    ∧ (evening.bay 2).settleTimer ≠ some 0
    ∧ (evening.bay 6).state = .cooldown ∧ (evening.bay 6).stateTimer = some 0 ∧ (evening.bay 2).state ≠ .cooldown := by
  decide

theorem test_meets_TimerFaultsEnter :
    (evening.bay 3).state = .binding ∧ (evening.bay 3).stateTimer = some 0 ∧ (evening.bay 4).state = .checking
    ∧ (evening.bay 4).stateTimer = some 0 ∧ (evening.bay 0).state ≠ .binding ∧ (evening.bay 0).state ≠ .checking := by
  decide

/-- An expired release in RELEASING, in FAULT with three and four later causes, and in OUT_OF_SERVICE with the flag clear
and set and with an open record that holds the kind and that does not;
an expired hold whose exit test passes and one whose bay misses. -/
theorem test_meets_ReleaseAndHoldExpire :
    let late := evening.setFaultSet 7 ⟨⟨.opened, some .bayReported, [.overTemp, .tracking, .linkLost], 0, 0⟩, [], some 0, 0, false⟩
    (evening.bay 0).releasePending = false
    ∧ (evening.bay 5).releasePending = true ∧ (evening.bay 5).releaseTimer = some 0 ∧ (evening.bay 5).state = .releasing
    ∧ (late.bay 7).releasePending = true ∧ (late.bay 7).releaseTimer = some 0 ∧ (late.bay 7).state = .fault
    ∧ (late.faultSet 7).record.later.length < 4 ∧ (late.faultSet 7).record.holds .releaseTimeout = false
    ∧ 4 ≤ ([.overTemp, .tracking, .linkLost, .isolation] : List FaultKind).length
    ∧ (⟨.opened, some .linkLost, [], 0, 0⟩ : FaultRecord).fresh [.releaseTimeout] = [.releaseTimeout]
    ∧ (⟨.opened, some .linkLost, [.releaseTimeout], 0, 0⟩ : FaultRecord).fresh [.releaseTimeout] = []
    ∧ (evening.bay 11).releasePending = true ∧ (evening.bay 11).releaseTimer = some 0
    ∧ (evening.bay 11).state = .outOfService ∧ (evening.faultSet 11).releaseTimedOut = false
    ∧ (evening.faultSet 11).record.status ≠ .opened
    ∧ ((evening.setFaultSet 11 ⟨.cleared, [], none, 0, true⟩).faultSet 11).releaseTimedOut = true
    ∧ (evening.faultSet 0).hold ≠ some 0 ∧ (evening.faultSet 7).hold = some 0 ∧ (evening.line 7).miss = 0
    ∧ (evening.bay 7).tele.temp < evening.site.thz ∧ (evening.bay 7).tele.faultCode = 0
    ∧ (evening.bay 7).tele.contactorClosed = false ∧ (evening.faultSet 7).record.status = .opened
    ∧ ((evening.setLine 7 ⟨0, 1, 0, false, false⟩).line 7).miss ≠ 0 := by
  decide

/-- Countdowns of 61 and 60 with a lead of 60, and a request that is ACTIVE. -/
theorem test_meets_ActivationSplitsGrant :
    let s (countdown : Nat) : State := { noDepartures with
      orders := Vector.replicate 16 none, queue := [{ request2 with state := .held countdown, length := 60, submitted := 300 }] }
    (s 60).queueSound ∧ (s 60).ordersEngaged ∧ (∃ r ∈ evening.queue, r.isActive = true)
    ∧ (∀ r ∈ (s 61).queue, ∀ countdown, r.state = .held countdown → ((s 61).profileAt r.profile).lead < countdown)
    ∧ (s 60).queue = [] ++ { request2 with state := .held 60, length := 60, submitted := 300 } :: [] ∧ 60 ≤ ((s 60).profileAt 0).lead
    ∧ (∀ q ∈ (s 60).queue, q.isActive = false)
    ∧ ((s 60).evaluate ⟨2, ⟨50, 60, [⟨1200, 40⟩]⟩, 300, 120, 120, false⟩).list = [⟨1, 200, 24000⟩, ⟨2, 100, 12000⟩] := by
  refine ⟨⟨by decide, by decide, by decide⟩, ordersEngaged_of_test (by decide +kernel), by decide, ?_, rfl, by decide,
    by decide, by decide +kernel⟩
  intro r hr countdown h
  have hr' : r = { request2 with state := .held 61, length := 60, submitted := 300 } := by simpa using hr
  subst hr'
  cases h
  decide

/-- The evening with an order on bay 0. -/
def ordered (o : Order) : State := evening.setOrder 0 (some o)

/-- Quotas that just pay for a step and its decline and that miss it by one, a level below the floor, at it, and above
the target; declines at the floor, one step above it and two; an expired cut timer. -/
theorem test_meets_OrderStepsByPhase :
    let p : Profile := ⟨50, 60, [⟨1200, 40⟩]⟩
    (∀ o, (ordered o).order 0 = some o) ∧ (∀ o, ((ordered o).bay 0).state = .transfer)
    ∧ (∀ o, o.request = 1 → (ordered o).profileOf o.request = p)
    ∧ 140 + p.declineEnergy 140 = 350 ∧ 100 + p.declineEnergy 100 = 210 ∧ ¬ 140 + p.declineEnergy 140 ≤ 349
    ∧ ¬ 100 + p.declineEnergy 100 ≤ 209 ∧ (49 : Nat) < p.ps ∧ p.ps ≤ 50 ∧ p.ps < 51
    ∧ max p.ps (90 - p.stepSize 90) = p.ps ∧ max p.ps (91 - p.stepSize 91) ≠ p.ps
    ∧ running.stepDue = true ∧ running.cutTimer = some 0 ∧ waiting.stepDue = false ∧ waiting.cutTimer ≠ some 0 := by
  refine ⟨fun o => by simp [ordered, State.order, State.setOrder], fun o => rfl, ?_, by decide +kernel⟩
  intro o ho
  rw [ho]
  rfl

/-- A notice of no request; of the ACTIVE one with cause WINDOW_END, with a bay transition and with neither; of an ENDING
one whose order still runs and whose last order ended. -/
theorem test_meets_OrderEndNoticeTaken :
    let notice (id : Nat) (cause : EndCause) (m : Bool) : Notice := .orderEnd id 0 (some cause) 500 m
    let s (id : Nat) (cause : EndCause) (m : Bool) : State := { evening with notices := [notice id cause m] }
    let ending := { request1 with state := .ending .curtail }
    let last : State := { State.reset with queue := [ending], notices := [notice 1 .curtail false] }
    (∀ id cause m, (s id cause m).notices = notice id cause m :: [] ∧ (s id cause m).queueSound
      ∧ (s id cause m).ordersPlaced)
    ∧ (∀ r ∈ evening.queue, r.id ≠ 3) ∧ request1 ∈ evening.queue ∧ request1.state = .active 600 [0, 1, 3]
    ∧ request2 ∈ evening.queue ∧ request2.state = .held 2000 ∧ request2.id ≠ 1
    ∧ some EndCause.quota ≠ some .windowEnd ∧ some EndCause.quota ≠ some .curtail
    ∧ (∃ b' o, evening.order b' = some o ∧ o.request = 1) ∧ { evening with queue := [ending] }.queueSound
    ∧ ending.state = .ending .curtail
    ∧ last.notices = notice 1 .curtail false :: [] ∧ last.queueSound ∧ last.ordersPlaced
    ∧ (¬ ∃ b' c e m, Notice.orderEnd 1 b' c e m ∈ ([] : List Notice))
    ∧ ¬ ∃ b' o, last.order b' = some o ∧ o.request = 1 := by
  refine ⟨fun _ _ _ => ⟨rfl, evening_queueSound, evening_ordersPlaced⟩, by decide, by decide, rfl, by decide, rfl, by decide,
    by decide, by decide, ⟨0, running, by decide, by decide⟩, ⟨by decide, by decide, by decide⟩, rfl, rfl, ⟨by decide, by decide, by decide⟩,
    ordersPlaced_of_test (by decide +kernel), nofun, ?_⟩
  rintro ⟨b, o, h, -⟩
  simp [State.order, State.reset] at h

/-- A HELD request in front, behind an ACTIVE and a HELD one, and an ACTIVE one. -/
theorem test_meets_ChangeNoticeReviewsAndResplits :
    let s (queue : List Request) : State := { evening with notices := [.change .site], queue := queue }
    (∀ q, (s q).notices = .change .site :: [] ∧ (s q).ordersPlaced) ∧ (s [request2]).queueSound
    ∧ (s [request2]).queue = [] ++ request2 :: [] ∧ request2.state = .held 2000
    ∧ (∀ r ∈ (s [request2]).queue, r.isActive = false)
    ∧ (s [request1, request2, { request2 with id := 3 }]).queueSound
    ∧ (s [request1, request2, { request2 with id := 3 }]).queue = [request1, request2] ++ { request2 with id := 3 } :: []
    ∧ request1.state = .active 600 [0, 1, 3] := by
  refine ⟨fun _ => ⟨rfl, evening_ordersPlaced⟩, ⟨by decide, by decide, by decide⟩, rfl, rfl, by decide, ⟨by decide,
    by decide, by decide⟩, rfl, rfl⟩

/-- The first level of a band and the last level of the one below; the floor, one above it, and 1200; the recharge of
0 s, and a window end one second after the departure. -/
theorem test_meets_RampAndReserveArithmetic :
    let bands : List Band := [⟨200, 20⟩, ⟨900, 60⟩, ⟨1200, 20⟩]
    bands = [] ++ ⟨200, 20⟩ :: bands.drop 1 ∧ 199 < 200 ∧ bands = bands.take 1 ++ ⟨900, 60⟩ :: bands.drop 2
    ∧ (∀ x ∈ bands.take 1, x.bound ≤ 200) ∧ bands = bands.take 2 ++ ⟨1200, 20⟩ :: []
    ∧ (⟨50, 60, bands⟩ : Profile).valid = true
    ∧ (van 3 (some ⟨1095, 20000⟩) none).departure = some ⟨1095, 20000⟩
    ∧ ((900 : Nat) : Int) = ((1095 : Int) * 60 - ((64800 : Nat) : Int)) % 86400 ∧ 900 ≤ 900 ∧ 900 < 901
    ∧ (van 3 (some ⟨1095, 20000⟩) none).floor ≤ (van 3 (some ⟨1095, 20000⟩) none).capacity
    ∧ 20000 ≤ (van 3 (some ⟨1095, 20000⟩) none).capacity ∧ (van 1 none none).departure = none := by decide

theorem test_meets_PollsJoinAndStart :
    (State.reset.line 0).periodDue = false ∧ ((State.reset.setLine 0 ⟨0, 0, 30, false, true⟩).line 0).periodDue = true
    ∧ { State.reset with pollQueue := [] }.pollQueue = [] ∧ State.reset.exchange = none
    ∧ State.reset.pollQueue = 0 :: allBays.drop 1
    ∧ { State.reset with exchange := some ⟨15, 1, 0, [], false⟩ }.exchange = some ⟨15, 1, 0, [], false⟩
    ∧ (⟨15, 1, 0, [0xC3], false⟩ : Exchange).frame[0]? = some 0xC3 ∧ 10 * [(0xC3 : Byte)].length ≤ 10 := by decide

/-- The lower byte of a set-point of 200, and the address byte 0x57 of the poll of 10.5, on BL_TX. -/
theorem test_line_bits :
    lineBits 0xC8 = [.start, .data false, .data false, .data false, .data true, .data false, .data false, .data true,
      .data true, .stop]
    ∧ { State.reset with exchange := some ⟨5, 7, 200, [0xC3, 0x57], false⟩ }.blTx 11 = some (.data true)
    ∧ { State.reset with exchange := some ⟨5, 7, 200, [0xC3, 0x57], false⟩ }.blTx 14 = some (.data false)
    ∧ { State.reset with exchange := some ⟨5, 7, 200, [0xC3, 0x57], true⟩ }.blTx 11 = none := by decide

/-- The evening listening to bay `b`. -/
def listening (b : BayNo) : State := { evening with exchange := some ⟨b, 3, 100, [], true⟩ }

/-- A reply of a bay: the bay, the status, the fault code and the vehicle number; measured power 10 kW. -/
def reply (x : BayNo × Nat × Nat × Nat) : List Byte :=
  let body := le1 (16 * x.1.val + 3) ++ le1 x.2.1 ++ le1 x.2.2.1 ++ le2 x.2.2.2 ++ le2 100 ++ le3 30000 ++ le1 120 ++ [0, 0]
  body ++ [crc8 body]

/-- Replies of an EMPTY bay, of a DETECTED bay with the same and another number, of a bus gone (from FAULT with an open record
too) and changed, and of the bus that stands in BINDING, CHECKING, RELEASING and OUT_OF_SERVICE. -/
def replies : List (BayNo × Nat × Nat × Nat) :=
  [(15, 128, 0, 20), (9, 0, 0, 11), (9, 128, 0, 11), (9, 128, 0, 20), (2, 0, 0, 3), (0, 128, 0, 20), (3, 224, 0, 4),
    (3, 128, 0, 4), (4, 144, 0, 5), (4, 136, 0, 5), (4, 152, 0, 5), (5, 128, 0, 6), (5, 192, 0, 6), (8, 128, 0, 20),
    (11, 128, 0, 12), (7, 0, 0, 8)]

/-- Replies of a BOUND bus with a fault code, of a PARKED one, of one in TRANSFER, and of one in FAULT; replies with a fault
code that complete a bind, fail a check, leave a release pending and end it, confirm a plug, or find the bay in FAULT and
OUT_OF_SERVICE; replies with the contactor closed of a bus in FAULT and of an unlinked one in TRANSFER. -/
def checkedReplies : List (BayNo × Nat × Nat × Nat) :=
  [(1, 128, 1, 2), (2, 128, 0, 3), (0, 192, 0, 1), (7, 128, 0, 8), (3, 224, 1, 4), (4, 152, 1, 5), (5, 192, 1, 6),
    (5, 128, 1, 6), (9, 128, 1, 11), (7, 128, 1, 8), (8, 128, 1, 9), (7, 192, 0, 8), (12, 192, 0, 13)]

theorem replies_whole : ∀ x ∈ replies ++ checkedReplies, (reply x).length = 14
    ∧ crc8 ((reply x).take 13) = byteAt (reply x) 13
    ∧ (byteAt (reply x) 0).toNat = 16 * x.1.val + (3 : BitVec 4).toNat := by decide +kernel

theorem test_meets_ValidReplyMovesBay :
    (∀ b, (listening b).linksAgree)
    ∧ (∀ x ∈ replies, (listening x.1).validReply ⟨x.1, 3, 100, [], true⟩ (reply x))
    ∧ (evening.bay 15).state = .empty ∧ (evening.bay 9).candidate = some 11 ∧ (evening.bay 3).state = .binding
    ∧ (evening.bay 4).state = .checking ∧ (evening.bay 5).state = .releasing ∧ (evening.bay 11).state = .outOfService
    ∧ (evening.bay 7).state = .fault ∧ (evening.faultSet 7).record.status = .opened :=
  ⟨fun _ => evening_linksAgree, fun x h => ⟨rfl, rfl, replies_whole x (List.mem_append_left _ h)⟩, by decide⟩

/-- Replies to the set-points 100, 80 and 79: the measured 100 leaves the last by more than 20; counts of 3 and 4; a
FAULT bay whose hold has expired, one whose hold stands at 0, one with its contactor closed, one at a Thz of 20 °C; a
release pending and none; an order in DECLINE on a bay without a link. -/
theorem test_meets_ValidReplyChecksAndGuards :
    (∀ x ∈ checkedReplies, ∀ sp,
      { evening with exchange := some ⟨x.1, 3, sp, [], true⟩ }.validReply ⟨x.1, 3, sp, [], true⟩ (reply x))
    ∧ (∀ x ∈ checkedReplies, (byteAt (reply x) 1).getLsbD 7 = true
      ∧ (wordAt (reply x) 3).toNat = (evening.bay x.1).link.getD (evening.bay x.1).tele.vehicle)
    ∧ max 20 (79 / 10) < ((100 : Int) - 79).natAbs ∧ ¬ max 20 (80 / 10) < ((100 : Int) - 80).natAbs
    ∧ evening.policy.detectTracking = true ∧ 4 ≤ ((evening.setFaultSet 0 ⟨.cleared, [], none, 4, false⟩).faultSet 0).tracking
    ∧ (evening.faultSet 0).tracking < 4
    ∧ evening.order 0 = some running ∧ evening.linkedVehicle? 0 = some (van 1 none (some 0))
    ∧ evening.request? running.request = some request1 ∧ request1.state = .active 600 [0, 1, 3]
    ∧ ((evening.setFaultSet 7 ⟨.cleared, [], none, 0, false⟩).faultSet 7).hold = none
    ∧ (evening.bay 7).state = .fault ∧ (evening.bay 9).candidate = some 11
    ∧ (evening.faultSet 7).record.fresh [.bayReported] = []
    ∧ (⟨.opened, some .linkLost, [], 0, 0⟩ : FaultRecord).fresh [.bayReported] = [.bayReported]
    ∧ (evening.bay 8).state = .outOfService ∧ (evening.faultSet 8).record.status ≠ .opened
    ∧ (evening.faultSet 7).hold ≠ none ∧ (byteAt (reply (7, 192, 0, 8)) 1).getLsbD 6 = true
    ∧ (byteAt (reply (7, 128, 0, 8)) 1).getLsbD 6 = false
    ∧ min 170 ((byteAt (reply (7, 128, 0, 8)) 10).toNat - 80 : Int) = 40
    ∧ { evening with site := { evening.site with thz := 40 } }.site.thz ≤ 40 ∧ evening.siteValid = true
    ∧ (evening.bay 7).releasePending = true ∧ (evening.bay 8).releasePending = false
    ∧ (evening.bay 12).state = .transfer ∧ evening.linkedVehicle? 12 = none
    ∧ evening.order 12 = some { running with level := 50, phase := .decline }
    ∧ (∀ q, evening.request? 9 = some q → q.isActive = false) :=
  ⟨fun x h _ => ⟨rfl, rfl, replies_whole x (List.mem_append_right _ h)⟩, by decide +kernel, by decide⟩

/-- Second and third misses, of a detecting bay, of an EMPTY one, of one in FAULT and of one in OUT_OF_SERVICE; a frame with a broken stop bit; no exchange. -/
theorem test_meets_MissesCountToLinkLost :
    let s (b : BayNo) (miss : Nat) : State := (listening b).setLine b ⟨3, miss, 0, false, false⟩
    (∀ b n, (s b n).exchange = some ⟨b, 3, 100, [], true⟩) ∧ ((s 2 1).line 2).miss ≠ 2 ∧ ((s 15 2).bay 15).state = .empty
    ∧ ((s 2 2).line 2).miss = 2 ∧ ((s 2 2).bay 2).state = .parked ∧ (List.replicate 14 (0 : Byte)).length = 14
    ∧ crc8 ((List.replicate 14 0).take 13) ≠ byteAt (List.replicate 14 0) 13
    ∧ ((s 7 2).bay 7).state = .fault ∧ ((s 7 2).faultSet 7).record.fresh [.linkLost] ≠ []
    ∧ (⟨.opened, some .linkLost, [], 0, 0⟩ : FaultRecord).fresh [.linkLost] = []
    ∧ ((s 8 2).bay 8).state = .outOfService ∧ ((s 8 2).faultSet 8).record.status ≠ .opened
    ∧ ∀ x, evening.exchange = some x → x.listening = false := by
  refine ⟨fun _ _ => rfl, by decide, by decide, by decide, by decide, by decide, by decide +kernel, by decide, by decide,
    by decide, by decide, by decide, nofun⟩

/-! The invariants hold in the evening and after a step of it. -/

theorem test_meets_SetPointsStayWithinLimits : evening.withinSiteLimit ∧ evening.withinQuotas
    ∧ ∃ t, step { evening with pending := [.orderStep 0] } = .next t := by
  refine ⟨by unfold State.withinSiteLimit; decide +kernel, ?_, _, rfl⟩
  have h : ∀ b, ((evening.order b).all fun o => decide (o.delivered ≤ o.quota ∧ o.quota ≤ Config.energyMax)) = true := by
    decide +kernel
  intro b o ho
  simpa [ho] using h b

theorem test_meets_LinksStayPaired : evening.linksAgree ∧ ∃ t, step { evening with pending := [.cooldownExpiry 6] } = .next t :=
  ⟨evening_linksAgree, _, rfl⟩

theorem test_meets_QueueStaysSound : evening.queueSound ∧ evening.idleOutsideRun
    ∧ ∃ t, step { evening with pending := [.windowEnd] } = .next t := ⟨evening_queueSound, fun h => absurd rfl h, _, rfl⟩

theorem test_meets_OrdersStayOnEngagedBays : evening.ordersPlaced
    ∧ ∃ t, step { evening with pending := [.settleExpiry 1] } = .next t := ⟨evening_ordersPlaced, _, rfl⟩

theorem test_meets_ControlsStaySound : evening.pollQueueSound ∧ evening.controlsSound
    ∧ ∃ t, step { evening with pending := [.pollStart] } = .next t :=
  ⟨⟨by decide, by decide⟩, ⟨by decide, by decide, by decide, by decide⟩, _, rfl⟩

end Sys2Proof.Tests
end

section
/-! SUPPORT. ENROLL VEHICLE and SET DEPARTURE (01_vehicle_roster.md): one equation for each outcome of either command,
and from them the statements O28 and O31. -/

namespace Sys2Proof.Machine

/-! ### Fields -/

theorem badNumber_toNat (n : BitVec 16) : badNumber n.toNat = true ↔ n = 0 ∨ n = 65535 := by
  simp [badNumber, BitVec.toNat_eq]

theorem isSome_yesNo? (x : Byte) : (yesNo? x).isSome = true ↔ x = 0 ∨ x = 1 := by
  unfold yesNo?
  split_ifs <;> simp_all

theorem toNat_eq_one (x : Byte) : x.toNat = 1 ↔ x = 1 := by
  simp [BitVec.toNat_eq]

/-! ### ENROLL VEHICLE -/

theorem exec_enrollVehicle (number : BitVec 16) (capacity floor : BitVec 24) (pChg pDis : BitVec 16) (consent : Byte)
    (s : State) : exec (.enrollVehicle number capacity floor pChg pDis consent) s
      = carryOut .fleet (.enrollVehicle number capacity floor pChg pDis consent)
        (enrollVehicle number.toNat capacity.toNat floor.toNat pChg.toNat pDis.toNat consent) s := rfl

/-- Checks 1 to 5 of R4 in terms of the command's fields. -/
theorem enrollInRange_iff (number : BitVec 16) (capacity floor : BitVec 24) (pChg pDis : BitVec 16) (consent : Byte) :
    enrollInRange number.toNat capacity.toNat floor.toNat pChg.toNat pDis.toNat consent = true ↔
      number ≠ 0 ∧ number ≠ 65535 ∧ capacity ≠ 0 ∧ floor.toNat ≤ capacity.toNat ∧ pChg.toNat ≤ 1200
        ∧ pDis.toNat ≤ 1200 ∧ (consent = 0 ∨ consent = 1) := by
  have hnumber : (!badNumber number.toNat) = true ↔ number ≠ 0 ∧ number ≠ 65535 := by
    rw [Bool.not_eq_true', ← Bool.not_eq_true, badNumber_toNat, not_or]
  have hcapacity : (capacity.toNat != 0) = true ↔ capacity ≠ 0 := by
    simp [BitVec.toNat_eq]
  simp only [enrollInRange, Bool.and_eq_true, hnumber, hcapacity, isSome_yesNo?, decide_eq_true_eq, and_assoc]

/-- Check 6 of R4. -/
theorem Vehicle.exceeds_iff (v : Vehicle) (capacity : Nat) :
    v.exceeds capacity = true ↔ ∃ d, v.departure = some d ∧ capacity < d.qDep := by
  unfold Vehicle.exceeds
  split
  case h_1 d hd => simp [hd]
  case h_2 hd => simp [hd]

section Enroll

variable {number capacity floor pChg pDis : Nat} {consent : Byte} {s : State}

theorem enrollVehicle_outOfRange (h : ¬enrollInRange number capacity floor pChg pDis consent = true) :
    enrollVehicle number capacity floor pChg pDis consent s = .error .range := by
  simp [enrollVehicle, h]

theorem enrollVehicle_exceeds {old : Vehicle} (h : enrollInRange number capacity floor pChg pDis consent = true)
    (hv : s.vehicle? number = some old) (ha : old.exceeds capacity = true) :
    enrollVehicle number capacity floor pChg pDis consent s = .error .range := by
  simp [enrollVehicle, h, hv, ha]

theorem enrollVehicle_full (h : enrollInRange number capacity floor pChg pDis consent = true)
    (hv : s.vehicle? number = none) (hl : 48 ≤ s.roster.length) :
    enrollVehicle number capacity floor pChg pDis consent s = .error .rosterFull := by
  simp [enrollVehicle, h, hv, hl]

/-- A present number is replaced in place (R6). -/
theorem enrollVehicle_present {old : Vehicle} (h : enrollInRange number capacity floor pChg pDis consent = true)
    (hv : s.vehicle? number = some old) (ha : ¬old.exceeds capacity = true) :
    enrollVehicle number capacity floor pChg pDis consent s =
      withReply (s.replaceVehicle old capacity floor pChg pDis (consent == 1)) fun t =>
        le1 (s.position number) ++ le1 1 ++ le1 (bayCode (t.linkOf number)) := by
  simp [enrollVehicle, h, hv, ha]

/-- A new number is appended (R5). -/
theorem enrollVehicle_absent (h : enrollInRange number capacity floor pChg pDis consent = true)
    (hv : s.vehicle? number = none) (hl : ¬48 ≤ s.roster.length) :
    enrollVehicle number capacity floor pChg pDis consent s =
      withReply (s.appendVehicle ⟨number, capacity, floor, pChg, pDis, consent == 1, none, none⟩) fun t =>
        le1 s.roster.length ++ le1 0 ++ le1 (bayCode (t.linkOf number)) := by
  simp [enrollVehicle, h, hv, hl]

end Enroll

/-! ### SET DEPARTURE -/

theorem exec_setDeparture (number : BitVec 16) (form : Byte) (minute : BitVec 16) (qDep : BitVec 24) (s : State) :
    exec (.setDeparture number form minute qDep) s
      = carryOut .fleet (.setDeparture number form minute qDep)
        (setDeparture number.toNat form.toNat minute.toNat qDep.toNat) s := rfl

/-- The checks of R9 that need no record fail: the number, the form, the minute of a departure. -/
def departureOutOfRange (number form minute : Nat) : Prop :=
  (badNumber number = true ∨ 1 < form) ∨ (form = 1 ∧ 1439 < minute)

theorem departureOutOfRange_iff (number : BitVec 16) (form : Byte) (minute : BitVec 16) :
    departureOutOfRange number.toNat form.toNat minute.toNat ↔
      number = 0 ∨ number = 65535 ∨ 1 < form.toNat ∨ (form = 1 ∧ 1439 < minute.toNat) := by
  simp only [departureOutOfRange, badNumber_toNat, toNat_eq_one, or_assoc]

/-- The departure that the two forms of SET DEPARTURE give a record (R9). -/
def departureOfForm (form minute qDep : Nat) : Option Departure := if form = 1 then some ⟨minute, qDep⟩ else none

theorem departureOfForm_toNat (form : Byte) (minute qDep : Nat) :
    departureOfForm form.toNat minute qDep = if form = 1 then some ⟨minute, qDep⟩ else none := by
  simp only [departureOfForm, toNat_eq_one]

theorem State.bay_rearm (s : State) (link : Option BayNo) (b : BayNo) :
    (s.rearm link).bay b = if link = some b then { s.bay b with guardArmed := true } else s.bay b := by
  cases link with
  | none => rfl
  | some c =>
    by_cases hc : c = b
    · subst hc
      simp [State.rearm]
    · rw [if_neg (by simpa using hc)]
      exact s.bay_modBay_ne _ (Ne.symm hc)

theorem State.rearm_frame (s : State) (link : Option BayNo) : s.sameBut (s.rearm link) [.bays] := by
  cases link with
  | none => exact s.sameBut_refl _
  | some b => exact s.modBay_frame b _

/-- The state an accepted SET DEPARTURE leaves: departure, guard of the linked bay, notice (R9, R10, R13). -/
def State.withDeparture (s : State) (number : Nat) (departure : Option Departure) (link : Option BayNo) : State :=
  ((s.modVehicle number fun v => { v with departure := departure }).rearm link).hand (.change .roster)

section WithDeparture

variable (s : State) (number : Nat) (departure : Option Departure) (link : Option BayNo)

theorem State.roster_withDeparture : (s.withDeparture number departure link).roster =
    s.roster.map fun w => if w.number = number then { w with departure := departure } else w := by
  have hr := (State.rearm_frame (s.modVehicle number fun v => { v with departure := departure }) link).roster (by simp)
  simpa [State.withDeparture] using hr

theorem State.bay_withDeparture (b : BayNo) : (s.withDeparture number departure link).bay b =
    if link = some b then { s.bay b with guardArmed := true } else s.bay b := by
  simp [State.withDeparture, State.bay_rearm]

theorem State.notices_withDeparture :
    (s.withDeparture number departure link).notices = s.notices ++ [.change .roster] := by
  have hn := (State.rearm_frame (s.modVehicle number fun v => { v with departure := departure }) link).notices (by simp)
  simpa [State.withDeparture] using hn

theorem State.withDeparture_frame :
    s.sameBut (s.withDeparture number departure link) [.roster, .bays, .notices] :=
  (((s.modVehicle_frame number _).mono (by simp)).then (State.rearm_frame _ link) (by simp)).then
    (State.hand_frame _ _) (by simp)

end WithDeparture

section Departure

variable {number form minute qDep : Nat} {s : State} {v : Vehicle}

theorem setDeparture_outOfRange (h : departureOutOfRange number form minute) :
    setDeparture number form minute qDep s = .error .range := by
  unfold setDeparture
  rcases h with h | h
  · rw [if_pos h]
  · split_ifs <;> rfl

theorem setDeparture_absent (h : ¬departureOutOfRange number form minute) (hv : s.vehicle? number = none) :
    setDeparture number form minute qDep s = .error .noSuchVehicle := by
  obtain ⟨hfields, hminute⟩ := not_or.mp h
  simp only [setDeparture, if_neg hfields, if_neg hminute, hv]

theorem setDeparture_aboveCapacity (h : ¬departureOutOfRange number form minute) (hv : s.vehicle? number = some v)
    (hq : form = 1 ∧ v.capacity < qDep) : setDeparture number form minute qDep s = .error .range := by
  obtain ⟨hfields, hminute⟩ := not_or.mp h
  simp only [setDeparture, if_neg hfields, if_neg hminute, hv, if_pos hq]

theorem setDeparture_accepted (h : ¬departureOutOfRange number form minute) (hv : s.vehicle? number = some v)
    (hq : ¬(form = 1 ∧ v.capacity < qDep)) :
    setDeparture number form minute qDep s =
      .ok (s.withDeparture number (departureOfForm form minute qDep) v.bayLink,
        le2 number ++ le1 (bayCode v.bayLink)) := by
  obtain ⟨hfields, hminute⟩ := not_or.mp h
  simp only [setDeparture, if_neg hfields, if_neg hminute, hv, if_neg hq]
  rfl

end Departure

end Sys2Proof.Machine

namespace Sys2Proof.Proofs

open Sys2Proof.Machine

/-- Settles O28: each check that fails, in the order of R4, picks the outcome. -/
theorem enrollChecksInOrder : Obligations.EnrollChecksInOrder := by
  unfold Obligations.EnrollChecksInOrder
  intro number capacity floor pChg pDis consent s c hc fields above full
  have hfields : enrollInRange number.toNat capacity.toNat floor.toNat pChg.toNat pDis.toNat consent = true ↔ fields :=
    enrollInRange_iff number capacity floor pChg pDis consent
  have refuses {r : ResultCode}
      (hr : enrollVehicle number.toNat capacity.toNat floor.toNat pChg.toNat pDis.toNat consent s = .error r) :
      exec c s = .next (s.answer .fleet [r.code]) :=
    (exec_enrollVehicle ..).trans (carryOut_error hc hr)
  refine ⟨fun hbad => ?_, fun hok habove => ?_, fun hok _ ⟨hv, hl⟩ => ?_, fun hok hnot hroom => ?_⟩
  · exact refuses (enrollVehicle_outOfRange (mt hfields.mp hbad))
  · obtain ⟨v, d, hv, hd, hq⟩ := habove
    exact refuses (enrollVehicle_exceeds (hfields.mpr hok) hv ((v.exceeds_iff _).mpr ⟨d, hd, hq⟩))
  · exact refuses (enrollVehicle_full (hfields.mpr hok) hv hl)
  · cases hv : s.vehicle? number.toNat with
    | some v =>
      have hexceeds : ¬v.exceeds capacity.toNat = true := fun he =>
        have ⟨d, hd, hq⟩ := (v.exceeds_iff _).mp he
        hnot ⟨v, d, hv, hd, hq⟩
      exact ⟨_, _, (exec_enrollVehicle ..).trans <| carryOut_ok hc <|
        enrollVehicle_present (hfields.mpr hok) hv hexceeds⟩
    | none =>
      exact ⟨_, _, (exec_enrollVehicle ..).trans <| carryOut_ok hc <|
        enrollVehicle_absent (hfields.mpr hok) hv fun hl => hroom ⟨hv, hl⟩⟩

/-- Settles O31: each check that fails, in the order of R9, picks the refusal; past them the state is
`State.withDeparture`. -/
theorem departureSetAndRearmed : Obligations.DepartureSetAndRearmed := by
  unfold Obligations.DepartureSetAndRearmed
  intro number form minute qDep s c hc refused bad
  have hbad : departureOutOfRange number.toNat form.toNat minute.toNat ↔ bad :=
    departureOutOfRange_iff number form minute
  have refuses {r : ResultCode} (hr : setDeparture number.toNat form.toNat minute.toNat qDep.toNat s = .error r) :
      refused r.code := (exec_setDeparture ..).trans (carryOut_error hc hr)
  refine ⟨fun h => refuses (setDeparture_outOfRange (hbad.mpr h)), fun h => ?_⟩
  have hrange := mt hbad.mp h
  refine ⟨fun hv => refuses (setDeparture_absent hrange hv), fun v hv => ⟨fun hform hq => ?_, fun hq => ?_⟩⟩
  · exact refuses (setDeparture_aboveCapacity hrange hv ⟨(toNat_eq_one form).mpr hform, hq⟩)
  · have hallowed : ¬(form.toNat = 1 ∧ v.capacity < qDep.toNat) := by
      rintro ⟨hform, habove⟩
      rcases hq with rfl | hle
      · exact absurd hform (by decide)
      · exact absurd habove (Nat.not_lt.mpr hle)
    refine ⟨s.withDeparture number.toNat (departureOfForm form.toNat minute.toNat qDep.toNat) v.bayLink, ?_, ?_,
      s.bay_withDeparture _ _ _, s.notices_withDeparture _ _ _, s.withDeparture_frame _ _ _⟩
    · refine (exec_setDeparture ..).trans ((carryOut_ok hc (setDeparture_accepted hrange hv hallowed)).trans ?_)
      cases v.bayLink <;> rfl
    · rw [s.roster_withDeparture, departureOfForm_toNat]

end Sys2Proof.Proofs
end

section
/-! SUPPORT. SET BAY (02_bays.md): the bay a byte names, the caps that a rated cap forms, one equation for each outcome
of the command, and from them the statement O33. -/

namespace Sys2Proof.Machine

/-! ### Bay numbers -/

theorem bayOfByte_eq_none {x : Byte} (h : 15 < x.toNat) : bayOfByte x = none :=
  dif_neg (Nat.not_lt.mpr h)

theorem bayOfByte_eq_some {x : Byte} {b : BayNo} (h : x.toNat = b.val) : bayOfByte x = some b := by
  unfold bayOfByte
  rw [dif_pos (h ▸ b.isLt)]
  exact congrArg some (Fin.ext h)

theorem le1_eq_singleton {x : Byte} {n : Nat} (h : x.toNat = n) : le1 n = [x] := by
  rw [le1, ← h, BitVec.ofNat_toNat, BitVec.setWidth_eq]

/-! ### The caps of a rated cap (R42) -/

/-- The temperature cap that a rated cap gives a bay (R42). -/
def State.tempCapOf (s : State) (b : BayNo) (cap : Nat) : Nat :=
  if s.siteValid then derate s.site cap (s.bay b).tele.temp else 0

/-- The effective cap that a rated cap gives a bay (R42). -/
def State.effCapOf (s : State) (b : BayNo) (cap : Nat) : Nat :=
  match s.linkedVehicle? b with
  | some v => min cap (min v.pDis (s.tempCapOf b cap))
  | none => 0

/-- Recomputing after the rated cap is written reads the link and the temperature that stood before, as the write
leaves them alone. -/
theorem State.recomputeCaps_ratedCap (s : State) (b : BayNo) (cap : Nat) :
    (s.modBay b fun r => { r with ratedCap := cap }).recomputeCaps b =
      s.setBay b { s.bay b with ratedCap := cap, tempCap := s.tempCapOf b cap, capEff := s.effCapOf b cap } := by
  have hlink : (s.modBay b fun r => { r with ratedCap := cap }).linkedVehicle? b = s.linkedVehicle? b := by
    rw [State.linkedVehicle?, State.bay_modBay]
    rfl
  have hset (r r' : BayRecord) : (s.setBay b r).setBay b r' = s.setBay b r' := by
    simp [State.setBay]
  rw [State.recomputeCaps, hlink, State.bay_modBay, State.modBay, hset]
  rfl

/-! ### SET BAY -/

theorem exec_setBay (bay : Byte) (cap : BitVec 16) (s : State) :
    exec (.setBay bay cap) s = carryOut .fleet (.setBay bay cap) (setRatedCap bay cap.toNat) s := rfl

/-- The state an accepted SET BAY leaves: the rated cap, both caps, the notice (R41). -/
def State.withRatedCap (s : State) (b : BayNo) (cap : Nat) : State :=
  (s.setBay b { s.bay b with
    ratedCap := cap, tempCap := s.tempCapOf b cap, capEff := s.effCapOf b cap }).hand (.change .bay)

section RatedCap

variable {bay : Byte} {b : BayNo} {cap : Nat} {s : State}

theorem setRatedCap_badBay (h : 15 < bay.toNat) : setRatedCap bay cap s = .error .badBay := by
  simp only [setRatedCap, bayOfByte_eq_none h]

theorem setRatedCap_outOfRange (hb : bay.toNat = b.val) (h : 1200 < cap) :
    setRatedCap bay cap s = .error .range := by
  simp only [setRatedCap, bayOfByte_eq_some hb, if_pos h]

theorem setRatedCap_accepted (hb : bay.toNat = b.val) (h : ¬1200 < cap) :
    setRatedCap bay cap s = .ok (s.withRatedCap b cap, [bay] ++ le2 cap ++ le2 (s.effCapOf b cap)) := by
  simp only [setRatedCap, bayOfByte_eq_some hb, if_neg h, State.recomputeCaps_ratedCap, le1_eq_singleton hb, withReply,
    State.withRatedCap, State.bay_hand, State.bay_setBay]

end RatedCap

end Sys2Proof.Machine

namespace Sys2Proof.Proofs

open Sys2Proof.Machine

/-- Settles O33: the bay number, then the rated cap pick the refusal; past them the state is `State.withRatedCap`. -/
theorem ratedCapWritten : Obligations.RatedCapWritten := by
  unfold Obligations.RatedCapWritten
  intro bay cap s hc
  have refuses {r : ResultCode} (hr : setRatedCap bay cap.toNat s = .error r) :
      exec (.setBay bay cap) s = .next (s.answer .fleet [r.code]) :=
    (exec_setBay bay cap s).trans (carryOut_error hc hr)
  refine ⟨fun hbad => refuses (setRatedCap_badBay hbad), fun b hb => ⟨fun habove => ?_, fun hle => ?_⟩⟩
  · exact refuses (setRatedCap_outOfRange hb habove)
  · exact ⟨s.withRatedCap b cap.toNat, s.tempCapOf b cap.toNat, s.effCapOf b cap.toNat,
      (exec_setBay bay cap s).trans (carryOut_ok hc (setRatedCap_accepted hb (Nat.not_lt.mpr hle))), rfl, rfl, rfl⟩

end Sys2Proof.Proofs
end

section
/-! SUPPORT. SUBMIT REQUEST (04_dispatch_requests.md): what each check of R69 asks in terms of the command's fields and
the queue, one equation for each check that can fail, and from them the statement O19. -/

namespace Sys2Proof.Machine

/-! ### The checks of R69 -/

/-- Check 2 of R69 in terms of the command's fields. -/
theorem submitInRange_iff (id : Byte) (start : BitVec 24) (length power : BitVec 16) (profile release : Byte) :
    submitInRange id.toNat start.toNat length.toNat power.toNat profile.toNat release.toNat = true ↔
      ¬(id = 0 ∨ 86399 < start.toNat ∨ length.toNat < 60 ∨ 14400 < length.toNat ∨ power = 0
        ∨ 19200 < power.toNat ∨ 7 < profile.toNat ∨ 1 < release.toNat) := by
  have hid : id = 0 ↔ id.toNat = 0 := BitVec.toNat_eq
  have hpower : power = 0 ↔ power.toNat = 0 := BitVec.toNat_eq
  simp only [submitInRange, Bool.and_eq_true, bne_iff_ne, decide_eq_true_eq, hid, hpower, Config.daySeconds]
  omega

/-- A remainder by the length of a day is not negative, so the countdown is the remainder itself. -/
theorem natCast_startCountdown (start clock : Nat) :
    (startCountdown start clock : Int) = ((start : Int) - (clock : Int)) % 86400 :=
  Int.toNat_of_nonneg (Int.emod_nonneg _ (by decide))

theorem State.profiles_getElem?_fin (s : State) {index : Nat} {i : Fin 8} (h : index = i.val) :
    s.profiles[index]? = some s.profiles[i] := by
  subst h
  exact Vector.getElem?_eq_getElem i.isLt

/-- Check 4 of R69. -/
theorem State.isSome_request? (s : State) (id : Nat) : (s.request? id).isSome = true ↔ ∃ r ∈ s.queue, r.id = id := by
  simp only [State.request?, List.find?_isSome, beq_iff_eq]

/-- Check 7 of R69. -/
theorem State.overlapsQueue_iff (s : State) (span : Int × Int) :
    s.overlapsQueue span = true ↔ ∃ r ∈ s.queue, ∃ q, s.occupied r = some q ∧ span.1 < q.2 ∧ q.1 < span.2 := by
  simp only [State.overlapsQueue, List.any_eq_true]
  refine exists_congr fun r => and_congr_right fun _ => ?_
  cases hq : s.occupied r with
  | none => simp
  | some q => simp [overlaps]

/-! ### SUBMIT REQUEST -/

theorem exec_submitRequest (id : Byte) (start : BitVec 24) (length power : BitVec 16) (profile release : Byte)
    (s : State) : exec (.submitRequest id start length power profile release) s
      = carryOut .grid (.submitRequest id start length power profile release)
        (submitRequest id.toNat start.toNat length.toNat power.toNat profile.toNat release.toNat) s := rfl

section Submit

variable {id start length power profile release : Nat} {s : State} {p : Profile}

theorem submitRequest_notRunning (h : s.device ≠ .run) :
    submitRequest id start length power profile release s = .error .notRunning := by
  simp only [submitRequest, if_pos h]

theorem submitRequest_outOfRange (hrun : s.device = .run)
    (h : ¬submitInRange id start length power profile release = true) :
    submitRequest id start length power profile release s = .error .range := by
  simp [submitRequest, hrun, h]

theorem submitRequest_profileEmpty (hrun : s.device = .run)
    (hrange : submitInRange id start length power profile release = true) (h : s.profiles[profile]? = some none) :
    submitRequest id start length power profile release s = .error .profileEmpty := by
  simp [submitRequest, hrun, hrange, h]

section Loaded

variable (hrun : s.device = .run) (hrange : submitInRange id start length power profile release = true)
  (hp : s.profiles[profile]? = some (some p))
include hrun hrange hp

theorem submitRequest_duplicateId (hdup : ∃ r ∈ s.queue, r.id = id) :
    submitRequest id start length power profile release s = .error .duplicateId := by
  simp [submitRequest, hrun, hrange, hp, (s.isSome_request? id).mpr hdup]

variable (hid : ¬∃ r ∈ s.queue, r.id = id)
include hid

theorem submitRequest_queueFull (hfull : 4 ≤ s.queue.length) :
    submitRequest id start length power profile release s = .error .queueFull := by
  simp [submitRequest, hrun, hrange, hp, mt (s.isSome_request? id).mp hid, hfull]

variable (hroom : ¬4 ≤ s.queue.length)
include hroom

theorem submitRequest_horizon (h : startCountdown start s.clock < p.lead + 30 ∨ 43200 < startCountdown start s.clock) :
    submitRequest id start length power profile release s = .error .horizon := by
  simp [submitRequest, hrun, hrange, hp, mt (s.isSome_request? id).mp hid, hroom, h]

theorem submitRequest_overlap
    (hhorizon : ¬(startCountdown start s.clock < p.lead + 30 ∨ 43200 < startCountdown start s.clock))
    (h : s.overlapsQueue ((startCountdown start s.clock : Int) - p.lead, (startCountdown start s.clock : Int) + length)
      = true) :
    submitRequest id start length power profile release s = .error .overlap := by
  simp [submitRequest, hrun, hrange, hp, mt (s.isSome_request? id).mp hid, hroom, hhorizon, h]

end Loaded

end Submit

end Sys2Proof.Machine

namespace Sys2Proof.Proofs

open Sys2Proof.Machine

/-- Settles O19: each check that fails, in the order of R69, picks the refusal. -/
theorem submitChecksInOrder : Obligations.SubmitChecksInOrder := by
  unfold Obligations.SubmitChecksInOrder
  intro id start length power profile release s hc refused c range
  have hrange :
      submitInRange id.toNat start.toNat length.toNat power.toNat profile.toNat release.toNat = true ↔ ¬range :=
    submitInRange_iff id start length power profile release
  have hcount : (startCountdown start.toNat s.clock : Int) = c := natCast_startCountdown start.toNat s.clock
  have refuses {r : ResultCode} (hr : submitRequest id.toNat start.toNat length.toNat power.toNat profile.toNat
      release.toNat s = .error r) : refused r.code :=
    (exec_submitRequest ..).trans (carryOut_error hc hr)
  refine ⟨fun hstopped => refuses (submitRequest_notRunning hstopped), fun hrun => ⟨fun hout => ?_, fun hin i hi => ?_⟩⟩
  · exact refuses (submitRequest_outOfRange hrun fun h => hrange.mp h hout)
  have hfields := hrange.mpr hin
  have hslot := s.profiles_getElem?_fin hi
  refine ⟨fun hempty => ?_, fun e hloaded => ?_⟩
  · exact refuses (submitRequest_profileEmpty hrun hfields (hslot.trans (congrArg some hempty)))
  have hp := hslot.trans (congrArg some hloaded)
  refine ⟨fun hdup => refuses (submitRequest_duplicateId hrun hfields hp hdup), fun hnew => ?_⟩
  have hid : ¬∃ r ∈ s.queue, r.id = id.toNat := fun ⟨r, hr, he⟩ => hnew r hr he
  refine ⟨fun hfull => refuses (submitRequest_queueFull hrun hfields hp hid hfull), fun hspace => ?_⟩
  have hroom := Nat.not_le.mpr hspace
  refine ⟨fun hout => ?_, fun hearly hlate hmeets => ?_⟩
  · exact refuses (submitRequest_horizon hrun hfields hp hid hroom (by omega))
  · refine refuses (submitRequest_overlap hrun hfields hp hid hroom (by omega) ?_)
    rw [State.overlapsQueue_iff, hcount]
    exact hmeets

end Sys2Proof.Proofs
end

section
/-! SUPPORT. LOAD PROFILE (05_ramp_profiles_and_power_orders.md): what a valid profile is in terms of its fields, one
equation for each outcome of the command, the port's length check of its frame, and from them the statement O18. -/

namespace Sys2Proof.Machine

/-! ### Valid profiles (R88, check 3 of R91) -/

/-- The model compares neighbours; as `<` is transitive, every two bands then stand in order. -/
theorem boundsIncrease_iff (bands : List Band) :
    boundsIncrease bands = true ↔ bands.Pairwise fun a b => a.bound < b.bound := by
  have hchain : boundsIncrease bands = true ↔ (bands.map Band.bound).IsChain (· < ·) := by
    induction bands using boundsIncrease.induct with
    | case1 => simp [boundsIncrease]
    | case2 a => simp [boundsIncrease]
    | case3 a b rest ih => simpa [boundsIncrease] using fun _ => ih
  rw [hchain, List.isChain_iff_pairwise, List.pairwise_map]

theorem Profile.valid_iff (p : Profile) :
    p.valid = true ↔ (10 ≤ p.ps ∧ p.ps ≤ 600) ∧ p.lead ≤ 600 ∧ (1 ≤ p.bands.length ∧ p.bands.length ≤ 8)
      ∧ (∀ b ∈ p.bands, 1 ≤ b.step ∧ b.step ≤ 400 ∧ 1 ≤ b.bound)
      ∧ p.bands.Pairwise (fun a b => a.bound < b.bound)
      ∧ p.bands.getLast?.map Band.bound = some 1200 := by
  cases hlast : p.bands.getLast? with
  | none => simp [Profile.valid, hlast]
  | some b => simp [Profile.valid, hlast, boundsIncrease_iff, and_assoc]

/-- Check 3 of R91 in terms of the command's fields. -/
theorem profileOfFields_valid_iff (ps lead : BitVec 16) (bands : List (BitVec 16 × BitVec 16)) :
    (profileOfFields ps lead bands).valid = true ↔
      ¬(ps.toNat < 10 ∨ 600 < ps.toNat ∨ 600 < lead.toNat ∨ bands = [] ∨ 8 < bands.length
        ∨ (∃ b ∈ bands, b.2 = 0 ∨ 400 < b.2.toNat ∨ b.1 = 0)
        ∨ ¬ List.Pairwise (fun a b => a.1.toNat < b.1.toNat) bands
        ∨ bands.getLast?.map (·.1) ≠ some 1200) := by
  have hcount : bands = [] ↔ ¬1 ≤ bands.length := by simp
  have hlast : Option.map Band.bound (bands.map fun b => (⟨b.1.toNat, b.2.toNat⟩ : Band)).getLast? = some 1200
      ↔ bands.getLast?.map (·.1) = some 1200 := by
    cases h : bands.getLast? <;> simp [h, BitVec.toNat_eq]
  have hbands : (∀ b ∈ bands.map fun b => (⟨b.1.toNat, b.2.toNat⟩ : Band), 1 ≤ b.step ∧ b.step ≤ 400 ∧ 1 ≤ b.bound)
      ↔ ¬∃ b ∈ bands, b.2 = 0 ∨ 400 < b.2.toNat ∨ b.1 = 0 := by
    rw [List.forall_mem_map]
    simp [BitVec.toNat_eq, Nat.one_le_iff_ne_zero]
  rw [Profile.valid_iff, hcount]
  simp only [profileOfFields, hlast, hbands, List.length_map, List.pairwise_map, not_or, not_not, Nat.not_lt, ne_eq,
    and_assoc]

theorem State.profileInUse_iff (s : State) (index : Nat) :
    s.profileInUse index = true ↔ ∃ r ∈ s.queue, r.profile = index := by
  simp only [State.profileInUse, List.any_eq_true, beq_iff_eq]

/-! ### LOAD PROFILE -/

theorem exec_loadProfile (index : Byte) (ps lead : BitVec 16) (bands : List (BitVec 16 × BitVec 16)) (s : State) :
    exec (.loadProfile index ps lead bands) s
      = carryOut .grid (.loadProfile index ps lead bands) (loadProfile index ps lead bands) s := rfl

section LoadProfile

variable {index : Byte} {ps lead : BitVec 16} {bands : List (BitVec 16 × BitVec 16)} {s : State}

theorem loadProfile_outOfRange (h : 7 < index.toNat) : loadProfile index ps lead bands s = .error .range :=
  dif_neg (by omega)

variable (hindex : index.toNat < 8)
include hindex

theorem loadProfile_inUse (h : ∃ r ∈ s.queue, r.profile = index.toNat) :
    loadProfile index ps lead bands s = .error .profileInUse := by
  simp only [loadProfile, dif_pos hindex, (s.profileInUse_iff _).mpr h, if_true]

variable (hfree : ¬∃ r ∈ s.queue, r.profile = index.toNat)
include hfree

theorem loadProfile_invalid (h : ¬(profileOfFields ps lead bands).valid = true) :
    loadProfile index ps lead bands s = .error .profileInvalid := by
  simp [loadProfile, hindex, mt (s.profileInUse_iff _).mp hfree, h]

theorem loadProfile_accepted (h : (profileOfFields ps lead bands).valid = true) :
    loadProfile index ps lead bands s =
      .ok ({ s with profiles := s.profiles.set index.toNat (some (profileOfFields ps lead bands)) },
        [index] ++ le1 bands.length) := by
  have hdata : le1 (profileOfFields ps lead bands).bands.length = le1 bands.length :=
    congrArg le1 (List.length_map _)
  simp [loadProfile, hindex, mt (s.profileInUse_iff _).mp hfree, h, hdata, le1_eq_singleton rfl]

end LoadProfile

/-! ### The frame of LOAD PROFILE -/

/-- The port refuses a LOAD PROFILE frame whose length does not agree with its count byte (R91, R163). -/
theorem decodeFrame_loadProfile_length {p : Port} {f : List Byte} (hcode : byteAt f 0 = 0x11)
    (hlength : f.length ≠ 7 + 4 * (byteAt f 6).toNat) : decodeFrame p f false = .error .length := by
  have hexpected : expectedLength f = some (7 + 4 * (byteAt f 6).toNat) := by
    simp [expectedLength, hcode]
  have hparsed : ∃ c, parseFrame p f = some c := by
    simp [parseFrame, hcode]
  obtain ⟨c, hc⟩ := hparsed
  simp [decodeFrame, hexpected, hc, hlength]

end Sys2Proof.Machine

namespace Sys2Proof.Proofs

open Sys2Proof.Machine

/-- Settles O18: the index, the queue and the fields in the order of R91 pick the refusal; past them the entry alone is
written. -/
theorem loadProfileChecksAndLoads : Obligations.LoadProfileChecksAndLoads := by
  unfold Obligations.LoadProfileChecksAndLoads
  refine ⟨?_, fun f _ hcode hlength => decodeFrame_loadProfile_length hcode hlength⟩
  intro index ps lead bands s hc refused bad
  have hvalid : (profileOfFields ps lead bands).valid = true ↔ ¬bad := profileOfFields_valid_iff ps lead bands
  have refuses {r : ResultCode} (hr : loadProfile index ps lead bands s = .error r) : refused r.code :=
    (exec_loadProfile ..).trans (carryOut_error hc hr)
  refine ⟨fun hout => refuses (loadProfile_outOfRange hout), fun i hi => ?_⟩
  have hindex : index.toNat < 8 := hi ▸ i.isLt
  rw [← hi]
  refine ⟨fun hused => refuses (loadProfile_inUse hindex hused), fun hunused => ?_⟩
  have hfree : ¬∃ r ∈ s.queue, r.profile = index.toNat := fun ⟨r, hr, he⟩ => hunused r hr he
  refine ⟨fun hbad => refuses (loadProfile_invalid hindex hfree fun h => hvalid.mp h hbad), fun hgood => ?_⟩
  refine ⟨s.profiles.set index.toNat (some (profileOfFields ps lead bands)),
    (exec_loadProfile ..).trans (carryOut_ok hc (loadProfile_accepted hindex hfree (hvalid.mpr hgood))), ?_,
    fun j hj => ?_⟩
  · exact Vector.getElem_set .. |>.trans (if_pos hi)
  · have hne : index.toNat ≠ j.val := fun h => hj (Fin.ext (h.symm.trans hi))
    exact Vector.getElem_set .. |>.trans (if_neg hne)

end Sys2Proof.Proofs
end

section
/-! SUPPORT. SET CLOCK (08_depot_clock_and_operating_states.md): the frame that its port may not carry, one equation for
each outcome of the command, what one second leaves in the depot clock, and from them the statement O17. -/

namespace Sys2Proof.Machine

/-! ### Frames on the wrong port (R163, R164) -/

/-- A frame of a known code and of its length is refused for its port alone. -/
theorem decodeFrame_notPermitted {p : Port} {f : List Byte} {c : Instr} (hlength : expectedLength f = some f.length)
    (hparse : parseFrame p f = some c) (hport : permitted p (byteAt f 0) = false) :
    decodeFrame p f false = .error .notPermitted := by
  simp [decodeFrame, hlength, hparse, hport]

/-! ### SET CLOCK -/

theorem exec_setClock (second : BitVec 24) (s : State) :
    exec (.setClock second) s = carryOut .grid (.setClock second) (setClock second) s := rfl

/-- The state an accepted SET CLOCK leaves: the clock and its valid flag (R148). -/
def State.withClock (s : State) (second : Nat) : State := { s with clock := second, clockValid := true }

section SetClock

variable {second : BitVec 24} {s : State}

theorem setClock_outOfRange (h : 86399 < second.toNat) : setClock second s = .error .range :=
  if_pos h

theorem setClock_accepted (h : second.toNat ≤ 86399) :
    setClock second s = .ok (s.withClock second.toNat, le3 second.toNat ++ [1]) :=
  if_neg (Nat.not_le.mpr (Nat.lt_succ_of_le h))

end SetClock

/-! ### The depot clock over one second (R147) -/

theorem exec_timebaseSecond (s : State) :
    exec .timebaseSecond s = .next s.advanceTimers.secondTest.evaluateGuards := rfl

@[simp] theorem State.clock_answer (s : State) (p : Port) (reply : List Byte) : (s.answer p reply).clock = s.clock :=
  s.setPort_clock p _

theorem State.secondTest_frame (s : State) : s.sameBut s.secondTest resplitParts := by
  unfold State.secondTest
  split
  · exact s.sameBut_refl _
  · exact s.newlyEligible_frame

/-- The newly-eligible test and the departure guards that follow the counts leave the clock alone. -/
theorem clock_of_timebaseSecond {s u : State} (h : exec .timebaseSecond s = .next u) :
    u.clock = clockAfter s.clock := by
  obtain rfl : s.advanceTimers.secondTest.evaluateGuards = u :=
    Host.Outcome.next.inj ((exec_timebaseSecond s).symm.trans h)
  calc s.advanceTimers.secondTest.evaluateGuards.clock
      = s.advanceTimers.secondTest.clock := (State.evaluateGuards_frame _).clock (by simp)
    _ = s.advanceTimers.clock := (State.secondTest_frame _).clock (by simp)
    _ = clockAfter s.clock := rfl

theorem clockAfter_of_le {n : Nat} (h : n ≤ 86399) : clockAfter n = if n = 86399 then 0 else n + 1 := by
  unfold clockAfter Config.daySeconds
  split_ifs <;> omega

end Sys2Proof.Machine

namespace Sys2Proof.Proofs

open Sys2Proof.Machine

/-- Settles O17: the bound picks the refusal; past it the state is `State.withClock`, and the next second counts from
its clock. -/
theorem setClockWritesClock : Obligations.SetClockWritesClock := by
  unfold Obligations.SetClockWritesClock
  intro second s
  refine ⟨decodeFrame_notPermitted rfl rfl rfl, fun hc => ⟨fun habove => ?_, fun hle => ?_⟩⟩
  · exact (exec_setClock second s).trans (carryOut_error hc (setClock_outOfRange habove))
  · refine ⟨s.withClock second.toNat, rfl, (exec_setClock second s).trans (carryOut_ok hc (setClock_accepted hle)),
      fun u hu => ?_⟩
    rw [clock_of_timebaseSecond hu, State.clock_answer]
    exact clockAfter_of_le hle

end Sys2Proof.Proofs
end

section
/-! SUPPORT. START and RESUME (08_depot_clock_and_operating_states.md): one equation for each check of R151 that picks
the outcome, and from them the statement O37. -/

namespace Sys2Proof.Machine

/-- The two commands differ in the first check of R151 alone. -/
theorem exec_startOrResume {c : Instr} (h : c = .start ∨ c = .resume) (s : State) :
    exec c s = carryOut .fleet c (enterRun (decide (c = .resume))) s := by
  rcases h with rfl | rfl <;> rfl

section EnterRun

variable {isResume : Bool} {s : State}

theorem enterRun_config (h : isResume = true ∧ s.device = .config) : enterRun isResume s = .error .notConfigured :=
  if_pos h

theorem enterRun_running (hrun : s.device = .run) : enterRun isResume s = .ok (s, [1]) := by
  have hnot : ¬(isResume = true ∧ s.device = .config) := by simp [hrun]
  rw [enterRun, if_neg hnot, if_pos hrun, hrun]
  rfl

variable (hrun : s.device ≠ .run) (hfirst : ¬(isResume = true ∧ s.device = .config))
include hrun hfirst

theorem enterRun_siteUnset (hsite : s.siteValid = false) : enterRun isResume s = .error .notConfigured := by
  simp only [enterRun, if_neg hfirst, if_neg hrun, hsite, Bool.not_false, if_true]

theorem enterRun_clockUnset (hsite : s.siteValid = true) (hclock : s.clockValid = false) :
    enterRun isResume s = .error .clockUnset := by
  simp only [enterRun, if_neg hfirst, if_neg hrun, hsite, hclock, Bool.not_true, Bool.false_eq_true, if_false,
    Bool.not_false, if_true]

theorem enterRun_accepted (hsite : s.siteValid = true) (hclock : s.clockValid = true) :
    enterRun isResume s = .ok ({ s with device := .run }.raiseDeviceState, [1]) := by
  simp only [enterRun, if_neg hfirst, if_neg hrun, hsite, hclock, Bool.not_true, Bool.false_eq_true, if_false]
  rfl

end EnterRun

end Sys2Proof.Machine

namespace Sys2Proof.Proofs

open Sys2Proof.Machine

/-- Settles O37: each check that fails, in the order of R151, picks the refusal; past them the device enters RUN. -/
theorem startAndResume : Obligations.StartAndResume := by
  unfold Obligations.StartAndResume
  refine ⟨?_, decodeFrame_notPermitted rfl rfl rfl, decodeFrame_notPermitted rfl rfl rfl⟩
  intro c s hcommand hc refused
  have refuses {r : ResultCode} (hr : enterRun (decide (c = .resume)) s = .error r) : refused r.code :=
    (exec_startOrResume hcommand s).trans (carryOut_error hc hr)
  have answers {t : State} (hr : enterRun (decide (c = .resume)) s = .ok (t, [1])) :
      exec c s = .next (t.answer .fleet [0, 1]) :=
    (exec_startOrResume hcommand s).trans (carryOut_ok hc hr)
  refine ⟨fun hresume hconfig => ?_, fun hrun => answers (enterRun_running hrun), fun hrun hnot => ?_⟩
  · exact refuses (enterRun_config ⟨decide_eq_true hresume, hconfig⟩)
  have hfirst : ¬(decide (c = .resume) = true ∧ s.device = .config) := by rwa [decide_eq_true_iff]
  refine ⟨fun hsite => ?_, fun hsite hclock => ?_, fun hsite hclock => ?_⟩
  · exact refuses (enterRun_siteUnset hrun hfirst hsite)
  · exact refuses (enterRun_clockUnset hrun hfirst hsite hclock)
  · exact answers (enterRun_accepted hrun hfirst hsite hclock)

end Sys2Proof.Proofs
end

section
/-! SUPPORT. SET EVENT MASK (09_master_ports.md): the bits of a mask that name an event, the attention line flag by
flag, one equation for each outcome of the command, and from them the statement O10. -/

namespace Sys2Proof.Machine

/-! ### Mask bits (R171, R172) -/

theorem and_ne_zero_iff_getLsbD {w : Nat} {x y : BitVec w} :
    x &&& y ≠ 0 ↔ ∃ i, x.getLsbD i = true ∧ y.getLsbD i = true := by
  rw [Ne, BitVec.eq_of_getLsbD_eq_iff]
  constructor
  · intro h
    push Not at h
    obtain ⟨i, -, hi⟩ := h
    exact ⟨i, by simpa using hi⟩
  · rintro ⟨i, hx, hy⟩ h
    simpa [hx, hy] using h i (BitVec.lt_of_getLsbD hx)

/-- How many events a port has; their flags take the lowest bits (R167, R176). -/
def eventCount : Port → Nat
  | .grid => 5
  | .fleet => 7

theorem eventBits_eq_ofNat (p : Port) : eventBits p = BitVec.ofNat 8 (2 ^ eventCount p - 1) := by
  cases p <;> rfl

theorem getLsbD_eventBits (p : Port) {i : Nat} (hi : i < 8) :
    (eventBits p).getLsbD i = decide (i < eventCount p) := by
  rw [eventBits_eq_ofNat, BitVec.getLsbD_ofNat, Nat.testBit_two_pow_sub_one, decide_eq_true hi, Bool.true_and]

/-- The model's test of R171 is met just when a bit above the port's events is set. -/
theorem mask_beyond_events_iff (p : Port) (mask : Byte) :
    mask &&& ~~~ eventBits p ≠ 0 ↔ ∃ i, eventCount p ≤ i ∧ mask.getLsbD i = true := by
  rw [and_ne_zero_iff_getLsbD]
  refine exists_congr fun i => ?_
  rw [and_comm]
  refine and_congr_left fun hbit => ?_
  have hi : i < 8 := BitVec.lt_of_getLsbD hbit
  rw [BitVec.getLsbD_not, getLsbD_eventBits p hi]
  simp [hi]

theorem PortState.atnLow_iff (x : PortState) :
    x.atnLow = true ↔ ∃ i, x.flags.getLsbD i = true ∧ x.mask.getLsbD i = true := by
  rw [PortState.atnLow, bne_iff_ne, and_ne_zero_iff_getLsbD]

/-! ### SET EVENT MASK -/

theorem exec_setEventMask (p : Port) (mask : Byte) (s : State) :
    exec (.setEventMask p mask) s = carryOut p (.setEventMask p mask) (setEventMask p mask) s := rfl

section SetEventMask

variable {p : Port} {mask : Byte} {s : State}

theorem setEventMask_outOfRange (h : ∃ i, eventCount p ≤ i ∧ mask.getLsbD i = true) :
    setEventMask p mask s = .error .range :=
  if_pos ((mask_beyond_events_iff p mask).mpr h)

theorem setEventMask_accepted (h : ∀ i, eventCount p ≤ i → mask.getLsbD i = false) :
    setEventMask p mask s = .ok (s.setPort p { s.port p with mask := mask }, [mask]) := by
  refine if_neg fun hbeyond => ?_
  obtain ⟨i, hle, hbit⟩ := (mask_beyond_events_iff p mask).mp hbeyond
  exact Bool.false_ne_true ((h i hle).symm.trans hbit)

end SetEventMask

end Sys2Proof.Machine

namespace Sys2Proof.Proofs

open Sys2Proof.Machine

/-- Settles O10: a bit above the port's events picks the refusal; past it the mask alone is written, and ATN is read
from the flags as they stand. -/
theorem eventMaskReplaced : Obligations.EventMaskReplaced := by
  unfold Obligations.EventMaskReplaced
  intro p mask s hc events
  have hevents : events = eventCount p := by cases p <;> rfl
  rw [hevents]
  refine ⟨fun hbeyond => ?_, fun hwithin => ⟨?_, PortState.atnLow_iff _⟩⟩
  · exact (exec_setEventMask p mask s).trans (carryOut_error hc (setEventMask_outOfRange hbeyond))
  · exact (exec_setEventMask p mask s).trans (carryOut_ok hc (setEventMask_accepted hwithin))

end Sys2Proof.Proofs
end

section
/-! SUPPORT. Predicates on the state that every operation keeps: the updates of which the shared operations are made, and
for each operation that a predicate kept by its updates is kept by the operation. A predicate is so carried through the
model once, whatever it says. -/

namespace Sys2Proof.Machine

/-! ### The updates of the bays' operations -/

/-- What the timers and marks of a bay record stand beside: state, link, telemetry and caps. -/
def BayRecord.core (r : BayRecord) : BayState × Option Nat × Telemetry × Nat × Nat × Nat :=
  (r.state, r.link, r.tele, r.ratedCap, r.tempCap, r.capEff)

/-- An order within its quota, the quota an energy quantity (R93, R102). -/
def Order.within (o : Order) : Prop := o.delivered ≤ o.quota ∧ o.quota ≤ Config.energyMax

/-- From `o` to `o'` an order gains no level and stays within its quota. -/
def Order.tamer (o o' : Order) : Prop := o'.level ≤ o.level ∧ (o.within → o'.within)

/-- A predicate kept by the updates that end orders, move bays within and out of the exporting states and enter faults. A bay comes
to these only from BINDING or from one of them, and to TRANSFER not at all. -/
structure OpClosed (Q : State → Prop) : Prop where
  modBay {t : State} (b : BayNo) {f : BayRecord → BayRecord} : (∀ r, (f r).core = r.core) → Q t → Q (t.modBay b f)
  modFault {t : State} (b : BayNo) (f : FaultSet → FaultSet) : Q t → Q (t.modFault b f)
  noOrder {t : State} (b : BayNo) : Q t → Q (t.setOrder b none)
  setOrder {t : State} {b : BayNo} {o o' : Order} : t.order b = some o → o.tamer o' → Q t → Q (t.setOrder b (some o'))
  setBayState {t : State} {b : BayNo} {st : BayState} : st ≠ .transfer →
    (st.engaged = true → (t.bay b).state.engaged = true) → Q t → Q (t.setBayState b st)
  hand {t : State} (n : Notice) : Q t → Q (t.hand n)
  join {t : State} (b : BayNo) : Q t → Q (t.join b)
  markBay {t : State} (b : BayNo) : Q t → Q (t.markBay b)
  raiseFleet {t : State} (e : FleetEvent) : Q t → Q (t.raiseFleet e)

theorem Order.tamer_declineFor (o : Order) (cause : EndCause) : o.tamer (o.declineFor cause) := ⟨le_rfl, id⟩

theorem Order.within_retarget {o : Order} (target remaining : Nat) (h : o.within) :
    (o.retarget target remaining).within := by
  obtain ⟨hdelivered, hquota⟩ := h
  unfold Order.retarget
  have hnew : o.delivered ≤ saturate (o.delivered + target * remaining)
      ∧ saturate (o.delivered + target * remaining) ≤ Config.energyMax :=
    ⟨le_min (Nat.le_add_right _ _) (hdelivered.trans hquota), min_le_right _ _⟩
  cases o.phase
  case decline => exact ⟨hdelivered, hquota⟩
  all_goals exact hnew

theorem Order.level_retarget (o : Order) (target remaining : Nat) : (o.retarget target remaining).level = o.level := by
  unfold Order.retarget
  cases o.phase <;> rfl

theorem Order.tamer_retarget (o : Order) (target remaining : Nat) : o.tamer (o.retarget target remaining) :=
  ⟨(o.level_retarget target remaining).le, Order.within_retarget target remaining⟩

namespace OpClosed

variable {Q : State → Prop} (hQ : OpClosed Q) {t : State}
include hQ

/-- A move out of BINDING and the exporting states. -/
theorem leaves {b : BayNo} {st : BayState} (hst : st.engaged = false) (h : Q t) : Q (t.setBayState b st) :=
  hQ.setBayState (by rintro rfl; exact absurd hst (by decide)) (fun he => absurd he (by simp [hst])) h

theorem stopTimers (b : BayNo) (h : Q t) : Q (t.stopTimers b) := hQ.modBay b (fun _ => rfl) h

theorem startRelease (b : BayNo) (h : Q t) : Q (t.startRelease b) :=
  hQ.join b (hQ.modFault b _ (hQ.modBay b (fun _ => rfl) h))

theorem releaseFrom (b : BayNo) (left : BayState) (h : Q t) : Q (t.releaseFrom b left) := by
  unfold State.releaseFrom
  split
  · exact hQ.startRelease b h
  · exact h

theorem endRelease (b : BayNo) (h : Q t) : Q (t.endRelease b) :=
  hQ.modFault b _ (hQ.modBay b (fun _ => rfl) h)

theorem endReleaseIf (b : BayNo) (ends : Bool) (h : Q t) : Q (t.endReleaseIf b ends) := by
  cases ends
  · exact h
  · exact hQ.endRelease b h

theorem release (b : BayNo) (h : Q t) : Q (t.release b) :=
  hQ.startRelease b (hQ.leaves (by decide) (hQ.stopTimers b h))

theorem startCheck {b : BayNo} (hb : (t.bay b).state.engaged = true) (h : Q t) : Q (t.startCheck b) :=
  hQ.join b (hQ.setBayState (by decide) (fun _ => by simpa using hb) (hQ.modBay b (fun _ => rfl) h))

theorem handIfChanged (b : BayNo) (before : BayState) (h : Q t) : Q (t.handIfChanged b before) := by
  unfold State.handIfChanged
  split
  · exact hQ.hand _ h
  · exact h

/-! #### Orders -/

theorem dropOrder (b : BayNo) (cause : Option EndCause) (byTransition : Bool) (h : Q t) :
    Q (t.dropOrder b cause byTransition) := by
  unfold State.dropOrder
  split
  · exact h
  · exact hQ.hand _ (hQ.noOrder b h)

theorem abortOrder (b : BayNo) (cause : EndCause) (byTransition : Bool) (h : Q t) :
    Q (t.abortOrder b cause byTransition) := by
  unfold State.abortOrder
  split
  · exact h
  · exact hQ.join b (hQ.dropOrder b _ _ h)

theorem afterOrderEnd {b : BayNo} (o : Order) (hb : (t.bay b).state.engaged = true) (h : Q t) :
    Q (t.afterOrderEnd b o) := by
  unfold State.afterOrderEnd
  split
  · exact hQ.release b h
  · split
    · exact hQ.startCheck hb h
    · exact hQ.setBayState (by decide) (fun _ => hb) h

theorem finishOrder {b : BayNo} (o : Order) (hb : (t.bay b).state.engaged = true) (h : Q t) :
    Q (t.finishOrder b o) :=
  hQ.afterOrderEnd o (by simpa using hb) (hQ.join b (hQ.dropOrder b _ _ h))

theorem afterRemoval (b : BayNo) (o : Order) (h : Q t) : Q (t.afterRemoval b o) := by
  unfold State.afterRemoval
  split
  · exact hQ.release b h
  · split
    · exact hQ.release b h
    · exact h
  · exact h

theorem endFor {b : BayNo} {o : Order} (cause : EndCause) (ho : t.order b = some o) (h : Q t) :
    Q (t.endFor b o cause) := by
  unfold State.endFor
  split
  · exact hQ.afterRemoval b o (hQ.abortOrder b cause false h)
  · exact hQ.setOrder ho (o.tamer_declineFor cause) h

theorem declineBay (b : BayNo) (cause : EndCause) (h : Q t) : Q (t.declineBay b cause) := by
  unfold State.declineBay
  split
  · exact h
  case h_2 o ho =>
    split
    · exact h
    · exact hQ.setOrder ho (o.tamer_declineFor cause) h

theorem releaseFor (b : BayNo) (cause : EndCause) (h : Q t) : Q (t.releaseFor b cause) := by
  have hrelease : Q ((t.abortOrder b cause false).release b) := hQ.release b (hQ.abortOrder b cause false h)
  unfold State.releaseFor
  cases (t.bay b).state
  case binding | bound | checking => exact hrelease
  case transfer => exact hQ.declineBay b cause h
  all_goals exact h

theorem retargetEntry (id remaining : Nat) (e : Participant) (h : Q t) : Q (State.retargetEntry id remaining t e) := by
  unfold State.retargetEntry
  split
  case h_1 o ho =>
    split
    · exact hQ.setOrder ho (o.tamer_retarget _ _) h
    · exact h
  case h_2 => exact h

theorem dropOutEntry (id : Nat) (list : List Participant) (b : BayNo) (h : Q t) :
    Q (State.dropOutEntry id list t b) := by
  unfold State.dropOutEntry
  split
  case h_1 o ho =>
    split
    · exact hQ.endFor .resplit ho h
    · exact h
  case h_2 => exact h

theorem endEntry (id : Nat) (cause : EndCause) (b : BayNo) (h : Q t) : Q (State.endEntry id cause t b) := by
  unfold State.endEntry
  split
  case h_1 o ho =>
    split
    · exact hQ.endFor cause ho h
    · exact h
  case h_2 => exact h

omit hQ in
/-- What every turn of a fold keeps the fold keeps. -/
theorem foldl {α : Type} {f : State → α → State} (hf : ∀ {t} a, Q t → Q (f t a)) (l : List α) (h : Q t) :
    Q (l.foldl f t) := by
  induction l generalizing t with
  | nil => exact h
  | cons a l ih => exact ih (hf a h)

theorem endAllFor (id : Nat) (cause : EndCause) (h : Q t) : Q (t.endAllFor id cause) :=
  foldl (hQ.endEntry id cause) allBays h

theorem cutBay (b : BayNo) {acc : State × Nat} (h : Q acc.1) : Q (cutBay acc b).1 := by
  obtain ⟨t, excess⟩ := acc
  unfold Machine.cutBay
  dsimp only
  split
  · split
    case h_1 o ho =>
      split
      · exact h
      · exact hQ.join b (hQ.setOrder ho ⟨Nat.sub_le _ _, id⟩ h)
    case h_2 => exact h
  · exact h

theorem siteLimitCut (h : Q t) : Q t.siteLimitCut := by
  have hfold (l : List BayNo) (acc : State × Nat) (hacc : Q acc.1) : Q (l.foldl Machine.cutBay acc).1 := by
    induction l generalizing acc with
    | nil => exact hacc
    | cons b l ih => exact ih _ (hQ.cutBay b hacc)
  exact hfold _ _ h

/-! #### Faults -/

theorem takeOut (b : BayNo) (h : Q t) : Q (t.takeOut b) :=
  hQ.raiseFleet _ (hQ.leaves (by decide) (hQ.modFault b _ h))

theorem outAtThird (b : BayNo) (h : Q t) : Q (t.outAtThird b) := by
  unfold State.outAtThird
  split
  · exact hQ.takeOut b h
  · exact h

theorem countEntry (b : BayNo) (kinds : List FaultKind) (h : Q t) : Q (t.countEntry b kinds) := by
  unfold State.countEntry
  split
  · exact hQ.outAtThird b (hQ.modFault b _ h)
  · exact h

theorem enterFault (b : BayNo) (first : FaultKind) (others : List FaultKind) (h : Q t) :
    Q (t.enterFault b first others) := by
  have hfault : Q ((((t.openFault b first others).abortOrder b (faultEndCause (t.order b) first) true).stopTimers
      b).setBayState b .fault) :=
    hQ.leaves (by decide) (hQ.stopTimers b (hQ.abortOrder b _ true (hQ.modFault b _ h)))
  exact hQ.countEntry b _ (hQ.raiseFleet _ (hQ.modFault b _ (hQ.releaseFrom b _ hfault)))

/-- A fault set written whole. -/
theorem setFaultSet (b : BayNo) (f : FaultSet) (h : Q t) : Q (t.setFaultSet b f) := hQ.modFault b (fun _ => f) h

theorem faultInFault (b : BayNo) (kinds : List FaultKind) (h : Q t) : Q (t.faultInFault b kinds) := by
  unfold State.faultInFault
  dsimp only
  split
  · exact hQ.raiseFleet _ (hQ.setFaultSet b _ h)
  · exact h

theorem faultInOut (b : BayNo) (first : FaultKind) (others : List FaultKind) (h : Q t) :
    Q (t.faultInOut b first others) := by
  unfold State.faultInOut
  dsimp only
  split
  · split
    · exact hQ.raiseFleet _ (hQ.setFaultSet b _ h)
    · exact h
  · exact hQ.raiseFleet _ (hQ.setFaultSet b _ h)

theorem takeFault (b : BayNo) (first : FaultKind) (others : List FaultKind) (h : Q t) :
    Q (t.takeFault b first others) := by
  unfold State.takeFault
  cases (t.bay b).state
  case empty | detected => exact h
  case fault => exact hQ.faultInFault b _ h
  case outOfService => exact hQ.faultInOut b _ _ h
  all_goals exact hQ.enterFault b first others h

theorem reportFault (b : BayNo) (kind : FaultKind) (h : Q t) : Q (t.reportFault b kind) :=
  hQ.handIfChanged b _ (hQ.takeFault b kind [] h)

theorem checkReply (b : BayNo) (answered : Nat) (h : Q t) : Q (t.checkReply b answered) := by
  unfold State.checkReply
  split
  · generalize t.replyCauses b answered = causes
    cases causes with
    | nil => exact hQ.modFault b (fun f => { f with tracking := (t.trackingCheck b answered).1 }) h
    | cons first others => exact hQ.takeFault b first others (hQ.modFault b _ h)
  · exact h

theorem takeReleaseTimeout (b : BayNo) (h : Q t) : Q (t.takeReleaseTimeout b) := by
  unfold State.takeReleaseTimeout
  cases (t.bay b).state
  case releasing => exact hQ.raiseFleet _ (hQ.takeOut b (hQ.modFault b _ h))
  case fault => exact hQ.raiseFleet _ (hQ.takeOut b (hQ.modFault b _ h))
  case outOfService =>
    dsimp only
    split
    · exact h
    · exact hQ.faultInOut b _ _ h
  all_goals exact h

theorem releaseTimeout (b : BayNo) (h : Q t) : Q (t.releaseTimeout b) :=
  hQ.handIfChanged b _ (hQ.modFault b _ (hQ.modBay b (fun _ => rfl) (hQ.takeReleaseTimeout b h)))

/-! #### Events of a bay -/

theorem detect (b : BayNo) (h : Q t) : Q (t.detect b) :=
  hQ.modBay b (fun _ => rfl) (hQ.leaves (by decide) h)

theorem replySameBus (b : BayNo) (h : Q t) : Q (t.replySameBus b) := by
  unfold State.replySameBus
  dsimp only
  cases hstate : (t.bay b).state
  case binding =>
    dsimp only
    split
    · exact hQ.setBayState (by decide) (fun _ => by simp [hstate, BayState.engaged]) (hQ.modBay b (fun _ => rfl) h)
    · exact h
  case checking =>
    dsimp only
    split
    · exact hQ.setBayState (by decide) (fun _ => by simp [hstate, BayState.engaged, BayState.exporting])
        (hQ.modBay b (fun _ => rfl) h)
    · exact hQ.takeFault b _ _ h
    · exact h
    · exact h
  case releasing =>
    dsimp only
    split
    · exact h
    · exact hQ.leaves (by decide) (hQ.modBay b (fun _ => rfl) (hQ.endRelease b h))
  case fault => exact hQ.endReleaseIf b _ h
  all_goals exact h

theorem reserveGuard (b : BayNo) (h : Q t) : Q (t.reserveGuard b) := by
  unfold State.reserveGuard
  split
  case h_1 o v hstate ho hv =>
    split
    · split
      · split
        · exact hQ.raiseFleet _ (hQ.setOrder ho (o.tamer_declineFor _) h)
        · exact h
      · exact h
    · exact h
  case h_2 => exact h

theorem guardActs (b : BayNo) (h : Q t) : Q (t.guardActs b) :=
  hQ.modBay b (fun _ => rfl) (hQ.markBay b (hQ.raiseFleet _ (hQ.releaseFor b _ h)))

theorem evaluateGuard (b : BayNo) (h : Q t) : Q (t.evaluateGuard b) := by
  unfold State.evaluateGuard
  dsimp only
  split
  · exact h
  · split
    · split
      · exact hQ.guardActs b h
      · exact h
    · exact hQ.modBay b (fun _ => rfl) h

theorem evaluateGuards (h : Q t) : Q t.evaluateGuards := by
  unfold State.evaluateGuards
  split
  · exact foldl hQ.evaluateGuard allBays h
  · exact h

theorem takeBayOut (b : BayNo) (h : Q t) : Q (t.takeBayOut b) :=
  hQ.handIfChanged b _ (hQ.takeOut b (hQ.releaseFrom b _ (hQ.stopTimers b (hQ.abortOrder b _ true h))))

theorem releaseIfEngaged (b : BayNo) (h : Q t) : Q (t.releaseIfEngaged b) := by
  unfold State.releaseIfEngaged
  split
  · exact hQ.release b h
  · exact h

theorem restart (b : BayNo) (h : Q t) : Q (t.restart b) := by
  unfold State.restart
  split
  · exact hQ.detect b h
  · exact hQ.leaves (by decide) h

theorem rearm (link : Option BayNo) (h : Q t) : Q (t.rearm link) := by
  cases link with
  | none => exact h
  | some b => exact hQ.modBay b (f := fun r => { r with guardArmed := true }) (fun _ => rfl) h

end OpClosed

end Sys2Proof.Machine
end

section
/-! SUPPORT. Predicates that every operation keeps, continued: the steps and the creation of orders, the Request Queue,
the links of the bays, and at the end every command. -/

namespace Sys2Proof.Machine

/-! ### Requests in the queue -/

theorem State.mem_of_request? {s : State} {id : Nat} {r : Request} (h : s.request? id = some r) :
    r ∈ s.queue ∧ r.id = id :=
  ⟨List.mem_of_find?_eq_some h, by simpa using List.find?_some h⟩

theorem State.mem_of_active? {s : State} {r : Request} (h : s.active? = some r) : r ∈ s.queue ∧ r.isActive = true :=
  ⟨List.mem_of_find?_eq_some h, List.find?_some h⟩

theorem State.active?_eq_none {s : State} : s.active? = none ↔ ∀ q ∈ s.queue, q.isActive = false := by
  simp [State.active?]

theorem Request.isActive_of_state {r : Request} {remaining : Nat} {eligible : List BayNo}
    (h : r.state = .active remaining eligible) : r.isActive = true := by
  simp [Request.isActive, h]

theorem State.modRequest_queue_ne_nil {s : State} {id : Nat} {f : Request → Request} (h : s.queue ≠ []) :
    (s.modRequest id f).queue ≠ [] := by
  simpa [State.modRequest] using h

theorem State.vehicle?_number {s : State} {n : Nat} {v : Vehicle} (h : s.vehicle? n = some v) :
    v ∈ s.roster ∧ v.number = n :=
  ⟨List.mem_of_find?_eq_some h, by simpa using List.find?_some h⟩

/-! ### The steps and the creation of orders -/

/-- A predicate kept by the steps and the creation of orders too. A bay is bound only for a queued request. -/
structure StepClosed (Q : State → Prop) : Prop extends OpClosed Q where
  issue {t : State} {b : BayNo} {o : Order} (level : Nat) (phase : Phase) (cause : Option EndCause) :
    t.order b = some o → Q t → Q (t.setOrder b (some (o.issued (t.limitSetPoint b o level) phase cause)))
  firstStep {t : State} {b : BayNo} {o : Order} : t.order b = some o ∨ o.within →
    (t.bay b).state.engaged = true → Q t → Q (t.firstStep b o)
  newOrder {t : State} (b : BayNo) (id target quota : Nat) : Q t → Q (t.setOrder b (some (newOrder id target quota)))
  bind {t : State} (b : BayNo) : t.queue ≠ [] → Q t → Q (t.setBayState b .binding)

theorem within_newOrder (id target quota : Nat) : (newOrder id target quota).within :=
  ⟨Nat.zero_le _, min_le_right _ _⟩

namespace StepClosed

variable {Q : State → Prop} (hQ : StepClosed Q) {t : State}
include hQ

theorem putOrder {b : BayNo} {o : Order} (level : Nat) (phase : Phase) (cause : Option EndCause)
    (ho : t.order b = some o) (h : Q t) : Q (t.putOrder b (o.issued (t.limitSetPoint b o level) phase cause)) :=
  hQ.join b (hQ.issue level phase cause ho h)

theorem stepOrder {b : BayNo} {o : Order} (ho : t.order b = some o) (hb : (t.bay b).state.engaged = true) (h : Q t) :
    Q (t.stepOrder b o) := by
  unfold State.stepOrder
  split
  · exact hQ.finishOrder _ hb h
  case h_2 level phase cause hplan =>
    have hput := hQ.putOrder level phase cause ho h
    unfold State.issueStep
    split
    · exact hQ.finishOrder _ (by simpa [State.putOrder] using hb) hput
    · exact hput

theorem settled (b : BayNo) (h : Q t) : Q (t.settled b) := by
  unfold State.settled
  split
  case h_1 o hstate ho =>
    split
    · exact hQ.firstStep (.inl ho) (by simp [hstate, BayState.engaged, BayState.exporting]) h
    · exact h
  case h_2 => exact h

theorem createOrder (id : Nat) (b : BayNo) (target quota : Nat) (hq : t.queue ≠ []) (h : Q t) :
    Q (t.createOrder id b target quota) := by
  have hnew := hQ.newOrder b id target quota h
  unfold State.createOrder
  dsimp only
  split
  · have htimer := hQ.modBay b (f := fun r => { r with stateTimer := some bindingTime }) (fun _ => rfl) hnew
    exact hQ.join b (hQ.bind b hq htimer)
  case h_2 hstate =>
    split
    · exact hnew
    · exact hQ.firstStep (.inr (within_newOrder ..)) (by simp [hstate, BayState.engaged, BayState.exporting]) h
  case h_3 => exact h

theorem createEntry (id remaining : Nat) (e : Participant) (hq : t.queue ≠ []) (h : Q t) :
    Q (State.createEntry id remaining t e) := by
  unfold State.createEntry
  split
  · exact h
  · exact hQ.createOrder _ _ _ _ hq h

theorem createEntries (id remaining : Nat) (list : List Participant) (hq : t.queue ≠ []) (h : Q t) :
    Q (list.foldl (State.createEntry id remaining) t) := by
  have hboth : ∀ {t} (e : Participant), t.queue ≠ [] ∧ Q t →
      (State.createEntry id remaining t e).queue ≠ [] ∧ Q (State.createEntry id remaining t e) :=
    fun e ⟨hq, h⟩ => ⟨by rwa [(State.createEntry_frame id remaining _ e).queue (by simp)],
      hQ.createEntry id remaining e hq h⟩
  exact (OpClosed.foldl (Q := fun t => t.queue ≠ [] ∧ Q t) hboth list ⟨hq, h⟩).2

theorem alignOrders (id remaining : Nat) (list : List Participant) (hq : t.queue ≠ []) (h : Q t) :
    Q (t.alignOrders id remaining list) := by
  have hframe : t.sameBut (allBays.foldl (State.dropOutEntry id list)
      (list.foldl (State.retargetEntry id remaining) t)) orderEndParts :=
    (State.sameBut_foldl _ (State.retargetEntry_frame id remaining) list t).trans
      (State.sameBut_foldl _ (State.dropOutEntry_frame id list) allBays _)
  refine hQ.createEntries id remaining list (by rwa [hframe.queue (by simp)]) ?_
  exact OpClosed.foldl (hQ.dropOutEntry id list) _ (OpClosed.foldl (hQ.retargetEntry id remaining) _ h)

end StepClosed

/-! ### The Request Queue -/

/-- A rewrite of a request that changes no ID and leaves at most one request ACTIVE: none becomes ACTIVE, or the request
rewritten was it, or none was. -/
def State.mayRewrite (t : State) (id : Nat) (f : Request → Request) : Prop :=
  (∀ q, (f q).id = q.id)
  ∧ ((∀ q, (f q).isActive = true → q.isActive = true) ∨ (∃ r ∈ t.queue, r.id = id ∧ r.isActive = true)
    ∨ ∀ q ∈ t.queue, q.isActive = false)

/-- A predicate kept by the Request Queue's updates too. -/
structure RequestClosed (Q : State → Prop) : Prop extends StepClosed Q where
  modRequest {t : State} {id : Nat} {f : Request → Request} : t.mayRewrite id f → Q t → Q (t.modRequest id f)
  dropRequest {t : State} (id : Nat) : Q t → Q (t.dropRequest id)
  lastResult {t : State} (x : Option LastResult) : Q t → Q { t with lastResult := x }
  notices {t : State} (x : List Notice) : Q t → Q { t with notices := x }
  raiseGrid {t : State} (e : GridEvent) : Q t → Q (t.raiseGrid e)

namespace RequestClosed

variable {Q : State → Prop} (hQ : RequestClosed Q) {t : State}
include hQ

/-- A rewrite that leaves ID and state alone. -/
theorem modFields {id : Nat} {f : Request → Request} (hid : ∀ q, (f q).id = q.id) (hstate : ∀ q, (f q).state = q.state)
    (h : Q t) : Q (t.modRequest id f) :=
  hQ.modRequest ⟨hid, .inl fun q hq => by simpa [Request.isActive, hstate q] using hq⟩ h

theorem leave (id : Nat) (h : Q t) : Q (t.leave id) := by
  unfold State.leave
  split
  · split
    · exact hQ.raiseGrid _ (hQ.dropRequest id (hQ.lastResult _ h))
    · exact h
    · exact h
  · exact h

theorem leaveIfDone (id : Nat) (h : Q t) : Q (t.leaveIfDone id) := by
  unfold State.leaveIfDone
  split
  · exact hQ.leave id h
  · exact h

theorem endRequest (id : Nat) (cause : RequestCause) (orderCause : EndCause) (h : Q t) :
    Q (t.endRequest id cause orderCause) := by
  have hending := hQ.modRequest (id := id) (f := fun r => { r with state := .ending cause })
    ⟨fun _ => rfl, .inl fun q hq => by simp [Request.isActive] at hq⟩ h
  exact hQ.leaveIfDone id (hQ.endAllFor id orderCause hending)

theorem resplitWith {r : Request} (remaining power : Nat) (setGrant : Bool) (hr : r ∈ t.queue)
    (hactive : r.isActive = true) (h : Q t) : Q (t.resplitWith r remaining power setGrant) :=
  hQ.alignOrders _ _ _ (State.modRequest_queue_ne_nil (List.ne_nil_of_mem hr))
    (hQ.modRequest ⟨fun _ => rfl, .inr (.inl ⟨r, hr, rfl, hactive⟩)⟩ h)

theorem resplit (h : Q t) : Q t.resplit := by
  unfold State.resplit
  split
  case h_1 r hr =>
    obtain ⟨hmem, hactive⟩ := State.mem_of_active? hr
    split
    · exact hQ.resplitWith _ _ _ hmem hactive h
    · exact h
    · exact h
  case h_2 => exact h

theorem noteReduced (before after : Nat) (h : Q t) : Q (t.noteReduced before after) := by
  unfold State.noteReduced
  split
  · exact hQ.raiseGrid _ h
  · exact h

theorem review (id : Nat) (h : Q t) : Q (t.review id) := by
  unfold State.review
  split
  · split
    · exact hQ.noteReduced _ _ (hQ.modFields (fun _ => rfl) (fun _ => rfl) h)
    · exact h
    · exact h
  · exact h

theorem takeChange (h : Q t) : Q t.takeChange := hQ.resplit (OpClosed.foldl hQ.review _ h)

theorem activate {r : Request} (hr : r ∈ t.queue) (hnone : t.active? = none) (h : Q t) : Q (t.activate r) := by
  unfold State.activate State.applyActivation
  have hwritten := hQ.noteReduced r.current (t.evaluate (splitTerms r (t.profileAt r.profile))).grant
    (hQ.modRequest (t := t) (id := r.id)
      (f := fun q => { q with
        list := (t.evaluate (splitTerms r (t.profileAt r.profile))).list
        current := (t.evaluate (splitTerms r (t.profileAt r.profile))).grant
        state := .active ((t.profileAt r.profile).lead + r.length)
          (t.evaluate (splitTerms r (t.profileAt r.profile))).eligible })
      ⟨fun _ => rfl, .inr (.inr (State.active?_eq_none.mp hnone))⟩ h)
  refine hQ.raiseGrid _ (hQ.createEntries _ _ _ ?_ hwritten)
  rw [(State.noteReduced_frame _ _ _).queue (by simp)]
  exact State.modRequest_queue_ne_nil (List.ne_nil_of_mem hr)

theorem newlyEligible (h : Q t) : Q t.newlyEligible := by
  unfold State.newlyEligible
  split
  · split
    · dsimp only
      split
      · exact hQ.resplit h
      · exact h
    · exact h
    · exact h
  · exact h

theorem secondTest (h : Q t) : Q t.secondTest := by
  unfold State.secondTest
  split
  · exact h
  · exact hQ.newlyEligible h

theorem takeOrderEnd (id : Nat) (cause : Option EndCause) (energy : Nat) (byTransition : Bool) (h : Q t) :
    Q (t.takeOrderEnd id cause energy byTransition) := by
  unfold State.takeOrderEnd
  split
  · exact h
  · have hcounted := hQ.modFields (id := id) (f := fun q => { q with delivered := addDelivered q.delivered energy })
      (fun _ => rfl) (fun _ => rfl) h
    unfold State.afterOrderNotice
    split
    · split
      · exact hcounted
      · exact hQ.leaveIfDone _ hcounted
    · split
      · exact hQ.resplit hcounted
      · exact hcounted
    · exact hcounted

theorem retargetActive {r : Request} (remaining power : Nat) (hr : r ∈ t.queue) (hactive : r.isActive = true) (h : Q t) :
    Q (retargetActive t r remaining power) := by
  unfold Machine.retargetActive
  split
  · exact hQ.modFields (fun _ => rfl) (fun _ => rfl) (hQ.endAllFor _ _ h)
  · exact hQ.resplitWith _ _ _ hr hactive h

/-! #### TRIP -/

theorem tripOrder (b : BayNo) (h : Q t) : Q (t.tripOrder b) := by
  unfold State.tripOrder
  split
  · exact h
  · exact hQ.releaseIfEngaged b (hQ.join b (hQ.modFields (fun _ => rfl) (fun _ => rfl) (hQ.noOrder b h)))

theorem tripRequest (r : Request) (h : Q t) : Q (t.tripRequest r) := by
  unfold State.tripRequest
  split
  · exact hQ.dropRequest _ h
  · exact hQ.dropRequest _ (hQ.lastResult _ h)
  · exact hQ.dropRequest _ (hQ.lastResult _ h)

theorem tripQueue (h : Q t) : Q t.tripQueue := by
  unfold State.tripQueue
  split
  · exact h
  · exact hQ.raiseGrid _ (OpClosed.foldl hQ.tripRequest _ h)

end RequestClosed

/-! ### A bay's entry into PARKED and its unplug -/

/-- A predicate kept by the updates of a bay's operations and by the making and clearing of that bay's link. -/
structure ParkClosed (b : BayNo) (Q : State → Prop) : Prop extends OpClosed Q where
  clearLink {t : State} : Q t → Q (t.clearLink b)
  testLink {t : State} : Q t → Q (t.testLink b)

namespace ParkClosed

variable {b : BayNo} {Q : State → Prop} (hQ : ParkClosed b Q) {t : State}
include hQ

theorem enterParked (h : Q t) : Q (t.enterParked b) :=
  hQ.testLink (hQ.leaves (by decide) (hQ.modBay b (fun _ => rfl) h))

theorem tryExit (h : Q t) : Q (t.tryExit b) := by
  unfold State.tryExit
  dsimp only
  split
  · exact hQ.enterParked (hQ.setFaultSet b _ h)
  · exact h

theorem unplug (h : Q t) : Q (t.unplug b) := by
  have hstopped := hQ.stopTimers b (hQ.clearLink (hQ.dropOrder b (some .unplug) true h))
  exact hQ.leaves (by decide) (hQ.modFault b _ (hQ.modBay b (fun _ => rfl) hstopped))

theorem replyOutOfService (h : Q t) : Q (t.replyOutOfService b) := by
  unfold State.replyOutOfService
  dsimp only
  split
  · exact hQ.clearLink (hQ.endReleaseIf b _ h)
  · exact hQ.endReleaseIf b _ h

theorem replyEmpty (h : Q t) : Q (t.replyEmpty b) := by
  unfold State.replyEmpty
  split
  · exact hQ.detect b h
  · exact h

theorem replyDetected (h : Q t) : Q (t.replyDetected b) := by
  unfold State.replyDetected
  split
  · exact hQ.leaves (by decide) h
  · split
    · exact hQ.enterParked h
    · exact hQ.detect b (hQ.leaves (by decide) h)

theorem replyPlugged (before : Nat) (h : Q t) : Q (t.replyPlugged b before) := by
  unfold State.replyPlugged
  split
  · exact hQ.unplug h
  · split
    · exact hQ.detect b (hQ.unplug h)
    · exact hQ.replySameBus b h

theorem replyTransition (before : Nat) (h : Q t) : Q (t.replyTransition b before) := by
  unfold State.replyTransition
  cases (t.bay b).state
  case empty => exact hQ.replyEmpty h
  case detected => exact hQ.replyDetected h
  case outOfService => exact hQ.replyOutOfService h
  all_goals exact hQ.replyPlugged before h

theorem exitAtReply (h : Q t) : Q (t.exitAtReply b) := by
  unfold State.exitAtReply
  split
  · exact hQ.tryExit h
  · exact h

/-- What follows the writing of a valid reply's telemetry. -/
theorem takenReply (before answered : Nat) (left : BayState) (h : Q t) :
    Q (((((t.replyTransition b before).checkReply b answered).exitAtReply b).reserveGuard b).handIfChanged b left) :=
  hQ.handIfChanged b _ (hQ.reserveGuard b (hQ.exitAtReply (hQ.checkReply b answered (hQ.replyTransition before h))))

end ParkClosed

/-! ### The links of the bays -/

/-- A predicate kept by the updates of links, telemetry and caps too. A link is made only of an unlinked bay and an
unlinked enrolled vehicle. -/
structure LinkClosed (Q : State → Prop) : Prop extends RequestClosed Q where
  setRecord {t : State} {b : BayNo} {r : BayRecord} : r.state = (t.bay b).state → r.link = (t.bay b).link → Q t →
    Q (t.setBay b r)
  clearLink {t : State} (b : BayNo) : Q t → Q (t.clearLink b)
  linkBay {t : State} {b : BayNo} {v : Vehicle} : (t.bay b).link = none → t.vehicle? v.number = some v →
    v.bayLink = none → Q t → Q (t.linkBay b v)

namespace LinkClosed

variable {Q : State → Prop} (hQ : LinkClosed Q) {t : State}
include hQ

theorem recomputeCaps (b : BayNo) (h : Q t) : Q (t.recomputeCaps b) := hQ.setRecord rfl rfl h

theorem recomputeAll (h : Q t) : Q (allBays.foldl State.recomputeCaps t) := OpClosed.foldl hQ.recomputeCaps allBays h

theorem testLink (b : BayNo) (h : Q t) : Q (t.testLink b) := by
  unfold State.testLink
  split
  · exact h
  case h_2 hlink =>
    split
    case h_1 v hv =>
      split
      case isTrue hfree =>
        exact hQ.linkBay hlink (by rw [(State.vehicle?_number hv).2]; exact hv) hfree.1 h
      case isFalse => exact hQ.raiseFleet _ h
    · exact hQ.raiseFleet _ h

theorem park (b : BayNo) : ParkClosed b Q where
  toOpClosed := hQ.toOpClosed
  clearLink h := hQ.clearLink b h
  testLink h := hQ.testLink b h

theorem enterParked (b : BayNo) (h : Q t) : Q (t.enterParked b) := (hQ.park b).enterParked h

theorem tryExit (b : BayNo) (h : Q t) : Q (t.tryExit b) := (hQ.park b).tryExit h

theorem takeReply (b : BayNo) (tele : Telemetry) (answered : Nat) (h : Q t) : Q (t.takeReply b tele answered) := by
  have hwritten := hQ.recomputeCaps b (hQ.setRecord (b := b) (r := { t.bay b with tele := tele }) rfl rfl h)
  exact (hQ.park b).takenReply _ _ _ hwritten

theorem unlinkBay (b : BayNo) (h : Q t) : Q (t.unlinkBay b) := hQ.releaseFor b _ (hQ.clearLink b h)

theorem unlinkIf (link : Option BayNo) (h : Q t) : Q (t.unlinkIf link) := by
  cases link with
  | none => exact h
  | some b => exact hQ.unlinkBay b h

theorem restoreBay (b : BayNo) (h : Q t) : Q (t.restoreBay b) :=
  hQ.handIfChanged b _ (hQ.restart b (hQ.clearLink b (hQ.modFault b _ h)))

theorem linkWaiting (n : Nat) (h : Q t) : Q (t.linkWaiting n) := by
  unfold State.linkWaiting
  split
  case h_1 v hv =>
    split
    case isTrue hfree =>
      split
      case h_1 b hb =>
        have hwaits := List.find?_some hb
        simp only [Bool.and_eq_true, beq_iff_eq] at hwaits
        exact hQ.linkBay hwaits.1.2 (by rw [(State.vehicle?_number hv).2]; exact hv) hfree.2 h
      case h_2 => exact h
    case isFalse => exact h
  case h_2 => exact h

theorem refreshLinked (b : BayNo) (capacity : Nat) (h : Q t) : Q (t.refreshLinked b capacity) := by
  have hcaps := hQ.recomputeCaps b (hQ.setRecord (b := b)
    (r := { t.bay b with tele := { (t.bay b).tele with energy := min (t.bay b).tele.energy capacity } }) rfl rfl h)
  unfold State.refreshLinked State.handIfCap
  dsimp only
  split
  · exact hcaps
  · exact hQ.hand _ hcaps

theorem replaceLink (n : Nat) (link : Option BayNo) (capacity : Nat) (consent : Bool) (h : Q t) :
    Q (t.replaceLink n link capacity consent) := by
  cases link with
  | none => exact hQ.linkWaiting n h
  | some b =>
    cases consent
    · exact hQ.unlinkBay b h
    · exact hQ.refreshLinked b capacity h

end LinkClosed

end Sys2Proof.Machine
end

section
/-! SUPPORT. Predicates that every command keeps: the updates that stand in one command alone, one lemma for each command,
and at the end `exec` and `step`. -/

namespace Sys2Proof.Machine

/-! ### After a TRIP (R152) -/

theorem State.queue_tripRequest (s : State) (r : Request) :
    (s.tripRequest r).queue = s.queue.filter fun q => q.id != r.id := by
  unfold State.tripRequest
  split <;> rfl

theorem State.mem_queue_foldl_tripRequest {l : List Request} {s : State} {q : Request} :
    q ∈ (l.foldl State.tripRequest s).queue ↔ q ∈ s.queue ∧ ∀ r ∈ l, q.id ≠ r.id := by
  induction l generalizing s with
  | nil => simp
  | cons r l ih => simp [ih, State.queue_tripRequest, and_assoc]

/-- A TRIP leaves no request (R85). -/
theorem State.queue_tripQueue (s : State) : s.tripQueue.queue = [] := by
  unfold State.tripQueue
  split
  case isTrue h => exact h
  case isFalse =>
    refine List.eq_nil_iff_forall_not_mem.mpr fun q hq => ?_
    obtain ⟨hmem, hleft⟩ := State.mem_queue_foldl_tripRequest.mp hq
    exact hleft q hmem rfl

theorem State.releaseIfEngaged_other (s : State) (b : BayNo) : s.otherBays (s.releaseIfEngaged b) b := by
  unfold State.releaseIfEngaged
  split
  · exact s.release_other b
  · exact s.otherBays_refl b

theorem State.engaged_releaseIfEngaged (s : State) (b : BayNo) :
    ((s.releaseIfEngaged b).bay b).state.engaged = false := by
  unfold State.releaseIfEngaged
  split
  case isTrue h =>
    have hstate : (s.bay b).state ≠ .releasing := fun e => by simp [e, BayState.engaged, BayState.exporting] at h
    rw [(s.bayReleased_release b hstate).1]
    rfl
  case isFalse h => simpa using h

/-- A TRIP leaves no bay in BINDING or in an exporting state (R29). -/
theorem State.engaged_foldl_tripBay (s : State) (b : BayNo) :
    ((allBays.foldl State.tripBay s).bay b).state.engaged = false := by
  obtain ⟨m, -, hm⟩ := foldl_allBays State.releaseIfEngaged_other b s
  have hbay : (allBays.foldl State.tripBay s).bay b = (m.releaseIfEngaged b).bay b := hm.1
  rw [hbay]
  exact m.engaged_releaseIfEngaged b

/-! ### What a command's part hands back -/

theorem state_of_ok {s t : State} {d d' : List Byte} (h : (Except.ok (s, d) : CmdResult) = .ok (t, d')) : s = t :=
  congrArg Prod.fst (Except.ok.inj h)

theorem not_ok {r : ResultCode} {x : State × List Byte} (h : (Except.error r : CmdResult) = .ok x) : False := by
  cases h

/-! ### Reads (R14, R15, R43, R80, R92) -/

section Reads

variable {s t : State} {data : List Byte}

theorem readProfile_state {index : Byte} (h : readProfile index s = .ok (t, data)) : t = s := by
  unfold readProfile at h
  split at h
  · cases h
  · split at h
    · cases h
      rfl
    · cases h

theorem readRequest_state {id : Byte} (h : readRequest id s = .ok (t, data)) : t = s := by
  unfold readRequest at h
  split at h
  · cases h
    rfl
  · split at h
    · cases h
      rfl
    · cases h

theorem readVehicle_state {number : BitVec 16} (h : readVehicle number s = .ok (t, data)) : t = s := by
  unfold readVehicle at h
  split at h
  · cases h
  · split at h
    · cases h
      rfl
    · cases h

theorem readBay_state {bay : Byte} (h : readBay bay s = .ok (t, data)) : t = s := by
  unfold readBay at h
  split at h
  · cases h
    rfl
  · cases h

theorem readRoster_state {start count : Byte} (h : readRoster start count s = .ok (t, data)) : t = s := by
  unfold readRoster at h
  split at h
  · cases h
  · cases h
    rfl

end Reads

/-! ### The updates of single commands -/

/-- A predicate kept by what each command does between the checks of its own and its reply, with what those checks
found. The commands that reset the part or write a port's transaction stand in `CommandClosed`. -/
structure EventClosed (Q : State → Prop) : Prop where
  hand {t : State} (n : Notice) : Q t → Q (t.hand n)
  join {t : State} (b : BayNo) : Q t → Q (t.join b)
  raiseFleet {t : State} (e : FleetEvent) : Q t → Q (t.raiseFleet e)
  raiseGrid {t : State} (e : GridEvent) : Q t → Q (t.raiseGrid e)
  notices {t : State} (l : List Notice) : Q t → Q { t with notices := l }
  markCheck {t : State} {b : BayNo} : (t.bay b).state = .transfer → Q t →
    Q (t.modBay b fun r => { r with checkDue := true })
  startDueCheck {t : State} {b : BayNo} : (t.bay b).state = .bound → (t.bay b).settleTimer.isSome = false → Q t →
    Q ((t.modBay b fun r => { r with checkDue := true }).startCheck b)
  declineBay {t : State} {b : BayNo} (cause : EndCause) : (t.bay b).state = .transfer → Q t → Q (t.declineBay b cause)
  reportFault {t : State} (b : BayNo) (kind : FaultKind) : Q t → Q (t.reportFault b kind)
  settle {t : State} (b : BayNo) : Q t → Q ((t.modBay b fun r => { r with settleTimer := none }).settled b)
  enterParked {t : State} {b : BayNo} : (t.bay b).state = .cooldown → Q t → Q (t.enterParked b)
  releaseTimeout {t : State} (b : BayNo) : Q t → Q (t.releaseTimeout b)
  holdOver {t : State} {b : BayNo} : (t.bay b).state = .fault → Q t →
    Q (((t.modFault b fun f => { f with hold := none }).tryExit b).handIfChanged b .fault)
  stepOrder {t : State} {b : BayNo} {o : Order} : t.order b = some o → (t.bay b).state = .transfer → Q t →
    Q (t.stepOrder b o)
  finishOrder {t : State} {b : BayNo} {o : Order} : t.order b = some o → (t.bay b).state = .transfer → Q t →
    Q (t.finishOrder b o)
  endRequest {t : State} (id : Nat) (cause : RequestCause) (orderCause : EndCause) : Q t →
    Q (t.endRequest id cause orderCause)
  activate {t : State} {r : Request} : r ∈ t.queue → t.active? = none → Q t → Q (t.activate r)
  takeOrderEnd {t : State} (id : Nat) (cause : Option EndCause) (energy : Nat) (byTransition : Bool) : Q t →
    Q (t.takeOrderEnd id cause energy byTransition)
  takeChange {t : State} : Q t → Q t.takeChange
  second {t : State} : Q t → Q t.advanceTimers.secondTest.evaluateGuards
  takeReply {t : State} (b : BayNo) (tele : Telemetry) (answered : Nat) : Q t → Q (t.takeReply b tele answered)
  setLine {t : State} (b : BayNo) (l : LineRecord) : Q t → Q (t.setLine b l)
  pollNext {t : State} {b : BayNo} {rest : List BayNo} : t.pollQueue = b :: rest → Q t → Q { t with pollQueue := rest }
  exchange {t : State} (x : Option Exchange) : Q t → Q { t with exchange := x }
  setPort {t : State} {p : Port} {x : PortState} : x.transaction = (t.port p).transaction →
    (p = .fleet → x.flags &&& fleetBit .bayChange = t.fleet.flags &&& fleetBit .bayChange) → Q t → Q (t.setPort p x)
  eventsRead {t : State} {flags : Byte} : Q t → Q { t with fleet := { t.fleet with flags := flags }, changeSet := 0 }
  setClock {t : State} {n : Nat} : n < Config.daySeconds → Q t → Q { t with clock := n, clockValid := true }
  profiles {t : State} (x : Vector (Option Profile) 8) : Q t → Q { t with profiles := x }
  submit {t : State} {r : Request} (countdown : Nat) : t.device = .run → r.isActive = false →
    (∀ q ∈ t.queue, q.id ≠ r.id) → t.queue.length < 4 → Q t →
    Q { t with queue := insertRequest r countdown t.queue }
  retargetActive {t : State} {r : Request} (remaining power : Nat) : r ∈ t.queue → r.isActive = true → Q t →
    Q (retargetActive t r remaining power)
  dropRequest {t : State} (id : Nat) : Q t → Q (t.dropRequest id)
  writeSite {t : State} {x : Site} : x.valid = true → Q t → Q (t.writeSite x)
  policy {t : State} (x : FaultPolicy) (faults : Bank FaultSet) : Q t → Q { t with policy := x, faults := faults }
  append {t : State} {v : Vehicle} : t.vehicle? v.number = none → t.roster.length < 48 → v.bayLink = none → Q t →
    Q { t with roster := t.roster ++ [v] }
  linkWaiting {t : State} (n : Nat) : Q t → Q (t.linkWaiting n)
  modVehicle {t : State} (n : Nat) {f : Vehicle → Vehicle} :
    (∀ v, (f v).number = v.number ∧ (f v).bayLink = v.bayLink) → Q t → Q (t.modVehicle n f)
  replaceLink {t : State} (n : Nat) (link : Option BayNo) (capacity : Nat) (consent : Bool) : Q t →
    Q (t.replaceLink n link capacity consent)
  rearm {t : State} (link : Option BayNo) : Q t → Q (t.rearm link)
  withdraw {t : State} {n : Nat} {v : Vehicle} : t.vehicle? n = some v → Q t →
    Q ((t.unlinkIf v.bayLink).removeVehicle n)
  ratedCap {t : State} (b : BayNo) (cap : Nat) : Q t →
    Q ((t.modBay b fun r => { r with ratedCap := cap }).recomputeCaps b)
  releaseFor {t : State} (b : BayNo) (cause : EndCause) : Q t → Q (t.releaseFor b cause)
  takeBayOut {t : State} {b : BayNo} : (t.bay b).state ≠ .outOfService → Q t → Q (t.takeBayOut b)
  restoreBay {t : State} {b : BayNo} : (t.bay b).state = .outOfService → Q t → Q (t.restoreBay b)
  run {t : State} : t.siteValid = true → t.clockValid = true → Q t → Q { t with device := .run }
  doTrip {t : State} : Q t → Q t.doTrip

/-- A predicate kept by the resets and by the start and the end of a transaction, too. -/
structure CommandClosed (Q : State → Prop) : Prop extends EventClosed Q where
  powerOn {t : State} : Q t → Q { State.reset with pending := t.pending }
  softReset {t : State} : Q t → Q t.softReset
  setFrame {t : State} {p : Port} {x : PortState} : x.flags = (t.port p).flags → Q t → Q (t.setPort p x)

/-- The commands that reset the part, or start or end a transaction. -/
def resetsOrFrames : Instr → Bool
  | .powerOnReset | .resetDevice | .transactionStart _ | .frameEnd _ _ _ => true
  | _ => false

/-- A command answers a next state that meets the predicate. -/
def Keeps (Q : State → Prop) (o : Host.Outcome State Fault Refusal) : Prop := ∃ t, o = .next t ∧ Q t

theorem keeps_next {Q : State → Prop} {t : State} (h : Q t) : Keeps Q (.next t) := ⟨t, rfl, h⟩

theorem flags_handleFrame (x : PortState) (p : Port) : (x.handleFrame p).flags = x.flags := by
  unfold PortState.handleFrame PortState.take
  dsimp only
  split
  · rfl
  · split
    · rfl
    · split
      · rfl
      · split <;> rfl

namespace EventClosed

variable {Q : State → Prop} (hQ : EventClosed Q) {s : State}
include hQ

/-! #### Events of the bays -/

theorem checkDue (b : BayNo) (h : Q s) : Keeps Q (execCheckDue b s) := by
  unfold execCheckDue
  dsimp only
  split
  · split
    case h_1 hstate =>
      split
      · exact keeps_next h
      case isFalse hsettled => exact keeps_next (hQ.startDueCheck hstate (by simpa using hsettled) h)
    case h_2 hstate => exact keeps_next (hQ.markCheck hstate h)
    · exact keeps_next h
  · exact keeps_next h

theorem deferralLimit (b : BayNo) (h : Q s) : Keeps Q (execDeferralLimit b s) := by
  unfold execDeferralLimit
  split
  case isTrue hlimit => exact keeps_next (hQ.declineBay _ hlimit.1 h)
  case isFalse => exact keeps_next h

theorem bindingTimerExpiry (b : BayNo) (h : Q s) : Keeps Q (execBindingTimerExpiry b s) := by
  unfold execBindingTimerExpiry
  split
  · exact keeps_next (hQ.reportFault b _ h)
  · exact keeps_next h

theorem settleExpiry (b : BayNo) (h : Q s) : Keeps Q (execSettleExpiry b s) := by
  unfold execSettleExpiry
  split
  · exact keeps_next (hQ.settle b h)
  · exact keeps_next h

theorem cooldownExpiry (b : BayNo) (h : Q s) : Keeps Q (execCooldownExpiry b s) := by
  unfold execCooldownExpiry
  split
  case isTrue hover => exact keeps_next (hQ.enterParked hover.1 h)
  case isFalse => exact keeps_next h

theorem checkTimerExpiry (b : BayNo) (h : Q s) : Keeps Q (execCheckTimerExpiry b s) := by
  unfold execCheckTimerExpiry
  split
  · exact keeps_next (hQ.reportFault b _ h)
  · exact keeps_next h

theorem releaseTimerExpiry (b : BayNo) (h : Q s) : Keeps Q (execReleaseTimerExpiry b s) := by
  unfold execReleaseTimerExpiry
  split
  · exact keeps_next (hQ.releaseTimeout b h)
  · exact keeps_next h

theorem holdExpiry (b : BayNo) (h : Q s) : Keeps Q (execHoldExpiry b s) := by
  unfold execHoldExpiry
  split
  case isTrue hover => exact keeps_next (hQ.holdOver hover.1 h)
  case isFalse => exact keeps_next h

/-! #### Events of the orders and of the Request Queue -/

theorem orderStep (b : BayNo) (h : Q s) : Keeps Q (execOrderStep b s) := by
  unfold execOrderStep
  split
  case h_1 o ho =>
    split
    case isTrue hdue => exact keeps_next (hQ.stepOrder ho hdue.1 h)
    case isFalse => exact keeps_next h
  case h_2 => exact keeps_next h

theorem cutTimerExpiry (b : BayNo) (h : Q s) : Keeps Q (execCutTimerExpiry b s) := by
  unfold execCutTimerExpiry
  split
  case h_1 o ho =>
    split
    case isTrue hcut => exact keeps_next (hQ.finishOrder ho hcut.1 h)
    case isFalse => exact keeps_next h
  case h_2 => exact keeps_next h

theorem windowEnd (h : Q s) : Keeps Q (execWindowEnd s) := by
  unfold execWindowEnd
  split
  · split
    · exact keeps_next (hQ.endRequest _ _ _ h)
    · exact keeps_next h
  · exact keeps_next h

theorem activation (h : Q s) : Keeps Q (execActivation s) := by
  unfold execActivation
  split
  case h_1 r hnone hdue => exact keeps_next (hQ.activate (List.mem_of_find?_eq_some hdue) hnone h)
  case h_2 => exact keeps_next h

theorem orderEndNotice (h : Q s) : Keeps Q (execOrderEndNotice s) := by
  unfold execOrderEndNotice
  split
  · exact keeps_next (hQ.takeOrderEnd _ _ _ _ (hQ.notices _ h))
  · exact keeps_next h

theorem changeNotice (h : Q s) : Keeps Q (execChangeNotice s) := by
  unfold execChangeNotice
  split
  · exact keeps_next (hQ.takeChange (hQ.notices _ h))
  · exact keeps_next h

/-! #### The Bay Link -/

theorem countMiss (b : BayNo) (h : Q s) : Q (s.countMiss b) := hQ.setLine b _ h

theorem miss (b : BayNo) (h : Q s) : Q (s.miss b) := by
  unfold State.miss
  split
  · exact hQ.reportFault b _ (hQ.countMiss b h)
  · exact hQ.countMiss b h

theorem endAsMiss (h : Q s) : Q s.endAsMiss := by
  unfold State.endAsMiss
  split
  · split
    · exact hQ.miss _ (hQ.exchange none h)
    · exact h
  · exact h

theorem pollClassPeriod (b : BayNo) (h : Q s) : Keeps Q (execPollClassPeriod b s) := by
  unfold execPollClassPeriod
  split
  · exact keeps_next (hQ.join b (hQ.setLine b _ h))
  · exact keeps_next h

theorem pollStart (h : Q s) : Keeps Q (execPollStart s) := by
  unfold execPollStart
  split
  case h_1 b rest hfree hqueue =>
    exact keeps_next (hQ.exchange _ (hQ.setLine b _ (hQ.pollNext hqueue h)))
  case h_2 => exact keeps_next h

theorem pollEnd (h : Q s) : Keeps Q (execPollEnd s) := by
  unfold execPollEnd
  split
  · exact keeps_next (hQ.exchange _ h)
  · exact keeps_next h

theorem replyReceived (bytes : List Byte) (framingError : Bool) (h : Q s) :
    Keeps Q (execReplyReceived bytes framingError s) := by
  unfold execReplyReceived
  split
  · split
    · split
      · exact keeps_next (hQ.takeReply _ _ _ (hQ.setLine _ _ (hQ.exchange none h)))
      · exact keeps_next (hQ.miss _ (hQ.exchange none h))
    · exact keeps_next h
  · exact keeps_next h

/-! #### The ports -/

/-- A port written with its flags kept. -/
theorem setPortFlags {p : Port} {x : PortState} (htransaction : x.transaction = (s.port p).transaction)
    (hflags : x.flags = (s.port p).flags) (h : Q s) : Q (s.setPort p x) :=
  hQ.setPort htransaction (by rintro rfl; rw [hflags]; rfl) h

theorem answer (p : Port) (reply : List Byte) (h : Q s) : Q (s.answer p reply) := hQ.setPortFlags rfl rfl h

theorem commandCompletion (p : Port) (h : Q s) : Keeps Q (execCommandCompletion p s) := by
  unfold execCommandCompletion
  split
  · exact keeps_next (hQ.setPortFlags rfl rfl h)
  · exact keeps_next h
  · exact keeps_next h

/-- A command carried out keeps what its block's part of it keeps. -/
theorem carryOut (p : Port) (c : Instr) {run : State → CmdResult} (hrun : ∀ t data, run s = .ok (t, data) → Q t)
    (h : Q s) : Keeps Q (carryOut p c run s) := by
  unfold Machine.carryOut
  split
  · split
    · exact keeps_next (hQ.answer p _ h)
    case h_2 t data ht => exact keeps_next (hQ.answer p _ (hrun t data ht))
  · exact keeps_next h

/-- A read's part writes nothing. -/
theorem carryOutRead (p : Port) (c : Instr) {run : State → CmdResult} (hrun : ∀ t data, run s = .ok (t, data) → t = s)
    (h : Q s) : Keeps Q (Machine.carryOut p c run s) :=
  hQ.carryOut p c (fun t data ht => hrun t data ht ▸ h) h

theorem readEvents (p : Port) (h : Q s) : Keeps Q (execReadEvents p s) := by
  refine hQ.carryOut p _ (fun t data ht => ?_) h
  cases p
  · cases ht
    exact hQ.setPort (p := .grid) rfl (by simp) h
  · obtain rfl := state_of_ok ht
    have hread := hQ.eventsRead (flags := s.fleet.flags &&& resetBit .fleet) h
    exact hread

theorem setEventMask (p : Port) (mask : Byte) (h : Q s) : Keeps Q (execSetEventMask p mask s) := by
  refine hQ.carryOut p _ (fun t data ht => ?_) h
  unfold Machine.setEventMask at ht
  split at ht
  · cases ht
  · cases ht
    exact hQ.setPortFlags rfl rfl h

theorem ackReset (p : Port) (h : Q s) : Keeps Q (execAckReset p s) := by
  refine hQ.carryOut p _ (fun t data ht => ?_) h
  cases ht
  refine hQ.setPort rfl ?_ h
  rintro rfl
  show s.fleet.flags &&& ~~~ fleetBit .reset &&& fleetBit .bayChange = _
  rw [BitVec.and_assoc]
  rfl

/-! #### Commands of the grid port -/

theorem setClockCommand (second : BitVec 24) (h : Q s) : Keeps Q (execSetClock second s) := by
  refine hQ.carryOut _ _ (fun t data ht => ?_) h
  unfold Machine.setClock at ht
  split at ht
  · exact (not_ok ht).elim
  case isFalse hrange =>
    obtain rfl := state_of_ok ht
    exact hQ.setClock (Nat.not_le.mp hrange) h

theorem loadProfile (index : Byte) (ps lead : BitVec 16) (bands : List (BitVec 16 × BitVec 16)) (h : Q s) :
    Keeps Q (execLoadProfile index ps lead bands s) := by
  refine hQ.carryOut _ _ (fun t data ht => ?_) h
  unfold Machine.loadProfile at ht
  dsimp only at ht
  split_ifs at ht
  obtain rfl := state_of_ok ht
  exact hQ.profiles _ h

theorem submitRequest (id : Byte) (start : BitVec 24) (length power : BitVec 16) (profile release : Byte) (h : Q s) :
    Keeps Q (execSubmitRequest id start length power profile release s) := by
  refine hQ.carryOut _ _ (fun t data ht => ?_) h
  unfold Machine.submitRequest at ht
  dsimp only at ht
  split at ht
  · exact (not_ok ht).elim
  case isFalse hrun =>
    split at ht
    · exact (not_ok ht).elim
    · split at ht
      · split_ifs at ht with hid hroom
        obtain rfl := state_of_ok ht
        refine hQ.submit _ (by simpa using hrun) rfl (fun q hq he => hid ?_) (Nat.not_le.mp hroom) h
        exact (s.isSome_request? _).mpr ⟨q, hq, he⟩
      · exact (not_ok ht).elim

theorem retarget (id : Byte) (power : BitVec 16) (h : Q s) : Keeps Q (execRetarget id power s) := by
  refine hQ.carryOut _ _ (fun t data ht => ?_) h
  unfold Machine.retarget at ht
  split at ht
  · exact (not_ok ht).elim
  split at ht
  · exact (not_ok ht).elim
  case h_2 r hr =>
    split at ht
    case h_1 remaining eligible hstate =>
      obtain rfl := state_of_ok ht
      exact hQ.retargetActive _ _ (State.mem_of_request? hr).1 (Request.isActive_of_state hstate) h
    · exact (not_ok ht).elim
    · exact (not_ok ht).elim

theorem curtail (id : Byte) (h : Q s) : Keeps Q (execCurtail id s) := by
  refine hQ.carryOut _ _ (fun t data ht => ?_) h
  unfold Machine.curtail at ht
  split at ht
  · exact (not_ok ht).elim
  split at ht
  · exact (not_ok ht).elim
  · split at ht
    · obtain rfl := state_of_ok ht
      exact hQ.endRequest _ _ _ h
    · exact (not_ok ht).elim
    · exact (not_ok ht).elim

theorem cancel (id : Byte) (h : Q s) : Keeps Q (execCancel id s) := by
  refine hQ.carryOut _ _ (fun t data ht => ?_) h
  unfold Machine.cancel at ht
  split at ht
  · exact (not_ok ht).elim
  split at ht
  · exact (not_ok ht).elim
  · split at ht
    · obtain rfl := state_of_ok ht
      exact hQ.dropRequest _ h
    · exact (not_ok ht).elim
    · exact (not_ok ht).elim

/-! #### Commands of the fleet port -/

theorem setSite (limit eta guard hold : BitVec 16) (tcz tcf thf thz tmax : Byte) (h : Q s) :
    Keeps Q (execSetSite limit eta guard hold tcz tcf thf thz tmax s) := by
  refine hQ.carryOut _ _ (fun t data ht => ?_) h
  unfold Machine.setSite at ht
  split at ht
  case isTrue hvalid =>
    obtain rfl := state_of_ok ht
    exact hQ.writeSite hvalid h
  case isFalse => exact (not_ok ht).elim

theorem setFaultPolicy (a b c d e f : Byte) (h : Q s) : Keeps Q (execSetFaultPolicy a b c d e f s) := by
  refine hQ.carryOut _ _ (fun t data ht => ?_) h
  unfold Machine.setFaultPolicy at ht
  split at ht
  · exact (not_ok ht).elim
  · obtain rfl := state_of_ok ht
    exact hQ.policy _ _ h

theorem enrollVehicle (number : BitVec 16) (capacity floor : BitVec 24) (pChg pDis : BitVec 16) (consent : Byte)
    (h : Q s) : Keeps Q (execEnrollVehicle number capacity floor pChg pDis consent s) := by
  refine hQ.carryOut _ _ (fun t data ht => ?_) h
  unfold Machine.enrollVehicle at ht
  split at ht
  · exact (not_ok ht).elim
  split at ht
  case h_1 old hold =>
    split_ifs at ht
    obtain rfl := state_of_ok ht
    exact hQ.hand _ (hQ.replaceLink _ _ _ _ (hQ.modVehicle _ (fun _ => ⟨rfl, rfl⟩) h))
  case h_2 hnew =>
    split_ifs at ht with hroom
    obtain rfl := state_of_ok ht
    exact hQ.hand _ (hQ.linkWaiting _ (hQ.append hnew (Nat.not_le.mp hroom) rfl h))

theorem setDeparture (number : BitVec 16) (form : Byte) (minute : BitVec 16) (qDep : BitVec 24) (h : Q s) :
    Keeps Q (execSetDeparture number form minute qDep s) := by
  refine hQ.carryOut _ _ (fun t data ht => ?_) h
  unfold Machine.setDeparture at ht
  split_ifs at ht
  all_goals
    split at ht
    · exact (not_ok ht).elim
    · split_ifs at ht
      obtain rfl := state_of_ok ht
      exact hQ.hand _ (hQ.rearm _ (hQ.modVehicle _ (fun _ => ⟨rfl, rfl⟩) h))

theorem withdrawVehicle (number : BitVec 16) (h : Q s) : Keeps Q (execWithdrawVehicle number s) := by
  refine hQ.carryOut _ _ (fun t data ht => ?_) h
  unfold Machine.withdrawVehicle at ht
  split at ht
  · exact (not_ok ht).elim
  split at ht
  · exact (not_ok ht).elim
  case h_2 v hv =>
    obtain rfl := state_of_ok ht
    exact hQ.hand _ (hQ.withdraw hv h)

theorem setRatedCap (bay : Byte) (cap : BitVec 16) (h : Q s) : Keeps Q (execSetBay bay cap s) := by
  refine hQ.carryOut _ _ (fun t data ht => ?_) h
  unfold Machine.setRatedCap at ht
  split at ht
  · exact (not_ok ht).elim
  · split_ifs at ht
    obtain rfl := state_of_ok ht
    exact hQ.hand _ (hQ.ratedCap _ _ h)

theorem releaseBay (bay : Byte) (h : Q s) : Keeps Q (execReleaseBay bay s) := by
  refine hQ.carryOut _ _ (fun t data ht => ?_) h
  unfold Machine.releaseBay at ht
  split at ht
  · exact (not_ok ht).elim
  · split_ifs at ht
    obtain rfl := state_of_ok ht
    exact hQ.releaseFor _ _ h

theorem takeBayOutCommand (bay : Byte) (h : Q s) : Keeps Q (execTakeBayOut bay s) := by
  refine hQ.carryOut _ _ (fun t data ht => ?_) h
  unfold Machine.takeBayOut at ht
  split at ht
  · exact (not_ok ht).elim
  · obtain rfl := state_of_ok ht
    split
    case isTrue => exact h
    case isFalse hleft => exact hQ.takeBayOut hleft h

theorem restoreBayCommand (bay : Byte) (h : Q s) : Keeps Q (execRestoreBay bay s) := by
  refine hQ.carryOut _ _ (fun t data ht => ?_) h
  unfold Machine.restoreBay at ht
  split at ht
  · exact (not_ok ht).elim
  · split_ifs at ht with hrefused
    obtain rfl := state_of_ok ht
    exact hQ.restoreBay (by_contra fun hne => hrefused (.inl hne)) h

/-! #### The device state -/

theorem raiseDeviceState (h : Q s) : Q s.raiseDeviceState := hQ.raiseFleet _ (hQ.raiseGrid _ h)

theorem enterRun (c : Instr) (isResume : Bool) (h : Q s) :
    Keeps Q (Machine.carryOut .fleet c (Machine.enterRun isResume) s) := by
  refine hQ.carryOut _ _ (fun t data ht => ?_) h
  unfold Machine.enterRun at ht
  split_ifs at ht with _ _ hsite hclock
  · obtain rfl := state_of_ok ht
    exact h
  · obtain rfl := state_of_ok ht
    exact hQ.raiseDeviceState (hQ.run (by simpa using hsite) (by simpa using hclock) h)

theorem trip (p : Port) (h : Q s) : Keeps Q (execTrip p s) := by
  refine hQ.carryOut _ _ (fun t data ht => ?_) h
  obtain rfl := state_of_ok ht
  exact hQ.doTrip h

/-! #### Every command -/

/-- A predicate that the updates keep is kept by every command of theirs, and each answers a next state. -/
theorem keeps_exec {c : Instr} (hc : resetsOrFrames c = false) (h : Q s) : Keeps Q (exec c s) := by
  cases c with
  | powerOnReset => cases hc
  | timebaseSecond => exact keeps_next (hQ.second h)
  | checkDue b => exact hQ.checkDue b h
  | deferralLimit b => exact hQ.deferralLimit b h
  | activation => exact hQ.activation h
  | windowEnd => exact hQ.windowEnd h
  | orderStep b => exact hQ.orderStep b h
  | orderEndNotice => exact hQ.orderEndNotice h
  | changeNotice => exact hQ.changeNotice h
  | cutTimerExpiry b => exact hQ.cutTimerExpiry b h
  | bindingTimerExpiry b => exact hQ.bindingTimerExpiry b h
  | settleExpiry b => exact hQ.settleExpiry b h
  | cooldownExpiry b => exact hQ.cooldownExpiry b h
  | checkTimerExpiry b => exact hQ.checkTimerExpiry b h
  | releaseTimerExpiry b => exact hQ.releaseTimerExpiry b h
  | holdExpiry b => exact hQ.holdExpiry b h
  | pollClassPeriod b => exact hQ.pollClassPeriod b h
  | pollStart => exact hQ.pollStart h
  | replyReceived bytes framingError => exact hQ.replyReceived bytes framingError h
  | replyStartTimeout => exact keeps_next (hQ.endAsMiss h)
  | replyIncompleteTimeout received => exact keeps_next (hQ.endAsMiss h)
  | lineNoise bytes => exact keeps_next h
  | transactionStart p => cases hc
  | frameEnd p mosi bits => cases hc
  | commandCompletion p => exact hQ.commandCompletion p h
  | nop p => exact keeps_next h
  | readEvents p => exact hQ.readEvents p h
  | setEventMask p mask => exact hQ.setEventMask p mask h
  | ackReset p => exact hQ.ackReset p h
  | trip p => exact hQ.trip p h
  | readClock p => exact hQ.carryOutRead p _ (run := fun s => .ok (s, _)) (fun t data ht => (state_of_ok ht).symm) h
  | readSite p => exact hQ.carryOutRead p _ (run := fun s => .ok (s, _)) (fun t data ht => (state_of_ok ht).symm) h
  | readDevice p => exact hQ.carryOutRead p _ (run := fun s => .ok (s, _)) (fun t data ht => (state_of_ok ht).symm) h
  | readProfile p index => exact hQ.carryOutRead p _ (fun t data => readProfile_state) h
  | readRequest p id => exact hQ.carryOutRead p _ (fun t data => readRequest_state) h
  | readResult p => exact hQ.carryOutRead p _ (run := fun s => .ok (s, _)) (fun t data ht => (state_of_ok ht).symm) h
  | readVehicle p number => exact hQ.carryOutRead p _ (fun t data => readVehicle_state) h
  | readBay p bay => exact hQ.carryOutRead p _ (fun t data => readBay_state) h
  | setClock second => exact hQ.setClockCommand second h
  | loadProfile index ps lead bands => exact hQ.loadProfile index ps lead bands h
  | submitRequest id start length power profile release =>
    exact hQ.submitRequest id start length power profile release h
  | retarget id power => exact hQ.retarget id power h
  | curtail id => exact hQ.curtail id h
  | cancel id => exact hQ.cancel id h
  | setSite limit eta guard hold tcz tcf thf thz tmax => exact hQ.setSite limit eta guard hold tcz tcf thf thz tmax h
  | setFaultPolicy a b c d e f => exact hQ.setFaultPolicy a b c d e f h
  | enrollVehicle number capacity floor pChg pDis consent =>
    exact hQ.enrollVehicle number capacity floor pChg pDis consent h
  | setDeparture number form minute qDep => exact hQ.setDeparture number form minute qDep h
  | withdrawVehicle number => exact hQ.withdrawVehicle number h
  | readRoster start count => exact hQ.carryOutRead .fleet _ (fun t data => readRoster_state) h
  | setBay bay cap => exact hQ.setRatedCap bay cap h
  | releaseBay bay => exact hQ.releaseBay bay h
  | takeBayOut bay => exact hQ.takeBayOutCommand bay h
  | restoreBay bay => exact hQ.restoreBayCommand bay h
  | start => exact hQ.enterRun .start false h
  | resume => exact hQ.enterRun .resume true h
  | resetDevice => cases hc
  | pollEnd => exact hQ.pollEnd h

end EventClosed

namespace CommandClosed

variable {Q : State → Prop} (hQ : CommandClosed Q) {s : State}
include hQ

theorem transactionStart (p : Port) (h : Q s) : Keeps Q (execTransactionStart p s) := by
  unfold execTransactionStart
  dsimp only
  split
  · exact keeps_next (hQ.setFrame rfl h)
  · exact keeps_next h

theorem frameEnd (p : Port) (mosi : List Byte) (bits : Nat) (h : Q s) : Keeps Q (execFrameEnd p mosi bits s) := by
  unfold execFrameEnd
  dsimp only
  split
  · exact keeps_next h
  · refine keeps_next (hQ.setFrame ?_ h)
    split
    · rfl
    · exact flags_handleFrame _ p

theorem resetDevice (h : Q s) : Keeps Q (execResetDevice s) := by
  refine hQ.carryOut _ _ (fun t data ht => ?_) h
  obtain rfl := state_of_ok ht
  exact hQ.softReset (hQ.doTrip h)

/-- A predicate that the updates keep is kept by every command, and every command answers a next state. -/
theorem keeps_exec (c : Instr) (h : Q s) : Keeps Q (exec c s) := by
  by_cases hc : resetsOrFrames c = false
  · exact hQ.toEventClosed.keeps_exec hc h
  · cases c with
    | powerOnReset => exact keeps_next (hQ.powerOn h)
    | resetDevice => exact hQ.resetDevice h
    | transactionStart p => exact hQ.transactionStart p h
    | frameEnd p mosi bits => exact hQ.frameEnd p mosi bits h
    | _ => exact absurd rfl hc

/-- A predicate that the updates keep, and that does not read the waiting commands, is kept by a step. -/
theorem step {t : State} (hpending : ∀ {s : State} (l : List Instr), Q s → Q { s with pending := l }) (h : Q s)
    (ht : Machine.step s = .next t) : Q t := by
  unfold Machine.step at ht
  split at ht
  · cases ht
    exact h
  case h_2 c rest hcommand =>
    obtain ⟨u, hu, hkept⟩ := hQ.keeps_exec c (hpending rest h)
    cases hu.symm.trans ht
    exact hkept

end CommandClosed

/-! ### Predicates kept by the single updates -/

/-- A predicate kept by the updates that stand in one command alone, too. The resets and the writes of a port's
transaction stand in `PartClosed`. -/
structure UpdateClosed (Q : State → Prop) : Prop extends LinkClosed Q where
  advance {t : State} : Q t → Q t.advanceTimers
  setLine {t : State} (b : BayNo) (l : LineRecord) : Q t → Q (t.setLine b l)
  pollNext {t : State} {b : BayNo} {rest : List BayNo} : t.pollQueue = b :: rest → Q t → Q { t with pollQueue := rest }
  exchange {t : State} (x : Option Exchange) : Q t → Q { t with exchange := x }
  setPort {t : State} {p : Port} {x : PortState} : x.transaction = (t.port p).transaction →
    (p = .fleet → x.flags &&& fleetBit .bayChange = t.fleet.flags &&& fleetBit .bayChange) → Q t → Q (t.setPort p x)
  eventsRead {t : State} {flags : Byte} : Q t → Q { t with fleet := { t.fleet with flags := flags }, changeSet := 0 }
  setClock {t : State} {n : Nat} : n < Config.daySeconds → Q t → Q { t with clock := n, clockValid := true }
  profiles {t : State} (x : Vector (Option Profile) 8) : Q t → Q { t with profiles := x }
  policy {t : State} (x : FaultPolicy) (faults : Bank FaultSet) : Q t → Q { t with policy := x, faults := faults }
  writeSite {t : State} {x : Site} : x.valid = true → Q t → Q (t.writeSite x)
  submit {t : State} {r : Request} (countdown : Nat) : t.device = .run → r.isActive = false →
    (∀ q ∈ t.queue, q.id ≠ r.id) → t.queue.length < 4 → Q t →
    Q { t with queue := insertRequest r countdown t.queue }
  run {t : State} : t.siteValid = true → t.clockValid = true → Q t → Q { t with device := .run }
  halt {t : State} : t.queue = [] → (∀ b, (t.bay b).state.engaged = false) → Q t → Q t.halt
  append {t : State} {v : Vehicle} : t.vehicle? v.number = none → t.roster.length < 48 → v.bayLink = none → Q t →
    Q { t with roster := t.roster ++ [v] }
  modVehicle {t : State} (n : Nat) {f : Vehicle → Vehicle} :
    (∀ v, (f v).number = v.number ∧ (f v).bayLink = v.bayLink) → Q t → Q (t.modVehicle n f)
  withdraw {t : State} {n : Nat} {v : Vehicle} : t.vehicle? n = some v → Q t →
    Q ((t.unlinkIf v.bayLink).removeVehicle n)

/-- A predicate kept by every single update. -/
structure PartClosed (Q : State → Prop) : Prop extends UpdateClosed Q where
  powerOn {t : State} : Q t → Q { State.reset with pending := t.pending }
  softReset {t : State} : Q t → Q t.softReset
  setFrame {t : State} {p : Port} {x : PortState} : x.flags = (t.port p).flags → Q t → Q (t.setPort p x)

namespace UpdateClosed

variable {Q : State → Prop} (hQ : UpdateClosed Q) {s : State}
include hQ

theorem doTrip (h : Q s) : Q s.doTrip := by
  have hbays := OpClosed.foldl hQ.releaseIfEngaged allBays (OpClosed.foldl hQ.tripOrder allBays h)
  refine hQ.raiseFleet _ (hQ.raiseGrid _ (hQ.halt (State.queue_tripQueue _) (fun b => ?_) (hQ.tripQueue hbays)))
  rw [State.bay, (State.tripQueue_frame _).bays (by simp)]
  exact State.engaged_foldl_tripBay _ b

theorem eventClosed : EventClosed Q where
  hand := hQ.hand
  join := hQ.join
  raiseFleet := hQ.raiseFleet
  raiseGrid := hQ.raiseGrid
  notices := hQ.notices
  markCheck _ h := hQ.modBay _ (fun _ => rfl) h
  startDueCheck hstate _ h :=
    hQ.startCheck (by simp [hstate, BayState.engaged, BayState.exporting]) (hQ.modBay _ (fun _ => rfl) h)
  declineBay cause _ h := hQ.declineBay _ cause h
  reportFault := hQ.reportFault
  settle b h := hQ.settled b (hQ.modBay b (fun _ => rfl) h)
  enterParked _ h := hQ.enterParked _ h
  releaseTimeout := hQ.releaseTimeout
  holdOver _ h := hQ.handIfChanged _ _ (hQ.tryExit _ (hQ.modFault _ _ h))
  stepOrder ho hstate h := hQ.stepOrder ho (by simp [hstate, BayState.engaged, BayState.exporting]) h
  finishOrder _ hstate h := hQ.finishOrder _ (by simp [hstate, BayState.engaged, BayState.exporting]) h
  endRequest := hQ.endRequest
  activate hr hnone h := hQ.activate hr hnone h
  takeOrderEnd := hQ.takeOrderEnd
  takeChange := hQ.takeChange
  second h := hQ.evaluateGuards (hQ.secondTest (hQ.advance h))
  takeReply := hQ.takeReply
  setLine := hQ.setLine
  pollNext := hQ.pollNext
  exchange := hQ.exchange
  setPort := hQ.setPort
  eventsRead := hQ.eventsRead
  setClock := hQ.setClock
  profiles := hQ.profiles
  submit := hQ.submit
  retargetActive remaining power hr hactive h := hQ.retargetActive remaining power hr hactive h
  dropRequest := hQ.dropRequest
  writeSite := hQ.writeSite
  policy := hQ.policy
  append := hQ.append
  linkWaiting := hQ.linkWaiting
  modVehicle := hQ.modVehicle
  replaceLink := hQ.replaceLink
  rearm := hQ.rearm
  withdraw := hQ.withdraw
  ratedCap b _ h := hQ.recomputeCaps b (hQ.setRecord rfl rfl h)
  releaseFor := hQ.releaseFor
  takeBayOut _ h := hQ.takeBayOut _ h
  restoreBay _ h := hQ.restoreBay _ h
  run := hQ.run
  doTrip := hQ.doTrip

end UpdateClosed

theorem PartClosed.commandClosed {Q : State → Prop} (hQ : PartClosed Q) : CommandClosed Q where
  toEventClosed := hQ.eventClosed
  powerOn := hQ.powerOn
  softReset := hQ.softReset
  setFrame := hQ.setFrame

end Sys2Proof.Machine
end

section
/-! SUPPORT. The poll queue, the clock, the site settings, the device state and the change set (R134, R147, R150, R154,
R168): every update keeps them sound, and from that the statement O59. -/

namespace Sys2Proof.Machine

/-- The parts of O59 together. -/
def State.controlled (s : State) : Prop := s.pollQueueSound ∧ s.controlsSound

/-! ### The poll queue (R134) -/

/-- Sixteen bays without a repetition are at most sixteen. -/
theorem State.pollQueueSound_iff (s : State) : s.pollQueueSound ↔ s.pollQueue.Nodup :=
  ⟨And.left, fun h => ⟨h, by simpa using h.length_le_card⟩⟩

theorem State.pollQueueSound_join {s : State} (b : BayNo) (h : s.pollQueueSound) : (s.join b).pollQueueSound := by
  rw [State.pollQueueSound_iff] at h ⊢
  rw [State.join_pollQueue]
  split
  case isTrue => exact h
  case isFalse hnew => simpa [List.nodup_append, h] using fun a ha (he : a = b) => hnew (he ▸ ha)

/-! ### The change set (R168) -/

/-- Bits added to a flag byte leave a set bit set. -/
theorem and_ne_zero_of_or {w : Nat} {x y z : BitVec w} (h : x &&& y ≠ 0) : (x ||| z) &&& y ≠ 0 := by
  obtain ⟨i, hx, hy⟩ := and_ne_zero_iff_getLsbD.mp h
  exact and_ne_zero_iff_getLsbD.mpr ⟨i, by simp [hx], hy⟩

theorem or_bayChange_ne_zero (x : Byte) : (x ||| fleetBit .bayChange) &&& fleetBit .bayChange ≠ 0 :=
  and_ne_zero_iff_getLsbD.mpr ⟨0, by simp [fleetBit], by simp [fleetBit]⟩

theorem State.controlled_markBay {s : State} (b : BayNo) (h : s.controlled) : (s.markBay b).controlled := by
  obtain ⟨hpoll, hclock, hsite, hvalid, -⟩ := h
  exact ⟨hpoll, hclock, hsite, hvalid, fun _ => or_bayChange_ne_zero _⟩

theorem State.controlled_raiseFleet {s : State} (e : FleetEvent) (h : s.controlled) : (s.raiseFleet e).controlled := by
  obtain ⟨hpoll, hclock, hsite, hvalid, hmarked⟩ := h
  exact ⟨hpoll, hclock, hsite, hvalid, fun hset => and_ne_zero_of_or (hmarked hset)⟩

theorem State.controlled_join {s : State} (b : BayNo) (h : s.controlled) : (s.join b).controlled := by
  obtain ⟨hpoll, hcontrols⟩ := h
  refine ⟨State.pollQueueSound_join b hpoll, ?_⟩
  simpa [State.controlsSound] using hcontrols

theorem State.controlled_setBayState {s : State} (b : BayNo) (st : BayState) (h : s.controlled) :
    (s.setBayState b st).controlled := by
  unfold State.setBayState
  split
  · exact h
  · refine State.controlled_markBay b ?_
    unfold State.leaveState
    split <;> exact h

theorem State.controlled_clearLink {s : State} (b : BayNo) (h : s.controlled) : (s.clearLink b).controlled := by
  unfold State.clearLink
  split
  · exact h
  · exact State.controlled_markBay b h

/-! ### The updates -/

theorem controlled_linkClosed : LinkClosed State.controlled where
  modBay _ _ _ h := h
  modFault _ _ h := h
  noOrder _ h := h
  setOrder _ _ h := h
  setBayState _ _ h := State.controlled_setBayState _ _ h
  hand _ h := h
  join b h := State.controlled_join b h
  markBay b h := State.controlled_markBay b h
  raiseFleet e h := State.controlled_raiseFleet e h
  issue _ _ _ _ h := h
  firstStep _ _ h := State.controlled_join _ (State.controlled_setBayState _ _ h)
  newOrder _ _ _ _ h := h
  bind _ _ h := State.controlled_setBayState _ _ h
  modRequest _ h := h
  dropRequest _ h := h
  lastResult _ h := h
  notices _ h := h
  raiseGrid _ h := h
  setRecord _ _ h := h
  clearLink b h := State.controlled_clearLink b h
  linkBay _ _ _ h := State.controlled_markBay _ h

/-- The clock after one second is a second of the day (R147). -/
theorem clockAfter_lt (n : Nat) : clockAfter n < Config.daySeconds := by
  unfold clockAfter
  split
  case isTrue h => exact h
  case isFalse => decide

theorem State.controlled_setPort {s : State} {p : Port} {x : PortState}
    (hflags : p = .fleet → x.flags &&& fleetBit .bayChange = s.fleet.flags &&& fleetBit .bayChange)
    (h : s.controlled) : (s.setPort p x).controlled := by
  obtain ⟨hpoll, hclock, hsite, hvalid, hmarked⟩ := h
  cases p
  · exact ⟨hpoll, hclock, hsite, hvalid, hmarked⟩
  · exact ⟨hpoll, hclock, hsite, hvalid, fun hset => hflags rfl ▸ hmarked hset⟩

theorem State.controlled_writeSite {s : State} {x : Site} (hx : x.valid = true) (h : s.controlled) :
    (s.writeSite x).controlled := by
  obtain ⟨hpoll, hclock, -, hvalid, hmarked⟩ := h
  have hwritten : ({ s with site := x, siteValid := true } : State).controlled :=
    ⟨hpoll, hclock, hx, fun hdevice => ⟨rfl, (hvalid hdevice).2⟩, hmarked⟩
  have hQ := controlled_linkClosed
  exact hQ.hand (.change .site) (hQ.siteLimitCut (hQ.recomputeAll hwritten))

theorem State.controlled_halt {s : State} (h : s.controlled) : s.halt.controlled := by
  obtain ⟨hpoll, hclock, hsite, hvalid, hmarked⟩ := h
  unfold State.halt
  split
  case isTrue hrun => exact ⟨hpoll, hclock, hsite, fun _ => hvalid (by simp [hrun]), hmarked⟩
  case isFalse => exact ⟨hpoll, hclock, hsite, hvalid, hmarked⟩

theorem State.controlled_softReset {s : State} (h : s.controlled) : s.softReset.controlled := by
  obtain ⟨-, hclock, hsite, -, -⟩ := h
  exact ⟨(State.pollQueueSound_iff _).mpr nodup_allBays, hclock, hsite, fun hdevice => absurd rfl hdevice, fun hset => absurd rfl hset⟩

theorem State.controlled_reset : State.reset.controlled :=
  ⟨⟨nodup_allBays, by decide⟩, by decide, by decide, fun hdevice => absurd rfl hdevice, fun hset => absurd rfl hset⟩

theorem controlled_partClosed : PartClosed State.controlled where
  toLinkClosed := controlled_linkClosed
  powerOn _ := State.controlled_reset
  advance h := by
    obtain ⟨hpoll, -, hcontrols⟩ := h
    exact ⟨hpoll, clockAfter_lt _, hcontrols⟩
  setLine _ _ h := h
  pollNext hqueue h := by
    obtain ⟨hpoll, hcontrols⟩ := h
    rw [State.pollQueueSound_iff, hqueue] at hpoll
    exact ⟨(State.pollQueueSound_iff _).mpr hpoll.of_cons, hcontrols⟩
  exchange _ h := h
  setPort _ hflags h := State.controlled_setPort hflags h
  setFrame hflags h := State.controlled_setPort (by rintro rfl; rw [hflags]; rfl) h
  eventsRead h := by
    obtain ⟨hpoll, hclock, hsite, hvalid, -⟩ := h
    exact ⟨hpoll, hclock, hsite, hvalid, fun hset => absurd rfl hset⟩
  setClock hn h := by
    obtain ⟨hpoll, -, hsite, hvalid, hmarked⟩ := h
    exact ⟨hpoll, hn, hsite, fun hdevice => ⟨(hvalid hdevice).1, rfl⟩, hmarked⟩
  profiles _ h := h
  policy _ _ h := h
  writeSite hx h := State.controlled_writeSite hx h
  submit _ _ _ _ _ h := h
  run hsite hclock h := by
    obtain ⟨hpoll, hclockRange, hsiteRange, -, hmarked⟩ := h
    exact ⟨hpoll, hclockRange, hsiteRange, fun _ => ⟨hsite, hclock⟩, hmarked⟩
  halt _ _ h := State.controlled_halt h
  softReset h := State.controlled_softReset h
  append _ _ _ h := h
  modVehicle _ _ _ h := h
  withdraw _ h := controlled_linkClosed.unlinkIf _ h

end Sys2Proof.Machine

namespace Sys2Proof.Proofs

open Sys2Proof.Machine

/-- Settles O59: every update keeps the controls sound, so every step does. -/
theorem controlsStaySound : Obligations.ControlsStaySound := by
  unfold Obligations.ControlsStaySound
  intro s t h hstep
  exact controlled_partClosed.commandClosed.step (fun _ h => h) h hstep

end Sys2Proof.Proofs
end

section
/-! SUPPORT. The links of bays and vehicles (R1, R3): most updates leave both halves alone, the others change both
together, and from that the statement O56. -/

namespace Sys2Proof.Machine

/-- From `s` to `t` neither half of a link changed. -/
def State.sameLinks (s t : State) : Prop := t.roster = s.roster ∧ ∀ c, (t.bay c).link = (s.bay c).link

theorem State.sameLinks_refl (s : State) : s.sameLinks s := ⟨rfl, fun _ => rfl⟩

theorem State.linksAgree.of_sameLinks {s t : State} (h : s.linksAgree) (hsame : s.sameLinks t) : t.linksAgree := by
  obtain ⟨hroster, hlink⟩ := hsame
  simpa [State.linksAgree, hroster, hlink] using h

/-! ### Banks written whole -/

@[simp] theorem State.bay_advanceTimers (s : State) (b : BayNo) : s.advanceTimers.bay b = (s.bay b).second :=
  mapBank_get BayRecord.second s.bays b

@[simp] theorem State.faultSet_advanceTimers (s : State) (b : BayNo) :
    s.advanceTimers.faultSet b = (s.faultSet b).second := mapBank_get FaultSet.second s.faults b

@[simp] theorem State.order_advanceTimers (s : State) (b : BayNo) :
    s.advanceTimers.order b = (s.order b).map Order.second := by
  simp only [State.order, State.advanceTimers, Fin.getElem_fin, mapBank, Vector.getElem_ofFn]

@[simp] theorem State.bay_softReset (s : State) (b : BayNo) : s.softReset.bay b = (s.bay b).softReset :=
  mapBank_get BayRecord.softReset s.bays b

/-! ### Updates that leave links alone -/

theorem State.link_setBay {s : State} {b : BayNo} {r : BayRecord} (hr : r.link = (s.bay b).link) (c : BayNo) :
    ((s.setBay b r).bay c).link = (s.bay c).link := by
  by_cases hc : c = b
  · subst hc
    rw [State.bay_setBay, hr]
  · rw [State.bay_setBay_ne _ _ hc]

theorem BayRecord.link_of_core {r r' : BayRecord} (h : r'.core = r.core) : r'.link = r.link :=
  congrArg (fun x => x.2.1) h

theorem BayRecord.state_of_core {r r' : BayRecord} (h : r'.core = r.core) : r'.state = r.state :=
  congrArg (fun x => x.1) h

@[simp] theorem State.link_setBayState (s : State) (b : BayNo) (st : BayState) (c : BayNo) :
    ((s.setBayState b st).bay c).link = (s.bay c).link := by
  by_cases hc : c = b
  · subst hc
    rw [State.bay_setBayState]
    split <;> rfl
  · rw [(s.setBayState_other b st c hc).1]

theorem sameLinks_requestClosed (s : State) : RequestClosed s.sameLinks where
  modBay b _ hcore h := ⟨h.1, fun c => (State.link_setBay (BayRecord.link_of_core (hcore _)) c).trans (h.2 c)⟩
  modFault _ _ h := h
  noOrder _ h := h
  setOrder _ _ h := h
  setBayState _ _ h := ⟨by simpa using h.1, fun c => by simpa using h.2 c⟩
  hand _ h := h
  join b h := ⟨by simpa using h.1, fun c => by simpa using h.2 c⟩
  markBay _ h := h
  raiseFleet _ h := h
  issue _ _ _ _ h := h
  firstStep _ _ h := ⟨by simpa [State.firstStep] using h.1, fun c => by simpa [State.firstStep] using h.2 c⟩
  newOrder _ _ _ _ h := h
  bind _ _ h := ⟨by simpa using h.1, fun c => by simpa using h.2 c⟩
  modRequest _ h := h
  dropRequest _ h := h
  lastResult _ h := h
  notices _ h := h
  raiseGrid _ h := h

/-! ### Links made and cleared -/

theorem State.link_recomputeCaps (s : State) (b c : BayNo) : ((s.recomputeCaps b).bay c).link = (s.bay c).link := by
  refine State.link_setBay ?_ c
  rfl

theorem State.link_clearLink (s : State) (b c : BayNo) :
    ((s.clearLink b).bay c).link = if c = b then none else (s.bay c).link := by
  by_cases hc : c = b
  · subst hc
    unfold State.clearLink
    split
    case h_1 hnone => simpa using hnone
    case h_2 n hn => simp [State.link_recomputeCaps]
  · rw [(s.clearLink_other b c hc).1, if_neg hc]

theorem State.roster_clearLink {s : State} {b : BayNo} {n : Nat} (h : (s.bay b).link = some n) :
    (s.clearLink b).roster = s.roster.map fun v => if v.number = n then { v with bayLink := none } else v := by
  simp [State.clearLink, h, State.recomputeCaps]

theorem State.link_linkBay (s : State) (b : BayNo) (v : Vehicle) (c : BayNo) :
    ((s.linkBay b v).bay c).link = if c = b then some v.number else (s.bay c).link := by
  by_cases hc : c = b
  · subst hc
    simp [State.linkBay, State.link_recomputeCaps]
  · rw [(s.linkBay_other b v c hc).1, if_neg hc]

theorem State.roster_linkBay (s : State) (b : BayNo) (v : Vehicle) :
    (s.linkBay b v).roster = s.roster.map fun x => if x.number = v.number then { x with bayLink := some b } else x := by
  simp [State.linkBay, State.recomputeCaps]

/-- A rewrite of records that keeps their numbers keeps the numbers of the roster. -/
theorem map_number_map {l : List Vehicle} {f : Vehicle → Vehicle} (hf : ∀ v, (f v).number = v.number) :
    (l.map f).map (·.number) = l.map (·.number) := by
  simp [hf]

/-- In a roster of distinct numbers a number names one record. -/
theorem eq_of_number {l : List Vehicle} (hnodup : (l.map (·.number)).Nodup) {v w : Vehicle} (hv : v ∈ l) (hw : w ∈ l)
    (h : v.number = w.number) : v = w := List.inj_on_of_nodup_map hnodup hv hw h

theorem State.linksAgree_clearLink {s : State} (b : BayNo) (h : s.linksAgree) : (s.clearLink b).linksAgree := by
  cases hn : (s.bay b).link with
  | none => rwa [State.clearLink, hn]
  | some n =>
    obtain ⟨hlength, hnodup, hpaired, henrolled⟩ := h
    have hnumber (v : Vehicle) : (if v.number = n then { v with bayLink := none } else v).number = v.number := by
      split <;> rfl
    rw [State.linksAgree, State.roster_clearLink hn]
    refine ⟨by simpa using hlength, by rwa [map_number_map hnumber], ?_, ?_⟩
    · intro w hw c
      obtain ⟨v, hv, rfl⟩ := List.mem_map.mp hw
      have hb := hpaired v hv b
      have hc := hpaired v hv c
      rw [State.link_clearLink, hnumber]
      by_cases hvn : v.number = n
      · have hvb : v.bayLink = some b := hb.mpr (by rw [hn, hvn])
        rw [if_pos hvn]
        split
        · simp
        case isFalse hcb => simp [← hc, hvb, Ne.symm hcb]
      · rw [if_neg hvn]
        split
        case isTrue hcb =>
          subst hcb
          rw [hc, hn]
          simpa using Ne.symm hvn
        case isFalse => exact hc
    · intro c m hm
      rw [State.link_clearLink] at hm
      split at hm
      · cases hm
      · obtain ⟨v, hv, hvm⟩ := henrolled c m hm
        exact ⟨_, List.mem_map_of_mem hv, (hnumber v).trans hvm⟩

theorem State.linksAgree_linkBay {s : State} {b : BayNo} {v : Vehicle} (hb : (s.bay b).link = none)
    (hv : s.vehicle? v.number = some v) (hfree : v.bayLink = none) (h : s.linksAgree) : (s.linkBay b v).linksAgree := by
  obtain ⟨hlength, hnodup, hpaired, henrolled⟩ := h
  have hmem : v ∈ s.roster := (State.vehicle?_number hv).1
  have hnumber (x : Vehicle) : (if x.number = v.number then { x with bayLink := some b } else x).number = x.number := by
    split <;> rfl
  rw [State.linksAgree, State.roster_linkBay]
  refine ⟨by simpa using hlength, by rwa [map_number_map hnumber], ?_, ?_⟩
  · intro w hw c
    obtain ⟨x, hx, rfl⟩ := List.mem_map.mp hw
    have hc := hpaired x hx c
    rw [State.link_linkBay, hnumber]
    by_cases hxv : x.number = v.number
    · have hxeq : x = v := eq_of_number hnodup hx hmem hxv
      subst hxeq
      rw [if_pos rfl]
      split
      case isTrue hcb => simp [hcb]
      case isFalse hcb => simp [← hc, hfree, Ne.symm hcb]
    · rw [if_neg hxv]
      split
      case isTrue hcb =>
        subst hcb
        rw [hc, hb]
        simpa using Ne.symm hxv
      case isFalse => exact hc
  · intro c m hm
    rw [State.link_linkBay] at hm
    split at hm
    · exact ⟨_, List.mem_map_of_mem hmem, (hnumber v).trans (Option.some.inj hm)⟩
    · obtain ⟨x, hx, hxm⟩ := henrolled c m hm
      exact ⟨_, List.mem_map_of_mem hx, (hnumber x).trans hxm⟩

/-! ### Records appended, changed and removed -/

theorem State.vehicle?_eq_none {s : State} {n : Nat} : s.vehicle? n = none ↔ ∀ v ∈ s.roster, v.number ≠ n := by
  simp [State.vehicle?]

theorem State.linksAgree_append {s : State} {v : Vehicle} (hnew : s.vehicle? v.number = none)
    (hroom : s.roster.length < 48) (hfree : v.bayLink = none) (h : s.linksAgree) :
    ({ s with roster := s.roster ++ [v] } : State).linksAgree := by
  obtain ⟨hlength, hnodup, hpaired, henrolled⟩ := h
  rw [State.vehicle?_eq_none] at hnew
  refine ⟨by simpa using hroom, ?_, ?_, ?_⟩
  · simpa [List.nodup_append, hnodup] using fun w hw => hnew w hw
  · intro w hw c
    rcases List.mem_append.mp hw with hold | hlast
    · exact hpaired w hold c
    · obtain rfl := List.mem_singleton.mp hlast
      rw [hfree]
      constructor
      · intro he
        cases he
      · intro hlink
        obtain ⟨x, hx, hxn⟩ := henrolled c w.number hlink
        exact absurd hxn (hnew x hx)
  · intro c m hm
    obtain ⟨x, hx, hxm⟩ := henrolled c m hm
    exact ⟨x, List.mem_append_left _ hx, hxm⟩

theorem State.linksAgree_modVehicle {s : State} (n : Nat) {f : Vehicle → Vehicle}
    (hf : ∀ v, (f v).number = v.number ∧ (f v).bayLink = v.bayLink) (h : s.linksAgree) :
    (s.modVehicle n f).linksAgree := by
  obtain ⟨hlength, hnodup, hpaired, henrolled⟩ := h
  have hnumber (v : Vehicle) : (if v.number == n then f v else v).number = v.number := by
    split
    · exact (hf v).1
    · rfl
  have hbay (v : Vehicle) : (if v.number == n then f v else v).bayLink = v.bayLink := by
    split
    · exact (hf v).2
    · rfl
  refine ⟨by simpa [State.modVehicle] using hlength, by rwa [State.modVehicle, map_number_map hnumber], ?_, ?_⟩
  · intro w hw c
    obtain ⟨v, hv, rfl⟩ := List.mem_map.mp hw
    rw [hnumber, hbay]
    exact hpaired v hv c
  · intro c m hm
    obtain ⟨v, hv, hvm⟩ := henrolled c m hm
    exact ⟨_, List.mem_map_of_mem hv, (hnumber v).trans hvm⟩

/-- A record that no bay names may go. -/
theorem State.linksAgree_removeVehicle {s : State} {n : Nat} (hfree : ∀ b, (s.bay b).link ≠ some n) (h : s.linksAgree) :
    (s.removeVehicle n).linksAgree := by
  obtain ⟨hlength, hnodup, hpaired, henrolled⟩ := h
  refine ⟨(List.length_filter_le _ _).trans hlength, hnodup.sublist (List.filter_sublist.map _), ?_, ?_⟩
  · intro w hw c
    exact hpaired w (List.mem_of_mem_filter hw) c
  · intro c m hm
    obtain ⟨v, hv, hvm⟩ := henrolled c m hm
    have hkept : (v.number != n) = true := by
      rw [bne_iff_ne, hvm]
      rintro rfl
      exact hfree c hm
    exact ⟨v, List.mem_filter.mpr ⟨hv, hkept⟩, hvm⟩

/-- Where the links agree, only the bay a record names may name its vehicle. -/
theorem State.linksAgree.link_ne {s : State} (h : s.linksAgree) {v : Vehicle} (hv : v ∈ s.roster) {b : BayNo}
    (hb : v.bayLink ≠ some b) : (s.bay b).link ≠ some v.number := by
  obtain ⟨-, -, hpaired, -⟩ := h
  exact fun hlink => hb ((hpaired v hv b).mpr hlink)

/-- Unlinking the bay of a vehicle leaves no bay that names the vehicle. -/
theorem State.link_unlinkIf_ne {s : State} (h : s.linksAgree) {v : Vehicle} (hv : v ∈ s.roster) (c : BayNo) :
    ((s.unlinkIf v.bayLink).bay c).link ≠ some v.number := by
  cases hbay : v.bayLink with
  | none => exact h.link_ne hv (by simp [hbay])
  | some b =>
    have hsame : (s.clearLink b).sameLinks (s.unlinkBay b) :=
      (sameLinks_requestClosed _).releaseFor b _ (State.sameLinks_refl _)
    show ((s.unlinkBay b).bay c).link ≠ _
    rw [hsame.2 c, State.link_clearLink]
    split
    · simp
    case isFalse hc => exact h.link_ne hv (by simpa [hbay] using Ne.symm hc)

/-! ### The updates -/

theorem linksAgree_requestClosed : RequestClosed State.linksAgree where
  modBay b _ hcore h := h.of_sameLinks ((sameLinks_requestClosed _).modBay b hcore (State.sameLinks_refl _))
  modFault _ _ h := h
  noOrder _ h := h
  setOrder _ _ h := h
  setBayState hst hb h := h.of_sameLinks ((sameLinks_requestClosed _).setBayState hst hb (State.sameLinks_refl _))
  hand _ h := h
  join b h := h.of_sameLinks ((sameLinks_requestClosed _).join b (State.sameLinks_refl _))
  markBay _ h := h
  raiseFleet _ h := h
  issue _ _ _ _ h := h
  firstStep ho hb h := h.of_sameLinks ((sameLinks_requestClosed _).firstStep ho hb (State.sameLinks_refl _))
  newOrder _ _ _ _ h := h
  bind b hq h := h.of_sameLinks ((sameLinks_requestClosed _).bind b hq (State.sameLinks_refl _))
  modRequest _ h := h
  dropRequest _ h := h
  lastResult _ h := h
  notices _ h := h
  raiseGrid _ h := h

theorem linksAgree_linkClosed : LinkClosed State.linksAgree where
  toRequestClosed := linksAgree_requestClosed
  setRecord _ hlink h := h.of_sameLinks ⟨rfl, State.link_setBay hlink⟩
  clearLink b h := State.linksAgree_clearLink b h
  linkBay hb hv hfree h := State.linksAgree_linkBay hb hv hfree h

theorem State.linksAgree_reset : State.reset.linksAgree :=
  ⟨by decide, by decide, fun _ hv => absurd hv List.not_mem_nil, fun b _ hlink => by
    simp [State.bay, State.reset, BayRecord.reset] at hlink⟩

theorem State.linksAgree_softReset {s : State} (h : s.linksAgree) : s.softReset.linksAgree := by
  obtain ⟨hlength, hnodup, -, -⟩ := h
  have hlink (b : BayNo) : (s.softReset.bay b).link = none := by
    rw [State.bay_softReset]
    rfl
  refine ⟨by simpa [State.softReset] using hlength, ?_, ?_, fun b n hn => absurd hn (by rw [hlink]; simp)⟩
  · exact (map_number_map (f := fun v => { v with bayLink := none }) (l := s.roster) fun _ => rfl) ▸ hnodup
  · intro w hw b
    obtain ⟨v, -, rfl⟩ := List.mem_map.mp hw
    rw [hlink]
    simp

theorem linksAgree_partClosed : PartClosed State.linksAgree where
  toLinkClosed := linksAgree_linkClosed
  powerOn _ := State.linksAgree_reset
  advance h := h.of_sameLinks ⟨rfl, fun c => by rw [State.bay_advanceTimers]; rfl⟩
  setLine _ _ h := h
  pollNext _ h := h
  exchange _ h := h
  setPort {t p x} _ _ h := h.of_sameLinks ⟨by simp, fun c => by rw [State.bay_setPort]⟩
  setFrame {t p x} _ h := h.of_sameLinks ⟨by simp, fun c => by rw [State.bay_setPort]⟩
  eventsRead h := h
  setClock _ h := h
  profiles _ h := h
  policy _ _ h := h
  writeSite {t x} _ h := by
    have hQ := linksAgree_linkClosed
    have hwritten : ({ t with site := x, siteValid := true } : State).linksAgree := h
    exact hQ.hand (.change .site) (hQ.siteLimitCut (hQ.recomputeAll hwritten))
  submit _ _ _ _ _ h := h
  run _ _ h := h
  halt _ _ h := by
    unfold State.halt
    split <;> exact h
  softReset h := State.linksAgree_softReset h
  append hnew hroom hfree h := State.linksAgree_append hnew hroom hfree h
  modVehicle n _ hf h := State.linksAgree_modVehicle n hf h
  withdraw hv h := by
    obtain ⟨hmem, rfl⟩ := State.vehicle?_number hv
    exact State.linksAgree_removeVehicle (State.link_unlinkIf_ne h hmem) (linksAgree_linkClosed.unlinkIf _ h)

end Sys2Proof.Machine

namespace Sys2Proof.Proofs

open Sys2Proof.Machine

/-- Settles O56: every update keeps the links paired, so every step does. -/
theorem linksStayPaired : Obligations.LinksStayPaired := by
  unfold Obligations.LinksStayPaired
  intro s t h hstep
  exact linksAgree_partClosed.commandClosed.step (fun _ h => h) h hstep

end Sys2Proof.Proofs
end

section
/-! SUPPORT. The queue and what stands outside RUN (R65, R150): every update keeps the queue sound and the part idle
outside RUN, and from that the statement O57. -/

namespace Sys2Proof.Machine

/-- The parts of O57 together. -/
def State.queueKept (s : State) : Prop := s.queueSound ∧ s.idleOutsideRun

/-! ### Outside RUN (R150) -/

theorem State.device_run_of_queue {s : State} (h : s.idleOutsideRun) (hq : s.queue ≠ []) : s.device = .run :=
  not_not.mp fun hstopped => hq (h hstopped).1

theorem State.idleOutsideRun_of_run {s : State} (h : s.device = .run) : s.idleOutsideRun := fun hstopped =>
  absurd h hstopped

/-- Outside RUN the part stays idle where the queue only loses requests and no bay becomes engaged. -/
theorem State.idleOutsideRun.mono {s t : State} (h : s.idleOutsideRun) (hdevice : t.device = s.device)
    (hqueue : s.queue = [] → t.queue = [])
    (hbays : ∀ b, (t.bay b).state.engaged = true → ∃ c, (s.bay c).state.engaged = true) : t.idleOutsideRun := by
  intro hstopped
  obtain ⟨hempty, hfree⟩ := h (hdevice ▸ hstopped)
  refine ⟨hqueue hempty, fun b => ?_⟩
  by_contra hb
  obtain ⟨c, hc⟩ := hbays b (by simpa using hb)
  exact Bool.false_ne_true ((hfree c).symm.trans hc)

theorem State.queueKept.of_states {s t : State} (h : s.queueKept) (hdevice : t.device = s.device)
    (hqueue : t.queue = s.queue) (hstates : ∀ b, (t.bay b).state = (s.bay b).state) : t.queueKept := by
  obtain ⟨hsound, hidle⟩ := h
  refine ⟨by rwa [State.queueSound, hqueue], hidle.mono hdevice (fun he => hqueue.trans he) fun b hb => ⟨b, ?_⟩⟩
  rwa [hstates] at hb

theorem State.state_setBay {s : State} {b : BayNo} {r : BayRecord} (hr : r.state = (s.bay b).state) (c : BayNo) :
    ((s.setBay b r).bay c).state = (s.bay c).state := by
  by_cases hc : c = b
  · subst hc
    rw [State.bay_setBay, hr]
  · rw [State.bay_setBay_ne _ _ hc]

theorem State.state_setBayState (s : State) (b : BayNo) (st : BayState) (c : BayNo) :
    ((s.setBayState b st).bay c).state = if c = b then st else (s.bay c).state := by
  by_cases hc : c = b
  · subst hc
    rw [State.bay_setBayState]
    split
    case isTrue h => simpa using h
    case isFalse => simp [BayRecord.toState]
  · rw [(s.setBayState_other b st c hc).1, if_neg hc]

theorem State.queueKept_setBayState {s : State} {b : BayNo} {st : BayState}
    (hb : st.engaged = true → (s.bay b).state.engaged = true) (h : s.queueKept) : (s.setBayState b st).queueKept := by
  obtain ⟨hsound, hidle⟩ := h
  refine ⟨by simpa [State.queueSound] using hsound, hidle.mono (by simp) (by simp) fun c hc => ?_⟩
  rw [State.state_setBayState] at hc
  split at hc
  · exact ⟨b, hb hc⟩
  · exact ⟨c, hc⟩

theorem State.state_clearLink (s : State) (b c : BayNo) : ((s.clearLink b).bay c).state = (s.bay c).state := by
  unfold State.clearLink
  split
  · rfl
  · have hcaps {t : State} : ((t.recomputeCaps b).bay c).state = (t.bay c).state := by
      refine State.state_setBay ?_ c
      rfl
    refine hcaps.trans (State.state_setBay ?_ c)
    rfl

theorem State.state_linkBay (s : State) (b : BayNo) (v : Vehicle) (c : BayNo) :
    ((s.linkBay b v).bay c).state = (s.bay c).state := by
  have hcaps {t : State} : ((t.recomputeCaps b).bay c).state = (t.bay c).state := by
    refine State.state_setBay ?_ c
    rfl
  refine hcaps.trans (State.state_setBay ?_ c)
  rfl

/-! ### The queue (R65) -/

theorem State.queueSound_iff (s : State) : s.queueSound ↔
    s.queue.length ≤ 4 ∧ (s.queue.map (·.id)).Nodup ∧ s.queue.countP Request.isActive ≤ 1 := by
  rw [State.queueSound, List.countP_eq_length_filter]

/-- Of requests with distinct IDs one has a given ID. -/
theorem countP_id_le_one {l : List Request} (h : (l.map (·.id)).Nodup) (id : Nat) : l.countP (fun q => q.id == id) ≤ 1 := by
  have hcount := List.nodup_iff_count_le_one.mp h id
  rwa [List.count, List.countP_map] at hcount

theorem eq_of_id {l : List Request} (hnodup : (l.map (·.id)).Nodup) {q r : Request} (hq : q ∈ l) (hr : r ∈ l)
    (h : q.id = r.id) : q = r := List.inj_on_of_nodup_map hnodup hq hr h

theorem State.queueSound_modRequest {s : State} {id : Nat} {f : Request → Request} (hf : s.mayRewrite id f)
    (h : s.queueSound) : (s.modRequest id f).queueSound := by
  obtain ⟨hid, hactive⟩ := hf
  rw [State.queueSound_iff] at h ⊢
  obtain ⟨hlength, hnodup, hcount⟩ := h
  have hids : ((s.queue.map fun q => if q.id == id then f q else q).map (·.id)) = s.queue.map (·.id) := by
    rw [List.map_map]
    refine List.map_congr_left fun q _ => ?_
    show (if q.id == id then f q else q).id = q.id
    split
    · exact hid q
    · rfl
  refine ⟨by simpa [State.modRequest] using hlength, by rwa [State.modRequest, hids], ?_⟩
  rw [State.modRequest, List.countP_map]
  have hcases (q : Request) : (if q.id == id then f q else q).isActive = true →
      q.isActive = true ∨ (q.id = id ∧ (f q).isActive = true) := by
    split
    case isTrue he => exact fun ha => .inr ⟨by simpa using he, ha⟩
    case isFalse => exact .inl
  rcases hactive with hless | ⟨r, hr, hrid, hractive⟩ | hnone
  · refine (List.countP_mono_left fun q _ hq => ?_).trans hcount
    exact (hcases q hq).elim (fun h => h) fun ⟨_, ha⟩ => hless q ha
  · refine (List.countP_mono_left fun q hmem hq => ?_).trans hcount
    exact (hcases q hq).elim (fun h => h) fun ⟨he, _⟩ => eq_of_id hnodup hmem hr (he.trans hrid.symm) ▸ hractive
  · refine (List.countP_mono_left fun q hmem hq => ?_).trans (countP_id_le_one hnodup id)
    rcases hcases q hq with ha | ⟨he, _⟩
    · exact absurd ha (by simp [hnone q hmem])
    · simpa using he

theorem State.queueSound_dropRequest {s : State} (id : Nat) (h : s.queueSound) : (s.dropRequest id).queueSound := by
  rw [State.queueSound_iff] at h ⊢
  obtain ⟨hlength, hnodup, hcount⟩ := h
  have hsub : (s.dropRequest id).queue.Sublist s.queue := List.filter_sublist
  exact ⟨hsub.length_le.trans hlength, hnodup.sublist (hsub.map _), hsub.countP_le.trans hcount⟩

theorem insertRequest_perm (r : Request) (countdown : Nat) (l : List Request) :
    (insertRequest r countdown l).Perm (r :: l) := by
  induction l with
  | nil => exact List.Perm.refl _
  | cons q rest ih =>
    have hbehind : (q :: insertRequest r countdown rest).Perm (r :: q :: rest) :=
      (ih.cons q).trans (List.Perm.swap r q rest)
    unfold insertRequest
    split
    · split
      · exact List.Perm.refl _
      · exact hbehind
    · exact hbehind
    · exact hbehind

theorem State.queueSound_submit {s : State} {r : Request} (countdown : Nat) (hheld : r.isActive = false)
    (hnew : ∀ q ∈ s.queue, q.id ≠ r.id) (hroom : s.queue.length < 4) (h : s.queueSound) :
    ({ s with queue := insertRequest r countdown s.queue } : State).queueSound := by
  rw [State.queueSound_iff] at h ⊢
  obtain ⟨-, hnodup, hcount⟩ := h
  have hperm := insertRequest_perm r countdown s.queue
  refine ⟨?_, ?_, ?_⟩
  · rw [hperm.length_eq]
    exact hroom
  · rw [(hperm.map (·.id)).nodup_iff]
    simpa [hnodup] using hnew
  · rw [hperm.countP_eq, List.countP_cons_of_neg (by simp [hheld])]
    exact hcount

/-! ### The updates -/

theorem queueKept_linkClosed : LinkClosed State.queueKept where
  modBay _ _ hcore h := h.of_states rfl rfl (State.state_setBay (BayRecord.state_of_core (hcore _)))
  modFault _ _ h := h
  noOrder _ h := h
  setOrder _ _ h := h
  setBayState _ hb h := State.queueKept_setBayState hb h
  hand _ h := h
  join b h := h.of_states (by simp) (by simp) (by simp)
  markBay _ h := h
  raiseFleet _ h := h
  issue _ _ _ _ h := h
  firstStep {t b o} _ hb h := by
    have hmoved := State.queueKept_setBayState (s := t.setOrder b (some (t.firstOrder b o))) (b := b)
      (st := .transfer) (fun _ => hb) h
    exact hmoved.of_states (State.join_device _ b) (State.join_queue _ b) fun c => by rw [State.firstStep, State.bay_join]
  newOrder _ _ _ _ h := h
  bind {t} b hq h := by
    obtain ⟨hsound, hidle⟩ := h
    refine ⟨by simpa [State.queueSound] using hsound, State.idleOutsideRun_of_run ?_⟩
    simpa using State.device_run_of_queue hidle hq
  modRequest hf h := by
    obtain ⟨hsound, hidle⟩ := h
    exact ⟨State.queueSound_modRequest hf hsound,
      hidle.mono rfl (fun he => by simp [State.modRequest, he]) fun b hb => ⟨b, hb⟩⟩
  dropRequest id h := by
    obtain ⟨hsound, hidle⟩ := h
    exact ⟨State.queueSound_dropRequest id hsound,
      hidle.mono rfl (fun he => by simp [State.dropRequest, he]) fun b hb => ⟨b, hb⟩⟩
  lastResult _ h := h
  notices _ h := h
  raiseGrid _ h := h
  setRecord hstate _ h := h.of_states rfl rfl (State.state_setBay hstate)
  clearLink b h := h.of_states ((State.clearLink_frame _ b).device (by simp)) ((State.clearLink_frame _ b).queue (by simp))
    (State.state_clearLink _ b)
  linkBay {t b v} _ _ _ h := h.of_states ((State.linkBay_frame t b v).device (by simp))
    ((State.linkBay_frame t b v).queue (by simp)) (State.state_linkBay t b v)

theorem State.queueKept_of_empty {s : State} (hqueue : s.queue = []) (hfree : ∀ b, (s.bay b).state.engaged = false) :
    s.queueKept :=
  ⟨by simp [State.queueSound, hqueue], fun _ => ⟨hqueue, hfree⟩⟩

theorem State.bay_reset (b : BayNo) : State.reset.bay b = BayRecord.reset := by
  simp [State.bay, State.reset]

theorem State.queueKept_reset : State.reset.queueKept :=
  State.queueKept_of_empty rfl fun b => by rw [State.bay_reset]; rfl

theorem Request.isActive_second (r : Request) : r.second.isActive = r.isActive := by
  unfold Request.second Request.isActive
  cases h : r.state <;> simp [h]

theorem Request.id_second (r : Request) : r.second.id = r.id := by
  unfold Request.second
  cases r.state <;> rfl

theorem State.queueSound_advanceTimers {s : State} (h : s.queueSound) : s.advanceTimers.queueSound := by
  rw [State.queueSound_iff] at h ⊢
  obtain ⟨hlength, hnodup, hcount⟩ := h
  have hqueue : s.advanceTimers.queue = s.queue.map Request.second := rfl
  have hids : (s.queue.map Request.second).map (·.id) = s.queue.map (·.id) := by
    rw [List.map_map]
    exact List.map_congr_left fun q _ => q.id_second
  have hactive : Request.isActive ∘ Request.second = Request.isActive := funext Request.isActive_second
  refine ⟨by simpa [hqueue] using hlength, by rwa [hqueue, hids], ?_⟩
  rwa [hqueue, List.countP_map, hactive]

theorem queueKept_partClosed : PartClosed State.queueKept where
  toLinkClosed := queueKept_linkClosed
  powerOn _ := State.queueKept_reset
  advance {t} h := by
    obtain ⟨hsound, hidle⟩ := h
    refine ⟨State.queueSound_advanceTimers hsound, hidle.mono rfl (fun he => ?_) fun b hb => ⟨b, ?_⟩⟩
    · show t.queue.map Request.second = []
      rw [he, List.map_nil]
    · rwa [State.bay_advanceTimers] at hb
  setLine _ _ h := h
  pollNext _ h := h
  exchange _ h := h
  setPort _ _ h := h.of_states (by simp) (by simp) (by simp)
  setFrame _ h := h.of_states (by simp) (by simp) (by simp)
  eventsRead h := h
  setClock _ h := h
  profiles _ h := h
  policy _ _ h := h
  writeSite {t x} _ h := by
    have hQ := queueKept_linkClosed
    have hwritten : ({ t with site := x, siteValid := true } : State).queueKept := h
    exact hQ.hand (.change .site) (hQ.siteLimitCut (hQ.recomputeAll hwritten))
  submit countdown hrun hheld hnew hroom h := by
    obtain ⟨hsound, -⟩ := h
    exact ⟨State.queueSound_submit countdown hheld hnew hroom hsound, State.idleOutsideRun_of_run hrun⟩
  run _ _ h := ⟨h.1, State.idleOutsideRun_of_run rfl⟩
  halt hqueue hfree _ := by
    unfold State.halt
    split
    · exact State.queueKept_of_empty hqueue hfree
    · exact State.queueKept_of_empty hqueue hfree
  softReset _ := State.queueKept_of_empty rfl fun b => by rw [State.bay_softReset]; rfl
  append _ _ _ h := h
  modVehicle _ _ _ h := h
  withdraw _ h := queueKept_linkClosed.unlinkIf _ h

end Sys2Proof.Machine

namespace Sys2Proof.Proofs

open Sys2Proof.Machine

/-- Settles O57: every update keeps the queue, so every step does. -/
theorem queueStaysSound : Obligations.QueueStaysSound := by
  unfold Obligations.QueueStaysSound
  intro s t h hstep
  exact queueKept_partClosed.commandClosed.step (fun _ h => h) h hstep

end Sys2Proof.Proofs
end

section
/-! SUPPORT. Set-points and the site-limit cut (R93, R102, R109): what a set-point reads, how the total changes with one
bay's set-point, and what the cut takes from each bay. -/

namespace Sys2Proof.Machine

/-! ### Set-points -/

/-- A set-point reads the bay's state and its order. -/
theorem State.setPoint_congr {s t : State} {b : BayNo} (hstate : (t.bay b).state = (s.bay b).state)
    (horder : t.order b = s.order b) : t.setPoint b = s.setPoint b := by
  rw [State.setPoint, State.setPoint, hstate, horder]

theorem State.setPoint_of_ne_transfer {s : State} {b : BayNo} (h : (s.bay b).state ≠ .transfer) : s.setPoint b = 0 :=
  if_neg h

theorem State.setPoint_of_transfer {s : State} {b : BayNo} {o : Order} (h : (s.bay b).state = .transfer)
    (ho : s.order b = some o) : s.setPoint b = o.level := by
  rw [State.setPoint, if_pos h, ho]

theorem State.setPoint_of_none {s : State} {b : BayNo} (h : s.order b = none) : s.setPoint b = 0 := by
  rw [State.setPoint, h, ite_self]

theorem State.setPoint_le_level {s : State} {b : BayNo} {o : Order} (ho : s.order b = some o) :
    s.setPoint b ≤ o.level := by
  rw [State.setPoint, ho]
  split
  · exact le_rfl
  · exact Nat.zero_le _

/-- The set-points of the bays but one. -/
def State.othersSetPoint (s : State) (b : BayNo) : Nat := ((allBays.filter (· != b)).map s.setPoint).sum

theorem State.totalSetPoint_eq (s : State) (b : BayNo) : s.totalSetPoint = s.setPoint b + s.othersSetPoint b := by
  have hperm : allBays.Perm (b :: allBays.filter (· != b)) :=
    allBays_nodup.erase_eq_filter b ▸ List.perm_cons_erase (mem_allBays b)
  rw [State.totalSetPoint, (hperm.map s.setPoint).sum_eq, List.map_cons, List.sum_cons, State.othersSetPoint]

theorem State.othersSetPoint_congr {s t : State} {b : BayNo} (h : ∀ c, c ≠ b → t.setPoint c = s.setPoint c) :
    t.othersSetPoint b = s.othersSetPoint b := by
  refine congrArg List.sum (List.map_congr_left fun c hc => h c ?_)
  simpa using (List.mem_filter.mp hc).2

theorem State.headroom_eq (s : State) (b : BayNo) : s.headroom b = s.site.limit - s.othersSetPoint b := rfl

/-- Other bays keep their set-points where an operation on one bay leaves them alone. -/
theorem State.otherBays.setPoint {s t : State} {b c : BayNo} (h : s.otherBays t b) (hc : c ≠ b) :
    t.setPoint c = s.setPoint c :=
  have ⟨hbay, _, horder⟩ := h c hc
  State.setPoint_congr (congrArg BayRecord.state hbay) horder

theorem State.totalSetPoint_mono {s t : State} (h : ∀ b, t.setPoint b ≤ s.setPoint b) :
    t.totalSetPoint ≤ s.totalSetPoint := List.sum_le_sum fun b _ => h b

/-! ### The site-limit cut (R109) -/

section Cut

variable (s : State) (n : Nat) (b : BayNo)

theorem cutBay_other : s.otherBays (cutBay (s, n) b).1 b := by
  unfold cutBay
  dsimp only
  split
  · split
    · split
      · exact s.otherBays_refl b
      · exact (s.setOrder_other b _).trans (State.join_other _ b b)
    · exact s.otherBays_refl b
  · exact s.otherBays_refl b

/-- One bay's turn takes what is still to be removed, as far as its set-point goes. -/
theorem cutBay_spec :
    (cutBay (s, n) b).2 = n - s.setPoint b
    ∧ (cutBay (s, n) b).1.order b = (s.order b).map (fun o =>
        { o with level := if (s.bay b).state = .transfer then o.level - min (s.setPoint b) n else o.level })
    ∧ (0 < min (s.setPoint b) n → b ∈ (cutBay (s, n) b).1.pollQueue) := by
  by_cases htransfer : (s.bay b).state = .transfer
  · cases ho : s.order b with
    | none => simp [cutBay, State.setPoint_of_none ho, ho]
    | some o =>
      have hlevel := State.setPoint_of_transfer htransfer ho
      unfold cutBay
      simp only [htransfer, ho, true_and, hlevel, Option.map_some, if_true]
      by_cases hn : 0 < n
      · rw [if_pos hn]
        by_cases hcut : min o.level n = 0
        · rw [if_pos hcut, hcut]
          have hzero : o.level = 0 := by omega
          cases o
          simp_all
        · rw [if_neg hcut]
          refine ⟨by dsimp only; omega, by simp, fun _ => State.mem_join _ b⟩
      · have hzero : n = 0 := by omega
        simp [hzero, ho]
  · simp [cutBay, htransfer, State.setPoint_of_ne_transfer htransfer]

theorem bay_cutBay (c : BayNo) : (cutBay (s, n) b).1.bay c = s.bay c := by
  rw [State.bay, (cutBay_frame (s, n) b).bays (by simp)]
  rfl

theorem setPoint_cutBay : (cutBay (s, n) b).1.setPoint b = s.setPoint b - min (s.setPoint b) n := by
  obtain ⟨-, horder, -⟩ := cutBay_spec s n b
  rw [State.setPoint, bay_cutBay, horder]
  by_cases htransfer : (s.bay b).state = .transfer
  · rw [if_pos htransfer]
    cases ho : s.order b with
    | none => rw [State.setPoint_of_none ho]; rfl
    | some o => simp [State.setPoint_of_transfer htransfer ho, htransfer]
  · rw [if_neg htransfer, State.setPoint_of_ne_transfer htransfer]
    rfl

end Cut

theorem cutBay_queue (acc : State × Nat) (b c : BayNo) (h : c ∈ acc.1.pollQueue) : c ∈ (cutBay acc b).1.pollQueue := by
  have hjoin {t : State} (ht : c ∈ t.pollQueue) : c ∈ (t.join b).pollQueue := by
    rw [State.join_pollQueue]
    split
    · exact ht
    · exact List.mem_append_left _ ht
  obtain ⟨s, n⟩ := acc
  unfold cutBay
  dsimp only
  split
  · split
    · split
      · exact h
      · exact hjoin h
    · exact h
  · exact h

/-- The cut of the bays of a list, in its order: each gives up to its set-point of what the bays before it left. -/
theorem foldl_cutBay_spec {l : List BayNo} (hl : l.Nodup) (s : State) (n : Nat) :
    (l.foldl cutBay (s, n)).2 = n - (l.map s.setPoint).sum
    ∧ (∀ b, (l.foldl cutBay (s, n)).1.bay b = s.bay b)
    ∧ (∀ b, b ∉ l → (l.foldl cutBay (s, n)).1.order b = s.order b)
    ∧ (∀ b, b ∈ s.pollQueue → b ∈ (l.foldl cutBay (s, n)).1.pollQueue)
    ∧ ∀ front b back, l = front ++ b :: back →
      (l.foldl cutBay (s, n)).1.order b = (s.order b).map (fun o =>
        { o with level := if (s.bay b).state = .transfer
            then o.level - min (s.setPoint b) (n - (front.map s.setPoint).sum) else o.level })
      ∧ (0 < min (s.setPoint b) (n - (front.map s.setPoint).sum) → b ∈ (l.foldl cutBay (s, n)).1.pollQueue) := by
  induction l generalizing s n with
  | nil => simp
  | cons a l ih =>
    obtain ⟨ha, hrest⟩ := List.nodup_cons.mp hl
    obtain ⟨hleft, horder, hqueue⟩ := cutBay_spec s n a
    have hother := cutBay_other s n a
    rw [List.foldl_cons, show cutBay (s, n) a = ((cutBay (s, n) a).1, (cutBay (s, n) a).2) from rfl]
    obtain ⟨ihleft, ihbay, ihkept, ihqueue, ihcut⟩ := ih hrest (cutBay (s, n) a).1 (cutBay (s, n) a).2
    have hpoint (c : BayNo) (hc : c ≠ a) : (cutBay (s, n) a).1.setPoint c = s.setPoint c := hother.setPoint hc
    have hsum (m : List BayNo) (hm : a ∉ m) :
        (m.map (cutBay (s, n) a).1.setPoint).sum = (m.map s.setPoint).sum :=
      congrArg List.sum (List.map_congr_left fun c hc => hpoint c fun e => hm (e ▸ hc))
    refine ⟨?_, fun b => (ihbay b).trans (bay_cutBay s n a b), fun b hb => ?_, fun b hb => ?_, ?_⟩
    · rw [ihleft, hleft, hsum l ha, List.map_cons, List.sum_cons]
      omega
    · obtain ⟨hba, hbl⟩ := not_or.mp (mt List.mem_cons.mpr hb)
      rw [ihkept b hbl, (hother b hba).2.2]
    · exact ihqueue b (cutBay_queue (s, n) a b hb)
    · intro front b back hsplit
      cases front with
      | nil =>
        obtain ⟨rfl, rfl⟩ := List.cons.inj hsplit
        refine ⟨(ihkept _ ha).trans ?_, fun hcut => ihqueue _ (hqueue ?_)⟩
        · simpa using horder
        · simpa using hcut
      | cons c front =>
        obtain ⟨rfl, rfl⟩ := List.cons.inj hsplit
        have hba : b ≠ a := fun e => ha (by simp [e])
        have hfront : a ∉ front := fun e => ha (by simp [e])
        obtain ⟨hcut, hjoined⟩ := ihcut front b back rfl
        have hpart : (cutBay (s, n) a).2 - (front.map s.setPoint).sum
            = n - (s.setPoint a + (front.map s.setPoint).sum) := by rw [hleft, Nat.sub_sub]
        rw [hpoint b hba, hsum front hfront, hpart, bay_cutBay, (hother b hba).2.2] at hcut
        rw [hpoint b hba, hsum front hfront, hpart] at hjoined
        rw [List.map_cons, List.sum_cons]
        exact ⟨hcut, hjoined⟩

/-- The cut lowers the total by what it takes. -/
theorem totalSetPoint_foldl_cutBay (l : List BayNo) (acc : State × Nat) :
    (l.foldl cutBay acc).1.totalSetPoint + acc.2 = acc.1.totalSetPoint + (l.foldl cutBay acc).2 := by
  induction l generalizing acc with
  | nil => rfl
  | cons b l ih =>
    obtain ⟨s, n⟩ := acc
    have hrest := ih (cutBay (s, n) b)
    have hthis := setPoint_cutBay s n b
    have hleft := (cutBay_spec s n b).1
    have hsplit := s.totalSetPoint_eq b
    have hsplit' := (cutBay (s, n) b).1.totalSetPoint_eq b
    rw [State.othersSetPoint_congr fun c hc => (cutBay_other s n b).setPoint hc] at hsplit'
    rw [List.foldl_cons]
    dsimp only
    omega

/-- After the cut the set-points are within the limit, and as high as it allows. -/
theorem State.totalSetPoint_siteLimitCut (s : State) :
    s.siteLimitCut.totalSetPoint = min s.totalSetPoint s.site.limit := by
  have hsum : ((allBays.reverse).map s.setPoint).sum = s.totalSetPoint :=
    ((List.reverse_perm allBays).map s.setPoint).sum_eq
  have hleft := (foldl_cutBay_spec (List.nodup_reverse.mpr allBays_nodup) s (s.totalSetPoint - s.site.limit)).1
  have htotal := totalSetPoint_foldl_cutBay allBays.reverse (s, s.totalSetPoint - s.site.limit)
  rw [hsum] at hleft
  rw [hleft] at htotal
  rw [State.siteLimitCut]
  dsimp only at htotal
  omega

end Sys2Proof.Machine
end

section
/-! SUPPORT. The limits on set-points and quotas (R93, R102): every update keeps them, and from that the statement
O55. -/

namespace Sys2Proof.Machine

/-- The parts of O55 together. -/
def State.limited (s : State) : Prop := s.withinSiteLimit ∧ s.withinQuotas

/-! ### Updates that raise no set-point -/

/-- The limits stand where no set-point rises and every order is one that stood or is within its quota. -/
theorem State.limited.mono {s t : State} (h : s.limited) (hsite : t.site = s.site)
    (hpoints : ∀ b, t.setPoint b ≤ s.setPoint b)
    (horders : ∀ b o, t.order b = some o → s.order b = some o ∨ o.within) : t.limited := by
  obtain ⟨hlimit, hquotas⟩ := h
  refine ⟨?_, fun b o ho => ?_⟩
  · rw [State.withinSiteLimit, hsite]
    exact (State.totalSetPoint_mono hpoints).trans hlimit
  · exact (horders b o ho).elim (hquotas b o) id

theorem State.limited.of_states {s t : State} (h : s.limited) (hsite : t.site = s.site)
    (hstates : ∀ b, (t.bay b).state = (s.bay b).state) (horders : ∀ b, t.order b = s.order b) : t.limited :=
  h.mono hsite (fun b => (State.setPoint_congr (hstates b) (horders b)).le) fun b _ ho => .inl (horders b ▸ ho)

/-- The limits stand where one bay alone changes and its set-point does not rise. -/
theorem State.limited.at {s t : State} (h : s.limited) {b : BayNo} (hsite : t.site = s.site) (hother : s.otherBays t b)
    (hpoint : t.setPoint b ≤ s.setPoint b) (horder : ∀ o, t.order b = some o → s.order b = some o ∨ o.within) :
    t.limited := by
  refine h.mono hsite (fun c => ?_) fun c o ho => ?_
  · by_cases hc : c = b
    · exact hc ▸ hpoint
    · exact (hother.setPoint hc).le
  · by_cases hc : c = b
    · subst hc
      exact horder o ho
    · exact .inl ((hother c hc).2.2 ▸ ho)

theorem State.limited_setBayState {s : State} {b : BayNo} {st : BayState} (hst : st ≠ .transfer) (h : s.limited) :
    (s.setBayState b st).limited := by
  refine h.at (by simp) (s.setBayState_other b st) ?_ fun o ho => .inl (by simpa using ho)
  rw [State.setPoint_of_ne_transfer (by simpa [State.state_setBayState] using hst)]
  exact Nat.zero_le _

theorem State.setPoint_setOrder (s : State) (b : BayNo) (o : Order) :
    (s.setOrder b (some o)).setPoint b = if (s.bay b).state = .transfer then o.level else 0 := by
  simp [State.setPoint]

theorem State.limited_setOrder {s : State} {b : BayNo} {o o' : Order} (ho : s.order b = some o) (htamer : o.tamer o')
    (h : s.limited) : (s.setOrder b (some o')).limited := by
  obtain ⟨hlevel, hwithin⟩ := htamer
  refine h.at rfl (s.setOrder_other b _) ?_ fun x hx => .inr ?_
  · rw [State.setPoint_setOrder, State.setPoint, ho]
    split
    · exact hlevel
    · exact le_rfl
  · rw [State.order_setOrder, Option.some.injEq] at hx
    exact hx ▸ hwithin (h.2 b o ho)

theorem State.limited_noOrder {s : State} (b : BayNo) (h : s.limited) : (s.setOrder b none).limited := by
  refine h.at rfl (s.setOrder_other b _) ?_ fun x hx => ?_
  · rw [State.setPoint_of_none (by simp)]
    exact Nat.zero_le _
  · simp at hx

/-! ### Set-points issued (R97, R102) -/

theorem State.limitSetPoint_le (s : State) (b : BayNo) (o : Order) (level : Nat) :
    s.limitSetPoint b o level ≤ o.remaining ∧ s.limitSetPoint b o level ≤ s.headroom b := by
  unfold State.limitSetPoint
  omega

/-- A set-point within the quota remaining keeps the order within its quota. -/
theorem Order.within_issued {o : Order} {setPoint : Nat} (phase : Phase) (cause : Option EndCause) (h : o.within)
    (hpoint : setPoint ≤ o.remaining) : (o.issued setPoint phase cause).within := by
  obtain ⟨hdelivered, hquota⟩ := h
  unfold Order.remaining at hpoint
  refine ⟨?_, hquota⟩
  show o.delivered + setPoint ≤ o.quota
  omega

/-- A set-point within the headroom of its bay keeps the total within the site limit. -/
theorem State.limited.issued {s t : State} (h : s.limited) {b : BayNo} (hsite : t.site = s.site)
    (hother : s.otherBays t b) (hpoint : t.setPoint b ≤ s.headroom b)
    (horder : ∀ o, t.order b = some o → o.within) : t.limited := by
  obtain ⟨hlimit, hquotas⟩ := h
  refine ⟨?_, fun c o ho => ?_⟩
  · have hsplit := s.totalSetPoint_eq b
    have hsplit' := t.totalSetPoint_eq b
    rw [State.othersSetPoint_congr fun c hc => hother.setPoint hc] at hsplit'
    rw [State.headroom_eq] at hpoint
    rw [State.withinSiteLimit] at hlimit ⊢
    rw [hsite]
    omega
  · by_cases hc : c = b
    · subst hc
      exact horder o ho
    · exact hquotas c o ((hother c hc).2.2 ▸ ho)

theorem State.limited_issue {s : State} {b : BayNo} {o : Order} (level : Nat) (phase : Phase) (cause : Option EndCause)
    (ho : s.order b = some o) (h : s.limited) :
    (s.setOrder b (some (o.issued (s.limitSetPoint b o level) phase cause))).limited := by
  obtain ⟨hremaining, hheadroom⟩ := s.limitSetPoint_le b o level
  refine h.issued rfl (s.setOrder_other b _) ?_ fun x hx => ?_
  · rw [State.setPoint_setOrder]
    split
    · exact hheadroom
    · exact Nat.zero_le _
  · rw [State.order_setOrder, Option.some.injEq] at hx
    exact hx ▸ Order.within_issued phase cause (h.2 b o ho) hremaining

theorem State.limited_firstStep {s : State} {b : BayNo} {o : Order} (ho : s.order b = some o ∨ o.within)
    (h : s.limited) : (s.firstStep b o).limited := by
  obtain ⟨hremaining, hheadroom⟩ := s.limitSetPoint_le b o (s.profileOf o.request).ps
  have horder : (s.firstStep b o).order b = some (s.firstOrder b o) := by simp [State.firstStep]
  refine h.issued (by simp [State.firstStep]) (s.firstStep_other b o) ?_ fun x hx => ?_
  · exact (State.setPoint_le_level horder).trans hheadroom
  · rw [horder, Option.some.injEq] at hx
    exact hx ▸ Order.within_issued _ _ (ho.elim (h.2 b o) id) hremaining

/-! ### The updates -/

theorem limited_linkClosed : LinkClosed State.limited where
  modBay _ _ hcore h := h.of_states rfl (State.state_setBay (BayRecord.state_of_core (hcore _))) fun _ => rfl
  modFault _ _ h := h
  noOrder b h := State.limited_noOrder b h
  setOrder ho htamer h := State.limited_setOrder ho htamer h
  setBayState hst _ h := State.limited_setBayState hst h
  hand _ h := h
  join _ h := h.of_states (by simp) (by simp) (by simp)
  markBay _ h := h
  raiseFleet _ h := h
  issue level phase cause ho h := State.limited_issue level phase cause ho h
  firstStep ho _ h := State.limited_firstStep ho h
  newOrder {t} b id target quota h := by
    refine h.at rfl (t.setOrder_other b _) ?_ fun x hx => .inr ?_
    · exact (State.setPoint_le_level (t.order_setOrder b _)).trans (Nat.zero_le _)
    · rw [State.order_setOrder, Option.some.injEq] at hx
      exact hx ▸ within_newOrder id target quota
  bind _ _ h := State.limited_setBayState (by decide) h
  modRequest _ h := h
  dropRequest _ h := h
  lastResult _ h := h
  notices _ h := h
  raiseGrid _ h := h
  setRecord hstate _ h := h.of_states rfl (State.state_setBay hstate) fun _ => rfl
  clearLink {t} b h := h.of_states (by simp) (State.state_clearLink t b) fun c => by simp
  linkBay {t b v} _ _ _ h := h.of_states (by simp) (State.state_linkBay t b v) fun c => by simp

theorem State.withinQuotas_reset {s : State} (h : ∀ b, s.order b = none) : s.withinQuotas := fun b o ho => by
  simp [h b] at ho

theorem State.limited_of_noOrders {s : State} (h : ∀ b, s.order b = none) : s.limited := by
  refine ⟨?_, State.withinQuotas_reset h⟩
  have hzero : s.totalSetPoint = 0 := by
    rw [State.totalSetPoint, List.sum_eq_zero_iff]
    intro x hx
    obtain ⟨b, -, rfl⟩ := List.mem_map.mp hx
    exact State.setPoint_of_none (h b)
  rw [State.withinSiteLimit, hzero]
  exact Nat.zero_le _

theorem State.order_reset (b : BayNo) : State.reset.order b = none := by
  simp [State.order, State.reset]

theorem State.order_softReset (s : State) (b : BayNo) : s.softReset.order b = none := by
  simp [State.order, State.softReset]

theorem State.limited_advanceTimers {s : State} (h : s.limited) : s.advanceTimers.limited := by
  refine h.mono rfl (fun b => ?_) fun b o ho => ?_
  · rw [State.setPoint, State.setPoint, State.bay_advanceTimers, State.order_advanceTimers]
    cases s.order b <;> exact le_rfl
  · rw [State.order_advanceTimers, Option.map_eq_some_iff] at ho
    obtain ⟨x, hx, rfl⟩ := ho
    exact .inr (h.2 b x hx)

/-- The cut brings the set-points within the site limit, whatever they were (R109). -/
theorem State.limited_siteLimitCut {s : State} (h : s.withinQuotas) : s.siteLimitCut.limited := by
  obtain ⟨-, -, -, -, hcut⟩ := foldl_cutBay_spec (List.nodup_reverse.mpr allBays_nodup) s
    (s.totalSetPoint - s.site.limit)
  refine ⟨?_, fun b o ho => ?_⟩
  · rw [State.withinSiteLimit, State.totalSetPoint_siteLimitCut, s.siteLimitCut_frame.site (by simp)]
    exact min_le_right _ _
  · obtain ⟨front, back, hsplit⟩ := List.append_of_mem (List.mem_reverse.mpr (mem_allBays b))
    rw [State.siteLimitCut, (hcut front b back hsplit).1, Option.map_eq_some_iff] at ho
    obtain ⟨old, hold, rfl⟩ := ho
    exact h b old hold

theorem State.withinQuotas_recompute {s : State} (l : List BayNo) (h : s.withinQuotas) :
    (l.foldl State.recomputeCaps s).withinQuotas := by
  have hframe := State.sameBut_foldl _ State.recomputeCaps_frame l s
  intro b o ho
  rw [State.order, hframe.orders (by simp)] at ho
  exact h b o ho

/-- A new site limit is kept, whatever the set-points were (R109, R156). -/
theorem State.limited_writeSite {s : State} (x : Site) (h : s.limited) : (s.writeSite x).limited :=
  limited_linkClosed.hand (.change .site)
    (State.limited_siteLimitCut (State.withinQuotas_recompute (s := { s with site := x, siteValid := true }) _ h.2))

theorem limited_partClosed : PartClosed State.limited where
  toLinkClosed := limited_linkClosed
  powerOn _ := State.limited_of_noOrders State.order_reset
  advance h := State.limited_advanceTimers h
  setLine _ _ h := h
  pollNext _ h := h
  exchange _ h := h
  setPort _ _ h := h.of_states (by simp) (by simp) (by simp)
  setFrame _ h := h.of_states (by simp) (by simp) (by simp)
  eventsRead h := h
  setClock _ h := h
  profiles _ h := h
  policy _ _ h := h
  writeSite {_ x} _ h := State.limited_writeSite x h
  submit _ _ _ _ _ h := h
  run _ _ h := h
  halt _ _ h := by
    unfold State.halt
    split <;> exact h
  softReset _ := State.limited_of_noOrders (State.order_softReset _)
  append _ _ _ h := h
  modVehicle _ _ _ h := h
  withdraw _ h := limited_linkClosed.unlinkIf _ h

end Sys2Proof.Machine

namespace Sys2Proof.Proofs

open Sys2Proof.Machine

/-- Settles O55: every update keeps the limits, so every step does. -/
theorem setPointsStayWithinLimits : Obligations.SetPointsStayWithinLimits := by
  unfold Obligations.SetPointsStayWithinLimits
  intro s t h hstep
  exact limited_partClosed.commandClosed.step (fun _ h => h) h hstep

end Sys2Proof.Proofs
end

section
/-! SUPPORT. Which order a bay's state asks for (R18, R93, R95): what every update leaves at its bay, and from that the
statement O58. -/

namespace Sys2Proof.Machine

/-! ### The order a state asks for -/

/-- A bay record and its order slot fit (R18, R93, R95). -/
def placedAt (r : BayRecord) (slot : Option Order) : Prop :=
  (r.state = .binding → ∃ o, slot = some o ∧ o.phase = .waitBind)
  ∧ (r.state = .bound → ∀ o, slot = some o → o.phase = .waitBind ∧ r.settleTimer ≠ none)
  ∧ (r.state = .transfer → ∃ o, slot = some o ∧ o.phase ≠ .waitBind)
  ∧ (r.state ≠ .binding → r.state ≠ .bound → r.state ≠ .transfer → slot = none)

theorem State.ordersPlaced_iff (s : State) : s.ordersPlaced ↔ ∀ b, placedAt (s.bay b) (s.order b) := Iff.rfl

/-- An empty slot fits every state but BINDING and TRANSFER. -/
theorem placedAt_none_iff {r : BayRecord} : placedAt r none ↔ r.state ≠ .binding ∧ r.state ≠ .transfer := by
  simp [placedAt]

/-- A WAIT_BIND order fits BINDING, and BOUND while the settle timer runs; a running one fits TRANSFER. -/
theorem placedAt_some_iff {r : BayRecord} {o : Order} : placedAt r (some o) ↔
    (o.phase = .waitBind ∧ (r.state = .binding ∨ (r.state = .bound ∧ r.settleTimer ≠ none)))
    ∨ (o.phase ≠ .waitBind ∧ r.state = .transfer) := by
  unfold placedAt
  cases hstate : r.state <;> simp

theorem State.ordersPlaced.engaged {s : State} (h : s.ordersPlaced) : s.ordersEngaged := by
  intro b o ho
  have hb := s.ordersPlaced_iff.mp h b
  rw [ho, placedAt_some_iff] at hb
  obtain ⟨-, hstate | ⟨hstate, -⟩⟩ | ⟨-, hstate⟩ := hb <;> rw [hstate] <;> rfl

theorem State.ordersPlaced.transfer_of_running {s : State} (h : s.ordersPlaced) {b : BayNo} {o : Order}
    (ho : s.order b = some o) (hphase : o.phase ≠ .waitBind) : (s.bay b).state = .transfer := by
  have hb := s.ordersPlaced_iff.mp h b
  rw [ho, placedAt_some_iff] at hb
  obtain ⟨hwait, -⟩ | ⟨-, hstate⟩ := hb
  · exact absurd hwait hphase
  · exact hstate

theorem State.ordersPlaced.state_of_waiting {s : State} (h : s.ordersPlaced) {b : BayNo} {o : Order}
    (ho : s.order b = some o) (hphase : o.phase = .waitBind) :
    (s.bay b).state = .binding ∨ ((s.bay b).state = .bound ∧ (s.bay b).settleTimer ≠ none) := by
  have hb := s.ordersPlaced_iff.mp h b
  rw [ho, placedAt_some_iff] at hb
  obtain ⟨-, hstate⟩ | ⟨hrunning, -⟩ := hb
  · exact hstate
  · exact absurd hphase hrunning

theorem State.ordersPlaced.order_none {s : State} (h : s.ordersPlaced) {b : BayNo}
    (hb : (s.bay b).state.engaged = false) : s.order b = none := by
  by_contra hne
  obtain ⟨o, ho⟩ := Option.ne_none_iff_exists'.mp hne
  rw [h.engaged b o ho] at hb
  cases hb

theorem State.ordersPlaced.order_checking {s : State} (h : s.ordersPlaced) {b : BayNo}
    (hb : (s.bay b).state = .checking) : s.order b = none :=
  (h b).2.2.2 (by simp [hb]) (by simp [hb]) (by simp [hb])

/-! ### Ways to keep the orders in place -/

/-- One bay alone changes, and its record and its slot fit. -/
theorem State.ordersPlaced.at {s t : State} (h : s.ordersPlaced) {b : BayNo} (hother : s.otherBays t b)
    (hb : placedAt (t.bay b) (t.order b)) : t.ordersPlaced := by
  intro c
  by_cases hc : c = b
  · exact hc ▸ hb
  · obtain ⟨hbay, -, horder⟩ := hother c hc
    rw [hbay, horder]
    exact h c

/-- One bay alone changes, and its slot is left empty. -/
theorem State.ordersPlaced.cleared {s t : State} (h : s.ordersPlaced) {b : BayNo} {st : BayState}
    (hother : s.otherBays t b) (horder : t.order b = none) (hstate : (t.bay b).state = st)
    (hst : st ≠ .binding ∧ st ≠ .transfer) : t.ordersPlaced := by
  refine h.at hother ?_
  rw [horder, placedAt_none_iff, hstate]
  exact hst

/-- No state changes, no settle timer starts or stops, and no order comes, goes, or takes its first step. -/
theorem State.ordersPlaced.of_states {s t : State} (h : s.ordersPlaced)
    (hstate : ∀ c, (t.bay c).state = (s.bay c).state)
    (hsettle : ∀ c, (t.bay c).settleTimer = none ↔ (s.bay c).settleTimer = none)
    (horder : ∀ c, (t.order c).map (fun o => decide (o.phase = .waitBind))
      = (s.order c).map (fun o => decide (o.phase = .waitBind))) : t.ordersPlaced := by
  rw [State.ordersPlaced_iff] at h ⊢
  intro c
  have hc := h c
  have ho := horder c
  cases hs : s.order c with
  | none =>
    cases ht : t.order c with
    | none =>
      rw [hs, placedAt_none_iff] at hc
      rwa [placedAt_none_iff, hstate]
    | some o => simp [hs, ht] at ho
  | some o =>
    cases ht : t.order c with
    | none => simp [hs, ht] at ho
    | some o' =>
      simp only [hs, ht, Option.map_some, Option.some.injEq, decide_eq_decide] at ho
      rw [hs, placedAt_some_iff] at hc
      simpa only [placedAt_some_iff, hstate, ho, Ne, hsettle] using hc

theorem State.ordersPlaced.of_frame {s t : State} (h : s.ordersPlaced) {parts : List Part} (hframe : s.sameBut t parts)
    (hbays : .bays ∉ parts) (horders : .orders ∉ parts) : t.ordersPlaced := by
  intro c
  rw [State.bay, State.order, hframe.bays hbays, hframe.orders horders]
  exact h c

theorem State.ordersPlaced.of_parts {s t : State} (h : s.ordersPlaced) (hbays : t.bays = s.bays)
    (horders : t.orders = s.orders) : t.ordersPlaced := by
  intro c
  rw [State.bay, State.order, hbays, horders]
  exact h c

theorem State.ordersPlaced.modFault {s : State} (h : s.ordersPlaced) (b : BayNo) (f : FaultSet → FaultSet) :
    (s.modFault b f).ordersPlaced := h.of_parts rfl rfl

theorem State.ordersPlaced.modRequest {s : State} (h : s.ordersPlaced) (id : Nat) (f : Request → Request) :
    (s.modRequest id f).ordersPlaced := h.of_parts rfl rfl

/-- A bay record written with its state and its settle timer kept. -/
theorem State.ordersPlaced.modBay {s : State} (h : s.ordersPlaced) (b : BayNo) {f : BayRecord → BayRecord}
    (hstate : (f (s.bay b)).state = (s.bay b).state)
    (hsettle : (f (s.bay b)).settleTimer = (s.bay b).settleTimer) : (s.modBay b f).ordersPlaced := by
  refine h.at (s.modBay_other b f) ?_
  have hb := h b
  unfold placedAt
  simpa [hstate, hsettle] using hb

/-! ### Links, caps and releases pending -/

theorem State.ordersPlaced.recomputeCaps {s : State} (h : s.ordersPlaced) (b : BayNo) :
    (s.recomputeCaps b).ordersPlaced := h.modBay (f := fun r => { r with tempCap := _, capEff := _ }) b rfl rfl

theorem State.ordersPlaced.linkBay {s : State} (h : s.ordersPlaced) (b : BayNo) (v : Vehicle) :
    (s.linkBay b v).ordersPlaced := by
  have hmod : (s.modVehicle v.number fun x => { x with bayLink := some b }).ordersPlaced := h
  exact (hmod.modBay b rfl rfl).recomputeCaps b

theorem State.ordersPlaced.clearLink {s : State} (h : s.ordersPlaced) (b : BayNo) : (s.clearLink b).ordersPlaced := by
  unfold State.clearLink
  split
  · exact h
  case h_2 n hn =>
    have hmod : (s.modVehicle n fun x => { x with bayLink := none }).ordersPlaced := h
    exact (hmod.modBay b rfl rfl).recomputeCaps b

theorem State.ordersPlaced.testLink {s : State} (h : s.ordersPlaced) (b : BayNo) : (s.testLink b).ordersPlaced := by
  unfold State.testLink
  split
  · exact h
  · split
    · split
      · exact h.linkBay b _
      · exact h
    · exact h

theorem State.ordersPlaced.endRelease {s : State} (h : s.ordersPlaced) (b : BayNo) : (s.endRelease b).ordersPlaced :=
  h.modBay b (f := fun r => { r with releasePending := false, releaseTimer := none }) rfl rfl

theorem State.ordersPlaced.endReleaseIf {s : State} (h : s.ordersPlaced) (b : BayNo) (ends : Bool) :
    (s.endReleaseIf b ends).ordersPlaced := by
  unfold State.endReleaseIf
  split
  · exact h.endRelease b
  · exact h

theorem State.ordersPlaced.handIfChanged {s : State} (h : s.ordersPlaced) (b : BayNo) (before : BayState) :
    (s.handIfChanged b before).ordersPlaced := by
  unfold State.handIfChanged
  split <;> exact h

/-! ### Bays with an empty slot change their state -/

theorem State.state_setBayState_self (s : State) (b : BayNo) (st : BayState) :
    ((s.setBayState b st).bay b).state = st := by
  simp [State.state_setBayState]

theorem State.state_release (s : State) (b : BayNo) : ((s.release b).bay b).state = .releasing := by
  simp [State.release, State.state_setBayState_self]

theorem State.state_startCheck (s : State) (b : BayNo) : ((s.startCheck b).bay b).state = .checking := by
  simp [State.startCheck, State.state_setBayState_self]

theorem State.state_takeOut (s : State) (b : BayNo) : ((s.takeOut b).bay b).state = .outOfService := by
  simp [State.takeOut, State.state_setBayState_self]

theorem State.state_detect (s : State) (b : BayNo) : ((s.detect b).bay b).state = .detected := by
  simp [State.detect, State.state_setBayState_self]

theorem State.ordersPlaced.setBayState {s : State} (h : s.ordersPlaced) {b : BayNo} {st : BayState}
    (ho : s.order b = none) (hst : st ≠ .binding ∧ st ≠ .transfer) : (s.setBayState b st).ordersPlaced :=
  h.cleared (s.setBayState_other b st) (by simpa using ho) (s.state_setBayState_self b st) hst

theorem State.ordersPlaced.release {s : State} (h : s.ordersPlaced) {b : BayNo} (ho : s.order b = none) :
    (s.release b).ordersPlaced :=
  h.cleared (s.release_other b) (by simpa [State.release] using ho) (s.state_release b) (by decide)

theorem State.ordersPlaced.takeOut {s : State} (h : s.ordersPlaced) {b : BayNo} (ho : s.order b = none) :
    (s.takeOut b).ordersPlaced :=
  h.cleared (s.takeOut_other b) (by simpa [State.takeOut] using ho) (s.state_takeOut b) (by decide)

theorem State.ordersPlaced.detect {s : State} (h : s.ordersPlaced) {b : BayNo} (ho : s.order b = none) :
    (s.detect b).ordersPlaced :=
  h.cleared (s.detect_other b) (by simpa [State.detect] using ho) (s.state_detect b) (by decide)

theorem State.ordersPlaced.enterParked {s : State} (h : s.ordersPlaced) {b : BayNo} (ho : s.order b = none) :
    (s.enterParked b).ordersPlaced :=
  ((h.modBay b (f := fun r => { r with stateTimer := none }) rfl rfl).setBayState (by simpa using ho)
    (by decide)).testLink b

theorem State.ordersPlaced.restart {s : State} (h : s.ordersPlaced) {b : BayNo} (ho : s.order b = none) :
    (s.restart b).ordersPlaced := by
  unfold State.restart
  split
  · exact h.detect ho
  · exact h.setBayState ho (by decide)

/-! ### The ends of orders -/

theorem State.order_finishOrder (s : State) (b : BayNo) (o : Order) : (s.finishOrder b o).order b = none := by
  unfold State.finishOrder State.afterOrderEnd
  split
  · simp [State.release]
  · split <;> simp [State.startCheck]

theorem State.state_afterOrderEnd (s : State) (b : BayNo) (o : Order) :
    ((s.afterOrderEnd b o).bay b).state = .releasing ∨ ((s.afterOrderEnd b o).bay b).state = .checking
    ∨ ((s.afterOrderEnd b o).bay b).state = .bound := by
  unfold State.afterOrderEnd
  split
  · exact .inl (s.state_release b)
  · split
    · exact .inr (.inl (s.state_startCheck b))
    · exact .inr (.inr (s.state_setBayState_self b _))

theorem State.ordersPlaced.finishOrder {s : State} (h : s.ordersPlaced) (b : BayNo) (o : Order) :
    (s.finishOrder b o).ordersPlaced := by
  refine h.at (s.finishOrder_other b o) ?_
  rw [State.order_finishOrder, placedAt_none_iff]
  have hstate := ((s.dropOrder b o.endCause false).join b).state_afterOrderEnd b o
  constructor <;> intro hne <;> simp [State.finishOrder] at hne <;> simp [hne] at hstate

theorem State.ordersPlaced.setRunning {s : State} (h : s.ordersPlaced) {b : BayNo} {o : Order}
    (hstate : (s.bay b).state = .transfer) (ho : o.phase ≠ .waitBind) : (s.setOrder b (some o)).ordersPlaced := by
  refine h.at (s.setOrder_other b _) ?_
  rw [State.order_setOrder, placedAt_some_iff]
  exact .inr ⟨ho, hstate⟩

theorem State.ordersPlaced.abortRelease {s : State} (h : s.ordersPlaced) (b : BayNo) (cause : EndCause)
    (byTransition : Bool) : ((s.abortOrder b cause byTransition).release b).ordersPlaced :=
  h.cleared ((s.abortOrder_other b cause byTransition).trans (State.release_other _ b)) (by simp [State.release])
    (State.state_release _ b) (by decide)

theorem State.ordersPlaced.endFor {s : State} (h : s.ordersPlaced) {b : BayNo} {o : Order} (ho : s.order b = some o)
    (cause : EndCause) : (s.endFor b o cause).ordersPlaced := by
  unfold State.endFor
  split
  case isTrue hwait =>
    unfold State.removeWaitBind State.afterRemoval
    obtain hstate | ⟨hstate, -⟩ := h.state_of_waiting ho hwait
    · simpa [hstate] using h.abortRelease b cause false
    · simp only [State.bay_abortOrder, hstate]
      split
      · exact h.abortRelease b cause false
      · exact h.cleared (s.abortOrder_other b cause false) (by simp) (st := .bound) (by simpa using hstate) (by decide)
  case isFalse hrunning => exact h.setRunning (h.transfer_of_running ho hrunning) (by simp [Order.declineFor])

theorem State.ordersPlaced.declineBay {s : State} (h : s.ordersPlaced) (b : BayNo) (cause : EndCause) :
    (s.declineBay b cause).ordersPlaced := by
  unfold State.declineBay
  split
  · exact h
  case h_2 o ho =>
    split
    · exact h
    case isFalse hrunning => exact h.setRunning (h.transfer_of_running ho hrunning) (by simp [Order.declineFor])

theorem State.ordersPlaced.releaseFor {s : State} (h : s.ordersPlaced) (b : BayNo) (cause : EndCause) :
    (s.releaseFor b cause).ordersPlaced := by
  unfold State.releaseFor
  split
  iterate 3 exact h.abortRelease b cause false
  · exact h.declineBay b cause
  all_goals exact h

/-! ### Steps, creation and target changes -/

theorem Order.planDecline_issues {o : Order} {p : Profile} {c cause : Option EndCause} {level : Nat} {phase : Phase}
    (h : o.planDecline p c = .issue level phase cause) : phase = .decline := by
  unfold Order.planDecline at h
  split at h
  · cases h
  · cases h
    rfl

theorem Order.planRise_issues {o : Order} {p : Profile} {cause : Option EndCause} {level : Nat} {phase : Phase}
    (h : o.planRise p = .issue level phase cause) : phase ≠ .waitBind := by
  unfold Order.planRise at h
  dsimp only at h
  split at h
  · cases h
    split <;> decide
  · split at h
    · cases h
      decide
    · rw [Order.planDecline_issues h]
      decide

theorem Order.planHold_issues {o : Order} {p : Profile} {cause : Option EndCause} {level : Nat} {phase : Phase}
    (h : o.planHold p = .issue level phase cause) : phase ≠ .waitBind := by
  unfold Order.planHold at h
  split at h
  · exact Order.planRise_issues h
  · split at h
    · cases h
      decide
    · rw [Order.planDecline_issues h]
      decide

/-- No step takes an order back to WAIT_BIND (R96 to R101). -/
theorem Order.plan_issues {o : Order} {p : Profile} {cause : Option EndCause} {level : Nat} {phase : Phase}
    (h : o.plan p = .issue level phase cause) : phase ≠ .waitBind := by
  unfold Order.plan at h
  split at h
  · cases h
  · exact Order.planRise_issues h
  · exact Order.planHold_issues h
  · unfold Order.planLower at h
    split at h
    · cases h
      split <;> decide
    · exact Order.planHold_issues h
  · rw [Order.planDecline_issues h]
    decide

theorem State.ordersPlaced.stepOrder {s : State} (h : s.ordersPlaced) {b : BayNo} {o : Order}
    (hstate : (s.bay b).state = .transfer) : (s.stepOrder b o).ordersPlaced := by
  unfold State.stepOrder
  split
  · exact h.finishOrder b _
  case h_2 level phase cause hplan =>
    have hput : (s.putOrder b (o.issued (s.limitSetPoint b o level) phase cause)).ordersPlaced :=
      State.ordersPlaced.of_frame (h.setRunning hstate (Order.plan_issues hplan)) (State.join_frame _ b) (by simp)
        (by simp)
    unfold State.issueStep
    split
    · exact hput.finishOrder b _
    · exact hput

theorem State.phase_firstOrder (s : State) (b : BayNo) (o : Order) : (s.firstOrder b o).phase ≠ .waitBind := by
  unfold State.firstOrder Order.issued
  dsimp only
  split <;> decide

theorem State.ordersPlaced.firstStep {s : State} (h : s.ordersPlaced) (b : BayNo) (o : Order) :
    (s.firstStep b o).ordersPlaced := by
  refine h.at (s.firstStep_other b o) ?_
  have horder : (s.firstStep b o).order b = some (s.firstOrder b o) := by simp [State.firstStep]
  rw [horder, placedAt_some_iff]
  exact .inr ⟨s.phase_firstOrder b o, by simp [State.firstStep, State.state_setBayState_self]⟩

theorem State.ordersPlaced.createOrder {s : State} (h : s.ordersPlaced) (id : Nat) (b : BayNo) (target quota : Nat) :
    (s.createOrder id b target quota).ordersPlaced := by
  unfold State.createOrder
  split
  · refine h.at (b := b) ?_ ?_
    · exact (((s.setOrder_other b _).trans (State.modBay_other _ b _)).trans (State.setBayState_other _ b _)).trans
        (State.join_other _ b b)
    · simp [placedAt_some_iff, State.state_setBayState_self, newOrder]
  case h_2 hstate =>
    split
    case isTrue hsettle =>
      refine h.at (s.setOrder_other b _) ?_
      rw [State.order_setOrder, placedAt_some_iff]
      exact .inl ⟨rfl, .inr ⟨hstate, Option.isSome_iff_ne_none.mp hsettle⟩⟩
    case isFalse => exact h.firstStep b _
  · exact h

theorem Order.waiting_retarget (o : Order) (target remaining : Nat) :
    (o.retarget target remaining).phase = .waitBind ↔ o.phase = .waitBind := by
  unfold Order.retarget phaseFor
  cases hphase : o.phase <;> simp [hphase] <;> split_ifs <;> simp

theorem State.ordersPlaced.rewrite {s : State} (h : s.ordersPlaced) {b : BayNo} {o o' : Order} (ho : s.order b = some o)
    (hwait : o'.phase = .waitBind ↔ o.phase = .waitBind) : (s.setOrder b (some o')).ordersPlaced := by
  refine h.at (s.setOrder_other b _) ?_
  have hb := s.ordersPlaced_iff.mp h b
  rw [ho, placedAt_some_iff] at hb
  rw [State.order_setOrder, placedAt_some_iff]
  simpa only [State.bay_setOrder, Ne, hwait] using hb

theorem State.ordersPlaced.foldl {α : Type} {f : State → α → State}
    (hf : ∀ {t : State} (a : α), t.ordersPlaced → (f t a).ordersPlaced) (l : List α) {s : State} (h : s.ordersPlaced) :
    (l.foldl f s).ordersPlaced := OpClosed.foldl hf l h

theorem State.ordersPlaced.alignOrders {s : State} (h : s.ordersPlaced) (id remaining : Nat) (list : List Participant) :
    (s.alignOrders id remaining list).ordersPlaced := by
  refine State.ordersPlaced.foldl (fun e ht => ?_) _ (State.ordersPlaced.foldl (fun b ht => ?_) _
    (State.ordersPlaced.foldl (fun e ht => ?_) _ h))
  · unfold State.createEntry
    split
    · exact ht
    · exact ht.createOrder _ _ _ _
  · unfold State.dropOutEntry
    split
    case h_1 o ho =>
      split
      · exact ht.endFor ho _
      · exact ht
    · exact ht
  · unfold State.retargetEntry
    split
    case h_1 o ho =>
      split
      · exact ht.rewrite ho (o.waiting_retarget _ _)
      · exact ht
    · exact ht

theorem State.ordersPlaced.endAllFor {s : State} (h : s.ordersPlaced) (id : Nat) (cause : EndCause) :
    (s.endAllFor id cause).ordersPlaced := by
  refine State.ordersPlaced.foldl (fun b ht => ?_) _ h
  unfold State.endEntry
  split
  case h_1 o ho =>
    split
    · exact ht.endFor ho _
    · exact ht
  · exact ht

theorem State.ordersPlaced.cutBay {acc : State × Nat} (h : acc.1.ordersPlaced) (b : BayNo) :
    (cutBay acc b).1.ordersPlaced := by
  unfold Machine.cutBay
  dsimp only
  split
  · split
    case h_1 o ho =>
      split
      · exact h
      · have hcut : (acc.1.setOrder b (some { o with level := o.level - min o.level acc.2 })).ordersPlaced :=
          h.rewrite ho Iff.rfl
        exact hcut.of_frame (State.join_frame _ b) (by simp) (by simp)
    · exact h
  · exact h

theorem State.ordersPlaced.siteLimitCut {s : State} (h : s.ordersPlaced) : s.siteLimitCut.ordersPlaced := by
  unfold State.siteLimitCut
  generalize s.totalSetPoint - s.site.limit = excess
  have hfold (l : List BayNo) (acc : State × Nat) (hacc : acc.1.ordersPlaced) : (l.foldl Machine.cutBay acc).1.ordersPlaced := by
    induction l generalizing acc with
    | nil => exact hacc
    | cons b l ih => exact ih _ (hacc.cutBay b)
  exact hfold _ _ h

end Sys2Proof.Machine
end

section
/-! SUPPORT. The orders' places over faults, replies, the Request Queue and every command, and the statement O58. -/

namespace Sys2Proof.Machine

theorem State.order_unplug (s : State) (b : BayNo) : (s.unplug b).order b = none := by
  simp [State.unplug]

theorem State.order_releaseIfEngaged (s : State) (b c : BayNo) :
    (s.releaseIfEngaged b).order c = s.order c := by
  unfold State.releaseIfEngaged
  split <;> simp [State.release]

theorem State.order_tripOrder (s : State) (b : BayNo) : (s.tripOrder b).order b = none := by
  unfold State.tripOrder
  split
  case h_1 ho => exact ho
  case h_2 o ho => simp [State.order_releaseIfEngaged]

theorem State.tripOrder_other (s : State) (b : BayNo) : s.otherBays (s.tripOrder b) b := by
  unfold State.tripOrder
  split
  · exact s.otherBays_refl b
  · exact (((s.setOrder_other b none).trans (State.sameBut.otherBays (State.modRequest_frame _ _ _) b (by simp)
      (by simp) (by simp))).trans (State.join_other _ b b)).trans (State.releaseIfEngaged_other _ b)

theorem State.order_foldl_tripOrder (s : State) (b : BayNo) : (allBays.foldl State.tripOrder s).order b = none := by
  obtain ⟨m, -, hm⟩ := foldl_allBays State.tripOrder_other b s
  rw [hm.2.2]
  exact m.order_tripOrder b

namespace State.ordersPlaced

variable {s : State}

/-! ### Faults -/

theorem outAtThird (h : s.ordersPlaced) {b : BayNo} (ho : s.order b = none) : (s.outAtThird b).ordersPlaced := by
  unfold State.outAtThird
  split
  · exact h.takeOut ho
  · exact h

theorem countEntry (h : s.ordersPlaced) {b : BayNo} (kinds : List FaultKind) (ho : s.order b = none) :
    (s.countEntry b kinds).ordersPlaced := by
  unfold State.countEntry
  split
  · exact (h.modFault b _).outAtThird ho
  · exact h

theorem releaseFrom (h : s.ordersPlaced) (b : BayNo) (left : BayState) : (s.releaseFrom b left).ordersPlaced := by
  unfold State.releaseFrom
  split
  · have hpending := h.modBay b (f := fun r => { r with releasePending := true, releaseTimer := some releaseTime })
      rfl rfl
    exact of_frame (hpending.modFault b _) (State.join_frame _ b) (by simp) (by simp)
  · exact h

theorem enterFault (h : s.ordersPlaced) (b : BayNo) (first : FaultKind) (others : List FaultKind) :
    (s.enterFault b first others).ordersPlaced := by
  have hfault : ((((s.openFault b first others).abortOrder b (faultEndCause (s.order b) first) true).stopTimers
      b).setBayState b .fault).ordersPlaced := by
    refine h.cleared ?_ (by simp) (State.state_setBayState_self _ b _) (by decide)
    exact (((s.modFault_other b _).trans (State.abortOrder_other _ b _ _)).trans (State.stopTimers_other _ b)).trans
      (State.setBayState_other _ b _)
  refine countEntry (s := (State.startHold _ b).raiseFleet .bayFault) ?_ _ ?_
  · exact (hfault.releaseFrom b _).of_parts rfl rfl
  · simp [State.startHold]

theorem takeFault (h : s.ordersPlaced) (b : BayNo) (first : FaultKind) (others : List FaultKind) :
    (s.takeFault b first others).ordersPlaced := by
  unfold State.takeFault
  split
  iterate 2 exact h
  iterate 7 exact h.enterFault b first others
  · unfold State.faultInFault
    dsimp only
    split <;> exact h
  · unfold State.faultInOut
    dsimp only
    split
    · split <;> exact h
    · exact h

theorem reportFault (h : s.ordersPlaced) (b : BayNo) (kind : FaultKind) : (s.reportFault b kind).ordersPlaced :=
  (h.takeFault b kind []).handIfChanged b _

theorem tryExit (h : s.ordersPlaced) {b : BayNo} (ho : s.order b = none) : (s.tryExit b).ordersPlaced := by
  unfold State.tryExit
  split
  · have hclosed : (s.setFaultSet b { s.faultSet b with
        hold := none, record := (s.faultSet b).record.close s.uptime }).ordersPlaced := h
    exact hclosed.enterParked ho
  · exact h

theorem takeReleaseTimeout (h : s.ordersPlaced) (b : BayNo) : (s.takeReleaseTimeout b).ordersPlaced := by
  unfold State.takeReleaseTimeout
  split
  case h_1 hstate =>
    have ho := h.order_none (b := b) (by rw [hstate]; rfl)
    exact ((h.modFault b _).takeOut (b := b) (by simpa using ho)).of_parts rfl rfl
  case h_2 hstate =>
    have ho := h.order_none (b := b) (by rw [hstate]; rfl)
    exact ((h.modFault b _).takeOut (b := b) (by simpa using ho)).of_parts rfl rfl
  case h_3 hstate =>
    split
    · exact h
    · have hout := h.takeFault b .releaseTimeout []
      simpa only [State.takeFault, hstate] using hout
  all_goals exact h

theorem releaseTimeout (h : s.ordersPlaced) (b : BayNo) : (s.releaseTimeout b).ordersPlaced := by
  have hrestart := (h.takeReleaseTimeout b).modBay b (f := fun r => { r with releaseTimer := some releaseTime }) rfl rfl
  exact handIfChanged (s := (s.takeReleaseTimeout b).restartRelease b) hrestart b _

/-! ### Replies -/

theorem unplug (h : s.ordersPlaced) (b : BayNo) : (s.unplug b).ordersPlaced :=
  h.cleared (s.unplug_other b) (by simp [State.unplug]) (State.state_setBayState_self _ b _) (by decide)

theorem completeBind (h : s.ordersPlaced) {b : BayNo} (hstate : (s.bay b).state = .binding) :
    (s.completeBind b).ordersPlaced := by
  obtain ⟨o, ho, hwait⟩ := (h b).1 hstate
  refine h.at ((s.modBay_other b _).trans (State.setBayState_other _ b _)) ?_
  have horder : (s.completeBind b).order b = some o := by simpa [State.completeBind] using ho
  rw [horder, placedAt_some_iff]
  refine .inl ⟨hwait, .inr ⟨State.state_setBayState_self _ b _, ?_⟩⟩
  simp [State.completeBind, State.bay_setBayState, hstate, BayRecord.toState]

theorem passCheck (h : s.ordersPlaced) {b : BayNo} (hstate : (s.bay b).state = .checking) :
    (s.passCheck b).ordersPlaced :=
  (h.modBay b (f := fun r => { r with stateTimer := none, interval := 0 }) rfl rfl).setBayState
    (by simpa using h.order_checking hstate) (by decide)

theorem completeRelease (h : s.ordersPlaced) {b : BayNo} (hstate : (s.bay b).state = .releasing) :
    (s.completeRelease b).ordersPlaced :=
  ((h.endRelease b).modBay b (f := fun r => { r with stateTimer := some cooldownTime }) rfl rfl).setBayState
    (by simpa [State.endRelease] using h.order_none (by rw [hstate]; rfl)) (by decide)

theorem replySameBus (h : s.ordersPlaced) (b : BayNo) : (s.replySameBus b).ordersPlaced := by
  unfold State.replySameBus
  dsimp only
  split
  case h_1 hstate =>
    split
    · exact h.completeBind hstate
    · exact h
  case h_2 hstate =>
    split
    · exact h.passCheck hstate
    · exact h.takeFault b _ _
    all_goals exact h
  case h_3 hstate =>
    split
    · exact h
    · exact h.completeRelease hstate
  case h_4 => exact h.endReleaseIf b _
  all_goals exact h

theorem replyDetected (h : s.ordersPlaced) {b : BayNo} (hstate : (s.bay b).state = .detected) :
    (s.replyDetected b).ordersPlaced := by
  have ho := h.order_none (b := b) (by rw [hstate]; rfl)
  unfold State.replyDetected
  split
  · exact h.setBayState ho (by decide)
  · split
    · exact h.enterParked ho
    · exact (h.setBayState ho (by decide)).detect (by simpa using ho)

theorem replyTransition (h : s.ordersPlaced) (b : BayNo) (before : Nat) : (s.replyTransition b before).ordersPlaced := by
  unfold State.replyTransition
  split
  case h_1 hstate =>
    unfold State.replyEmpty
    split
    · exact h.detect (h.order_none (by rw [hstate]; rfl))
    · exact h
  case h_2 hstate => exact h.replyDetected hstate
  case h_3 =>
    unfold State.replyOutOfService
    dsimp only
    split
    · exact (h.endReleaseIf b _).clearLink b
    · exact h.endReleaseIf b _
  all_goals
    unfold State.replyPlugged
    split
    · exact h.unplug b
    · split
      · exact (h.unplug b).detect (s.order_unplug b)
      · exact h.replySameBus b

theorem checkReply (h : s.ordersPlaced) (b : BayNo) (answered : Nat) : (s.checkReply b answered).ordersPlaced := by
  unfold State.checkReply
  split
  · have hcount : (s.modFault b fun f => { f with tracking := (s.trackingCheck b answered).1 }).ordersPlaced := h
    unfold State.takeCauses
    split
    · exact hcount
    · exact hcount.takeFault b _ _
  · exact h

theorem reserveGuard (h : s.ordersPlaced) (b : BayNo) : (s.reserveGuard b).ordersPlaced := by
  unfold State.reserveGuard
  split
  case h_1 o v hstate ho hv =>
    split
    · split
      · split
        · exact h.setRunning hstate (by simp [Order.declineFor])
        · exact h
      · exact h
    · exact h
  · exact h

theorem takeReply (h : s.ordersPlaced) (b : BayNo) (tele : Telemetry) (answered : Nat) :
    (s.takeReply b tele answered).ordersPlaced := by
  have htele := ((h.modBay b (f := fun r => { r with tele := tele }) rfl rfl).recomputeCaps b).replyTransition b
    (s.bay b).tele.vehicle
  refine handIfChanged (reserveGuard ?_ b) b _
  unfold State.exitAtReply
  split
  case isTrue hfault => exact (htele.checkReply b answered).tryExit (order_none (htele.checkReply b answered) (by rw [hfault.1]; rfl))
  case isFalse => exact htele.checkReply b answered

/-! ### Guards, departures and restarts of bays -/

theorem evaluateGuards (h : s.ordersPlaced) : s.evaluateGuards.ordersPlaced := by
  unfold State.evaluateGuards
  split
  · refine State.ordersPlaced.foldl (fun b ht => ?_) _ h
    unfold State.evaluateGuard
    split
    · exact ht
    · dsimp only
      split
      · split
        · exact (show (((State.releaseFor _ b .departureGuard).raiseFleet .reserveGuard).markBay b).ordersPlaced from
            ht.releaseFor b _).modBay b rfl rfl
        · exact ht
      · exact ht.modBay b rfl rfl
  · exact h

theorem takeBayOut (h : s.ordersPlaced) (b : BayNo) : (s.takeBayOut b).ordersPlaced := by
  refine handIfChanged (h.cleared (b := b) ?_ (by simp [State.takeOut]) (State.state_takeOut _ b) (by decide)) b _
  exact (((s.abortOrder_other b _ _).trans (State.stopTimers_other _ b)).trans (State.releaseFrom_other _ b _)).trans
    (State.takeOut_other _ b)

theorem restoreBay (h : s.ordersPlaced) {b : BayNo} (hstate : (s.bay b).state = .outOfService) :
    (s.restoreBay b).ordersPlaced := by
  have ho := h.order_none (b := b) (by rw [hstate]; rfl)
  have hrecord : (s.modFault b fun f => { f with history := [], record := .cleared }).ordersPlaced := h
  exact handIfChanged ((hrecord.clearLink b).restart (by simpa using ho)) b _

theorem settled (h : s.ordersPlaced) (b : BayNo) :
    ((s.modBay b fun r => { r with settleTimer := none }).settled b).ordersPlaced := by
  have hb := s.ordersPlaced_iff.mp h b
  have hother := s.modBay_other b fun r => { r with settleTimer := none }
  unfold State.settled
  simp only [State.bay_modBay, State.order_modBay]
  split
  case h_1 o hstate ho =>
    rw [ho, placedAt_some_iff] at hb
    split
    · refine h.at (hother.trans (State.firstStep_other _ b o)) ?_
      have horder : ((s.modBay b fun r => { r with settleTimer := none }).firstStep b o).order b
          = some ((s.modBay b fun r => { r with settleTimer := none }).firstOrder b o) := by simp [State.firstStep]
      rw [horder, placedAt_some_iff]
      exact .inr ⟨State.phase_firstOrder _ b o, by simp [State.firstStep, State.state_setBayState_self]⟩
    case isFalse hrunning =>
      obtain ⟨hwait, -⟩ | ⟨-, htransfer⟩ := hb
      · exact absurd hwait hrunning
      · simp [htransfer] at hstate
  case h_2 hneither =>
    refine h.at hother ?_
    rw [State.order_modBay]
    cases ho : s.order b with
    | none =>
      rw [ho, placedAt_none_iff] at hb
      simpa [placedAt_none_iff] using hb
    | some o =>
      have hbound : (s.bay b).state ≠ .bound := fun hstate => hneither o (by simpa using hstate) ho
      rw [ho, placedAt_some_iff] at hb
      simpa [placedAt_some_iff, hbound] using hb

/-! ### The Request Queue -/

theorem resplit (h : s.ordersPlaced) : s.resplit.ordersPlaced := by
  unfold State.resplit
  split
  · split
    · exact (h.modRequest _ _).alignOrders _ _ _
    all_goals exact h
  · exact h

theorem leaveIfDone (h : s.ordersPlaced) (id : Nat) : (s.leaveIfDone id).ordersPlaced :=
  h.of_frame (s.leaveIfDone_frame id) (by simp [leaveParts]) (by simp [leaveParts])

theorem takeChange (h : s.ordersPlaced) : s.takeChange.ordersPlaced :=
  resplit (State.ordersPlaced.foldl (fun id ht => ht.of_frame (State.review_frame _ id) (by simp) (by simp)) _ h)

theorem takeOrderEnd (h : s.ordersPlaced) (id : Nat) (cause : Option EndCause) (energy : Nat) (byTransition : Bool) :
    (s.takeOrderEnd id cause energy byTransition).ordersPlaced := by
  unfold State.takeOrderEnd
  split
  · exact h
  case h_2 r hr =>
    have htotal : (s.modRequest id fun q => { q with delivered := addDelivered q.delivered energy }).ordersPlaced := h
    unfold State.afterOrderNotice
    split
    · split
      · exact htotal
      · exact htotal.leaveIfDone _
    · split
      · exact htotal.resplit
      · exact htotal
    · exact htotal

theorem activate (h : s.ordersPlaced) (r : Request) : (s.activate r).ordersPlaced := by
  unfold State.activate State.applyActivation
  refine of_parts (State.ordersPlaced.foldl (fun e ht => ?_) _ ?_) rfl rfl
  · unfold State.createEntry
    split
    · exact ht
    · exact ht.createOrder _ _ _ _
  · unfold State.noteReduced
    split <;> exact h.of_parts rfl rfl

theorem secondTest (h : s.ordersPlaced) : s.secondTest.ordersPlaced := by
  unfold State.secondTest
  split
  · exact h
  · unfold State.newlyEligible
    split
    · split
      · dsimp only
        split
        · exact h.resplit
        · exact h
      all_goals exact h
    · exact h

theorem retargetActive (h : s.ordersPlaced) (r : Request) (remaining power : Nat) :
    (Machine.retargetActive s r remaining power).ordersPlaced := by
  unfold Machine.retargetActive
  split
  · exact (h.endAllFor r.id .curtail).modRequest _ _
  · exact (h.modRequest _ _).alignOrders _ _ _

theorem advanceTimers (h : s.ordersPlaced) : s.advanceTimers.ordersPlaced := by
  refine h.of_states (fun c => by rw [State.bay_advanceTimers]; rfl) (fun c => ?_) (fun c => ?_)
  · rw [State.bay_advanceTimers]
    exact Option.map_eq_none_iff
  · rw [State.order_advanceTimers]
    cases s.order c <;> rfl

/-! ### TRIP (R152) -/

theorem releaseIfEngaged (h : s.ordersPlaced) {b : BayNo} (ho : s.order b = none) :
    (s.releaseIfEngaged b).ordersPlaced := by
  unfold State.releaseIfEngaged
  split
  · exact h.release ho
  · exact h

theorem tripOrder (h : s.ordersPlaced) (b : BayNo) : (s.tripOrder b).ordersPlaced := by
  unfold State.tripOrder
  split
  · exact h
  case h_2 o ho =>
    have hfree := State.engaged_releaseIfEngaged (((s.setOrder b none).modRequest o.request fun r =>
      { r with delivered := addDelivered r.delivered o.delivered }).join b) b
    have hother := s.tripOrder_other b
    simp only [State.tripOrder, ho] at hother
    refine h.at hother ?_
    rw [State.order_releaseIfEngaged, State.order_join, State.order_modRequest, State.order_setOrder,
      placedAt_none_iff]
    constructor <;> intro hstate <;> rw [hstate] at hfree <;> cases hfree

/-- No order is left, and the bays fit that (R152). -/
theorem doTrip (h : s.ordersPlaced) : s.doTrip.ordersPlaced := by
  have horders := State.ordersPlaced.foldl (fun b ht => ht.tripOrder b) allBays h
  have hbays (l : List BayNo) (u : State) (hu : u.ordersPlaced) (hnone : ∀ b, u.order b = none) :
      (l.foldl State.tripBay u).ordersPlaced := by
    induction l generalizing u with
    | nil => exact hu
    | cons b l ih =>
      exact ih _ (hu.releaseIfEngaged (hnone b)) fun c => (u.order_releaseIfEngaged b c).trans (hnone c)
  have hqueue := of_frame (hbays allBays _ horders s.order_foldl_tripOrder) (State.tripQueue_frame _) (by simp [leaveParts])
    (by simp [leaveParts])
  have hhalt := of_frame hqueue (State.halt_frame _) (by simp) (by simp)
  exact of_frame hhalt (State.raiseDeviceState_frame _) (by simp) (by simp)

theorem unlinkBay (h : s.ordersPlaced) (b : BayNo) : (s.unlinkBay b).ordersPlaced := (h.clearLink b).releaseFor b _

theorem linkWaiting (h : s.ordersPlaced) (n : Nat) : (s.linkWaiting n).ordersPlaced := by
  unfold State.linkWaiting
  split
  · split
    · split
      · exact h.linkBay _ _
      · exact h
    · exact h
  · exact h

theorem replaceLink (h : s.ordersPlaced) (n : Nat) (link : Option BayNo) (capacity : Nat) (consent : Bool) :
    (s.replaceLink n link capacity consent).ordersPlaced := by
  unfold State.replaceLink
  split
  case h_1 b =>
    split
    · have hcaps := (h.modBay b (f := fun r => { r with tele := { r.tele with energy := min r.tele.energy capacity } })
        rfl rfl).recomputeCaps b
      unfold State.refreshLinked State.handIfCap
      split
      · exact hcaps
      · exact hcaps.of_parts rfl rfl
    · exact h.unlinkBay b
  · exact h.linkWaiting n

theorem recomputeAll (h : s.ordersPlaced) : (allBays.foldl State.recomputeCaps s).ordersPlaced :=
  State.ordersPlaced.foldl (fun b ht => ht.recomputeCaps b) allBays h

theorem writeSite (h : s.ordersPlaced) (x : Site) : (s.writeSite x).ordersPlaced := by
  have hsite : ({ s with site := x, siteValid := true } : State).ordersPlaced := h.of_parts rfl rfl
  exact of_frame hsite.recomputeAll.siteLimitCut (State.hand_frame _ _) (by simp) (by simp)

theorem unlinkIf (h : s.ordersPlaced) (link : Option BayNo) : (s.unlinkIf link).ordersPlaced := by
  unfold State.unlinkIf
  split
  · exact h.unlinkBay _
  · exact h

theorem of_empty (horders : ∀ b, s.order b = none) (hstates : ∀ b, (s.bay b).state = .empty) : s.ordersPlaced := by
  intro b
  have hb : placedAt (s.bay b) (s.order b) := by simp [horders b, placedAt_none_iff, hstates b]
  exact hb

end State.ordersPlaced

theorem ordersPlaced_commandClosed : CommandClosed State.ordersPlaced where
  hand _ h := h.of_parts rfl rfl
  join b h := h.of_frame (State.join_frame _ b) (by simp) (by simp)
  raiseFleet _ h := h.of_parts rfl rfl
  raiseGrid _ h := h.of_parts rfl rfl
  notices _ h := h.of_parts rfl rfl
  markCheck _ h := h.modBay _ rfl rfl
  startDueCheck {t b} hstate hsettle h := by
    have ho : t.order b = none := by
      by_contra hne
      obtain ⟨o, ho⟩ := Option.ne_none_iff_exists'.mp hne
      exact ((h b).2.1 hstate o ho).2 (by simpa using hsettle)
    exact h.cleared ((t.modBay_other b _).trans (State.startCheck_other _ b)) (by simpa [State.startCheck] using ho)
      (State.state_startCheck _ b) (by decide)
  declineBay cause _ h := h.declineBay _ cause
  reportFault b kind h := h.reportFault b kind
  settle b h := h.settled b
  enterParked hstate h := h.enterParked (h.order_none (by rw [hstate]; rfl))
  releaseTimeout b h := h.releaseTimeout b
  holdOver {t b} hstate h :=
    ((h.modFault b _).tryExit (b := b) (h.order_none (b := b) (by rw [hstate]; rfl))).handIfChanged b _
  stepOrder _ hstate h := h.stepOrder hstate
  finishOrder _ _ h := h.finishOrder _ _
  endRequest id _ orderCause h := ((h.modRequest id _).endAllFor id orderCause).leaveIfDone id
  activate _ _ h := h.activate _
  takeOrderEnd id cause energy byTransition h := h.takeOrderEnd id cause energy byTransition
  takeChange h := h.takeChange
  second h := h.advanceTimers.secondTest.evaluateGuards
  takeReply b tele answered h := h.takeReply b tele answered
  setLine _ _ h := h.of_parts rfl rfl
  pollNext _ h := h.of_parts rfl rfl
  exchange _ h := h.of_parts rfl rfl
  setPort {_ p _} _ _ h := by cases p <;> exact h.of_parts rfl rfl
  eventsRead h := h.of_parts rfl rfl
  setClock _ h := h.of_parts rfl rfl
  profiles _ h := h.of_parts rfl rfl
  submit _ _ _ _ _ h := h.of_parts rfl rfl
  retargetActive remaining power _ _ h := h.retargetActive _ remaining power
  dropRequest _ h := h.of_parts rfl rfl
  writeSite _ h := h.writeSite _
  policy _ _ h := h.of_parts rfl rfl
  append _ _ _ h := h.of_parts rfl rfl
  linkWaiting n h := h.linkWaiting n
  modVehicle _ _ _ h := h.of_parts rfl rfl
  replaceLink n link capacity consent h := h.replaceLink n link capacity consent
  rearm link h := by
    unfold State.rearm
    split
    · exact h.modBay _ rfl rfl
    · exact h
  withdraw _ h := (h.unlinkIf _).of_parts rfl rfl
  ratedCap b cap h := (h.modBay b (f := fun r => { r with ratedCap := cap }) rfl rfl).recomputeCaps b
  releaseFor b cause h := h.releaseFor b cause
  takeBayOut _ h := h.takeBayOut _
  restoreBay hstate h := h.restoreBay hstate
  run _ _ h := h.of_parts rfl rfl
  doTrip h := h.doTrip
  powerOn _ := State.ordersPlaced.of_empty State.order_reset fun b => by
    show (State.reset.bay b).state = .empty
    rw [State.bay_reset]
    rfl
  softReset _ := State.ordersPlaced.of_empty (State.order_softReset _) fun b => by
    rw [State.bay_softReset]
    rfl
  setFrame {_ p _} _ h := by cases p <;> exact h.of_parts rfl rfl

end Sys2Proof.Machine

namespace Sys2Proof.Proofs

open Sys2Proof.Machine

/-- Settles O58: every update leaves at its bay the order its state asks for, so every step does. -/
theorem ordersStayOnEngagedBays : Obligations.OrdersStayOnEngagedBays := by
  unfold Obligations.OrdersStayOnEngagedBays
  exact ⟨fun s h => h.engaged,
    fun s t h hstep => ordersPlaced_commandClosed.step (fun _ h => h.of_parts rfl rfl) h hstep⟩

end Sys2Proof.Proofs
end

section
/-! SUPPORT. The machine as a whole: that every command completes, the values of a power-on reset, and the statements
O1, O2, O11 and O60. -/

namespace Sys2Proof.Machine

/-- Every update keeps the commands that wait. -/
theorem pending_requestClosed (l : List Instr) : RequestClosed (fun s => s.pending = l) where
  modBay _ _ _ h := h
  modFault _ _ h := h
  noOrder _ h := h
  setOrder _ _ h := h
  setBayState _ _ h := by simpa using h
  hand _ h := h
  join _ h := by simpa using h
  markBay _ h := h
  raiseFleet _ h := h
  issue _ _ _ _ h := h
  firstStep _ _ h := by simpa [State.firstStep] using h
  newOrder _ _ _ _ h := h
  bind _ _ h := by simpa using h
  modRequest _ h := h
  dropRequest _ h := h
  lastResult _ h := h
  notices _ h := h
  raiseGrid _ h := h

theorem pending_linkClosed (l : List Instr) : LinkClosed (fun s => s.pending = l) where
  toRequestClosed := pending_requestClosed l
  setRecord _ _ h := h
  clearLink _ h := by simpa using h
  linkBay _ _ _ h := by simpa using h

theorem pending_partClosed (l : List Instr) : PartClosed (fun s => s.pending = l) where
  toLinkClosed := pending_linkClosed l
  powerOn h := h
  advance h := h
  setLine _ _ h := h
  pollNext _ h := h
  exchange _ h := h
  setPort {_ p _} _ _ h := by cases p <;> exact h
  setFrame {_ p _} _ h := by cases p <;> exact h
  eventsRead h := h
  setClock _ h := h
  profiles _ h := h
  policy _ _ h := h
  writeSite {t x} _ h := by
    have hQ := pending_linkClosed l
    exact hQ.hand (.change .site) (hQ.siteLimitCut (hQ.recomputeAll (t := { t with site := x, siteValid := true }) h))
  submit _ _ _ _ _ h := h
  run _ _ h := h
  halt _ _ h := by
    unfold State.halt
    split <;> exact h
  softReset h := h
  append _ _ _ h := h
  modVehicle _ _ _ h := h
  withdraw _ h := (pending_linkClosed l).unlinkIf _ h

theorem State.faultSet_reset (b : BayNo) : State.reset.faultSet b = FaultSet.reset := by
  simp [State.faultSet, State.reset]

theorem State.line_reset (b : BayNo) : State.reset.line b = LineRecord.reset := by
  simp [State.line, State.reset]

/-- With no event unmasked the attention line is not driven (R172). -/
theorem PortState.atnLow_of_mask {x : PortState} (h : x.mask = 0) : x.atnLow = false := by
  simp [PortState.atnLow, h]

end Sys2Proof.Machine

namespace Sys2Proof.Proofs

open Sys2Proof.Machine

/-- Settles O1: `step` takes the queue apart by its two cases. -/
theorem stepRunsFrontCommand : Obligations.StepRunsFrontCommand := by
  unfold Obligations.StepRunsFrontCommand
  refine ⟨fun c rest s => rfl, fun s hempty => ?_⟩
  unfold step
  rw [hempty]

/-- Settles O2: keeping the waiting commands is kept by every update. -/
theorem everyCommandCompletes : Obligations.EveryCommandCompletes := by
  unfold Obligations.EveryCommandCompletes
  exact fun c s => (pending_partClosed s.pending).commandClosed.keeps_exec c rfl

/-- Settles O11: the power-on values, block by block. -/
theorem powerOnResetValues : Obligations.PowerOnResetValues := by
  unfold Obligations.PowerOnResetValues
  refine fun s => ⟨_, rfl, rfl, rfl, rfl, rfl, rfl, rfl, rfl, rfl, fun b => State.bay_reset b,
    fun b => State.faultSet_reset b, rfl, fun b => ⟨State.order_reset b, State.setPoint_of_none (State.order_reset b)⟩,
    fun i => ?_, rfl, rfl, fun b => ?_, rfl, rfl, fun p => ?_, rfl, rfl, rfl⟩
  · simp [State.reset]
  · show (State.reset.line b).seq = 0 ∧ (State.reset.line b).miss = 0 ∧ (State.reset.line b).classTimer = 0
      ∧ (State.reset.line b).resync = true
    rw [State.line_reset]
    exact ⟨rfl, rfl, rfl, rfl⟩
  · cases p <;> exact ⟨rfl, rfl, rfl, rfl, rfl, rfl, rfl, rfl, PortState.atnLow_of_mask rfl, rfl⟩

/-- Settles O60: each invariant's value at the reset state. -/
theorem invariantsHoldAtReset : Obligations.InvariantsHoldAtReset := by
  unfold Obligations.InvariantsHoldAtReset
  obtain ⟨hlimit, hquotas⟩ := State.limited_of_noOrders State.order_reset
  obtain ⟨hqueue, hidle⟩ := State.queueKept_reset
  obtain ⟨hpolls, hcontrols⟩ := State.controlled_reset
  have hplaced : State.reset.ordersPlaced := State.ordersPlaced.of_empty State.order_reset fun b => by
    rw [State.bay_reset]
    rfl
  exact ⟨hlimit, hquotas, State.linksAgree_reset, hqueue, hidle, hplaced.engaged, hplaced, hpolls, hcontrols⟩

end Sys2Proof.Proofs
end

section
/-! SUPPORT. The reading commands: their replies byte by byte, and the statements O12, O13, O14, O15 and O16. -/

namespace Sys2Proof.Machine

/-! ### What a read writes -/

/-- A command whose part writes nothing changes only its reply. -/
theorem carryOut_reads {s : State} {p : Port} {c : Instr} {run : State → CmdResult}
    (hrun : ∀ t data, run s = .ok (t, data) → t = s) (h : s.handed p c) :
    ∃ reply, carryOut p c run s = .next (s.answer p reply) := by
  cases hr : run s with
  | error r => exact ⟨_, carryOut_error h hr⟩
  | ok x =>
    obtain ⟨t, data⟩ := x
    obtain rfl := hrun t data hr
    exact ⟨_, carryOut_ok h hr⟩

theorem exec_readClock (p : Port) (s : State) :
    exec (.readClock p) s = carryOut p (.readClock p) (fun s => .ok (s, clockData s)) s := rfl

theorem exec_readSite (p : Port) (s : State) : exec (.readSite p) s
    = carryOut p (.readSite p) (fun s => .ok (s, siteData s.site ++ le1 (yesNo s.siteValid))) s := rfl

theorem exec_readDevice (p : Port) (s : State) :
    exec (.readDevice p) s = carryOut p (.readDevice p) (fun s => .ok (s, deviceData s)) s := rfl

theorem exec_readProfile (p : Port) (index : Byte) (s : State) :
    exec (.readProfile p index) s = carryOut p (.readProfile p index) (readProfile index) s := rfl

theorem exec_readRequest (p : Port) (id : Byte) (s : State) :
    exec (.readRequest p id) s = carryOut p (.readRequest p id) (readRequest id) s := rfl

theorem exec_readResult (p : Port) (s : State) :
    exec (.readResult p) s = carryOut p (.readResult p) (fun s => .ok (s, resultData s.lastResult)) s := rfl

theorem exec_readVehicle (p : Port) (number : BitVec 16) (s : State) :
    exec (.readVehicle p number) s = carryOut p (.readVehicle p number) (readVehicle number) s := rfl

theorem exec_readBay (p : Port) (bay : Byte) (s : State) :
    exec (.readBay p bay) s = carryOut p (.readBay p bay) (readBay bay) s := rfl

theorem exec_readRoster (start count : Byte) (s : State) :
    exec (.readRoster start count) s = carryOut .fleet (.readRoster start count) (readRoster start count) s := rfl

/-! ### Device, profiles and requests -/

theorem State.bayCount_le (s : State) (st : BayState) : s.bayCount st ≤ 16 := List.length_filter_le _ allBays

theorem byteAt_deviceData (s : State) (st : BayState) :
    (byteAt (0 :: deviceData s) (18 + st.code)).toNat = s.bayCount st := by
  have hbyte : byteAt (0 :: deviceData s) (18 + st.code) = BitVec.ofNat 8 (s.bayCount st) := by cases st <;> rfl
  rw [hbyte, BitVec.toNat_ofNat]
  exact Nat.mod_eq_of_lt (lt_of_le_of_lt (s.bayCount_le st) (by decide))

theorem le1_yesNo (b : Bool) : le1 (yesNo b) = [if b = true then 1 else 0] := by cases b <;> rfl

theorem readProfile_outOfRange {index : Byte} {s : State} (h : 7 < index.toNat) :
    readProfile index s = .error .range := if_pos h

theorem readProfile_empty {index : Byte} {s : State} {i : Fin 8} (hi : index.toNat = i.val) (h : s.profiles[i] = none) :
    readProfile index s = .error .profileEmpty := by
  rw [readProfile, if_neg (by omega), s.profiles_getElem?_fin hi, h]

theorem readProfile_loaded {index : Byte} {s : State} {i : Fin 8} {e : Profile} (hi : index.toNat = i.val)
    (h : s.profiles[i] = some e) :
    readProfile index s = .ok (s, profileData e (s.profileInUse index.toNat)) := by
  rw [readProfile, if_neg (by omega), s.profiles_getElem?_fin hi, h]

theorem State.request?_eq_none {s : State} {id : Nat} : s.request? id = none ↔ ∀ r ∈ s.queue, r.id ≠ id := by
  simp [State.request?]

/-! ### Vehicles -/

theorem find?_number {front back : List Vehicle} {v : Vehicle} (hfirst : ∀ w ∈ front, w.number ≠ v.number) :
    (front ++ v :: back).find? (fun w => w.number == v.number) = some v := by
  rw [List.find?_append, List.find?_eq_none.mpr (by simpa using hfirst)]
  simp

theorem findIdx_number {front back : List Vehicle} {v : Vehicle} (hfirst : ∀ w ∈ front, w.number ≠ v.number) :
    (front ++ v :: back).findIdx (fun w => w.number == v.number) = front.length := by
  have hlength : front.findIdx (fun w => w.number == v.number) = front.length :=
    List.findIdx_eq_length_of_false (by simpa using hfirst)
  simp [List.findIdx_append, List.findIdx_cons, hlength]

theorem badNumber_of_ne {n : BitVec 16} (h0 : n ≠ 0) (h1 : n ≠ 65535) : badNumber n.toNat = false := by
  rw [← Bool.not_eq_true, badNumber_toNat]
  exact not_or.mpr ⟨h0, h1⟩

/-! ### The fault set in the READ BAY reply -/

/-- Up to four later causes as four bytes. -/
theorem take_laterCodes (later : List FaultKind) :
    ((later.map fun k => BitVec.ofNat 8 (faultCodeOf (some k))) ++ List.replicate 4 0).take 4
      = (List.range 4).map fun i => match later[i]? with
        | some k => BitVec.ofNat 8 (faultCodeOf (some k))
        | none => 0 := by
  match later with
  | [] | [_] | [_, _] | [_, _, _] | _ :: _ :: _ :: _ :: _ => rfl

/-- Up to three numbers as twelve bytes. -/
theorem take_words (l : List Nat) :
    (l.flatMap le4 ++ List.replicate 12 0).take 12
      = le4 (l[0]?.getD 0) ++ le4 (l[1]?.getD 0) ++ le4 (l[2]?.getD 0) := by
  match l with
  | [] | _ :: _ :: _ :: _ => rfl
  | [_] | [_, _] => simp [le4]

/-- The fault set's bytes, each list with its entries one by one. -/
theorem faultData_eq (f : FaultSet) (now : Stamp) : faultData f now =
    le1 f.record.status.code ++ le1 (faultCodeOf f.record.first) ++ le1 f.record.later.length
      ++ ((List.range 4).map fun i => match f.record.later[i]? with
        | some k => BitVec.ofNat 8 (faultCodeOf (some k))
        | none => 0)
      ++ le4 f.record.entry.toNat ++ le4 (if f.record.status = .closed then f.record.exit.toNat else 0)
      ++ le1 f.history.length
      ++ (le4 ((f.history.map (·.toNat))[0]?.getD 0) ++ le4 ((f.history.map (·.toNat))[1]?.getD 0)
        ++ le4 ((f.history.map (·.toNat))[2]?.getD 0))
      ++ (le4 ((f.history.map fun t => (now - t).toNat)[0]?.getD 0)
        ++ le4 ((f.history.map fun t => (now - t).toNat)[1]?.getD 0)
        ++ le4 ((f.history.map fun t => (now - t).toNat)[2]?.getD 0))
      ++ le1 f.tracking := by
  have hlater := take_laterCodes f.record.later
  have hstamps := take_words (f.history.map (·.toNat))
  have hages := take_words (f.history.map fun t => (now - t).toNat)
  rw [List.flatMap_map] at hstamps hages
  unfold faultData stampAge
  rw [hlater, hstamps, hages]

/-- The fields of a READ BAY reply from the bay number to the status of the fault record. -/
def State.bayHead (s : State) (b : BayNo) : List Byte :=
  let r := s.bay b
  let f := s.faultSet b
  le1 b.val ++ le1 r.state.code ++ le2 (r.link.getD 0) ++ le2 (r.candidate.getD 0)
    ++ le1 (128 * yesNo r.tele.plug + 64 * yesNo r.tele.contactorClosed + 32 * yesNo r.tele.dcReady
        + 8 * r.tele.check.code)
    ++ le1 r.tele.faultCode ++ le2 r.tele.vehicle ++ le2 (r.tele.power % 65536).toNat ++ le3 r.tele.energy
    ++ le1 (r.tele.temp + 80).toNat ++ le2 r.ratedCap ++ le2 r.tempCap ++ le2 r.capEff ++ le2 (s.setPoint b)
    ++ le2 (s.shownTimer b) ++ le2 (min r.interval 65535)
    ++ le1 (yesNo r.checkDue + 2 * yesNo r.releasePending + 4 * yesNo r.guardArmed + 8 * yesNo f.releaseTimedOut)
    ++ le4 r.bindTime.toNat ++ le1 f.record.status.code

theorem drop_of_length {l l' : List Byte} {n : Nat} (h : l.length = n) (k : Nat) :
    (l ++ l').drop (n + k) = l'.drop k := by
  subst h
  exact List.drop_length_add_append k

theorem State.length_bayHead (s : State) (b : BayNo) : (s.bayHead b).length = 34 := by
  simp [State.bayHead]

theorem State.bayData_eq (s : State) (b : BayNo) : bayData s b =
    s.bayHead b ++ (le1 (faultCodeOf (s.faultSet b).record.first) ++ (le1 (s.faultSet b).record.later.length
      ++ (((List.range 4).map fun i => match (s.faultSet b).record.later[i]? with
        | some k => BitVec.ofNat 8 (faultCodeOf (some k))
        | none => 0)
      ++ (le4 (s.faultSet b).record.entry.toNat
      ++ (le4 (if (s.faultSet b).record.status = .closed then (s.faultSet b).record.exit.toNat else 0)
      ++ (le1 (s.faultSet b).history.length
      ++ (le4 (((s.faultSet b).history.map (·.toNat))[0]?.getD 0)
      ++ (le4 (((s.faultSet b).history.map (·.toNat))[1]?.getD 0)
      ++ (le4 (((s.faultSet b).history.map (·.toNat))[2]?.getD 0)
      ++ (le4 (((s.faultSet b).history.map fun t => (s.uptime - t).toNat)[0]?.getD 0)
      ++ (le4 (((s.faultSet b).history.map fun t => (s.uptime - t).toNat)[1]?.getD 0)
      ++ (le4 (((s.faultSet b).history.map fun t => (s.uptime - t).toNat)[2]?.getD 0)
      ++ le1 (s.faultSet b).tracking)))))))))))) := by
  simp only [bayData, faultData_eq, State.bayHead, telemetryData, Telemetry.statusByte, tempCode, powerCode,
    List.append_assoc]

end Sys2Proof.Machine

namespace Sys2Proof.Proofs

open Sys2Proof.Machine

/-- Settles O12: the part of every read hands its state back. -/
theorem readsChangeNothing : Obligations.ReadsChangeNothing := by
  unfold Obligations.ReadsChangeNothing
  intro c p s hread hport h
  cases c with
  | readClock q =>
    cases hport
    rw [exec_readClock]
    exact carryOut_reads (fun t data ht => (state_of_ok ht).symm) h
  | readSite q =>
    cases hport
    rw [exec_readSite]
    exact carryOut_reads (fun t data ht => (state_of_ok ht).symm) h
  | readDevice q =>
    cases hport
    rw [exec_readDevice]
    exact carryOut_reads (fun t data ht => (state_of_ok ht).symm) h
  | readResult q =>
    cases hport
    rw [exec_readResult]
    exact carryOut_reads (fun t data ht => (state_of_ok ht).symm) h
  | readProfile q index =>
    cases hport
    rw [exec_readProfile]
    exact carryOut_reads (fun t data => readProfile_state) h
  | readRequest q id =>
    cases hport
    rw [exec_readRequest]
    exact carryOut_reads (fun t data => readRequest_state) h
  | readVehicle q number =>
    cases hport
    rw [exec_readVehicle]
    exact carryOut_reads (fun t data => readVehicle_state) h
  | readBay q bay =>
    cases hport
    rw [exec_readBay]
    exact carryOut_reads (fun t data => readBay_state) h
  | readRoster start count =>
    cases hport
    rw [exec_readRoster]
    exact carryOut_reads (fun t data => readRoster_state) h
  | _ => cases hread

/-- Settles O13: each reply's bytes, as the reply data of the command spell them. -/
theorem statusProfileResultReplies : Obligations.StatusProfileResultReplies := by
  unfold Obligations.StatusProfileResultReplies
  intro p s clock
  refine ⟨fun h => ?_, fun h => ?_, fun h => ?_, fun index h => ?_, fun h => ?_⟩
  · rw [exec_readClock, carryOut_of_handed _ h]
    rfl
  · rw [exec_readSite, carryOut_of_handed _ h]
    rfl
  · rw [exec_readDevice, carryOut_of_handed _ h]
    exact ⟨_, rfl, rfl, rfl, byteAt_deviceData s⟩
  · rw [exec_readProfile]
    refine ⟨fun hrange => carryOut_error h (readProfile_outOfRange hrange), fun i hi => ⟨fun hnone =>
      carryOut_error h (readProfile_empty hi hnone), fun e he => ?_⟩⟩
    refine ⟨if ∃ r ∈ s.queue, r.profile = i.val then 1 else 0, ?_, rfl⟩
    have hused : le1 (yesNo (s.profileInUse index.toNat)) = [if ∃ r ∈ s.queue, r.profile = i.val then 1 else 0] := by
      rw [le1_yesNo, hi]
      simp only [s.profileInUse_iff]
    rw [carryOut_ok h (readProfile_loaded hi he), profileData, hused]
    simp [List.append_assoc]
  · rw [exec_readResult, carryOut_of_handed _ h]
    constructor
    · intro hnone
      rw [hnone]
      rfl
    · intro r hr
      rw [hr]
      rfl

/-- Settles O14: the list form, the refusal, and the record form by the state of the request. -/
theorem requestReplies : Obligations.RequestReplies := by
  unfold Obligations.RequestReplies
  intro p id s h
  rw [exec_readRequest]
  refine ⟨fun hid => carryOut_ok h (if_pos hid), fun hid hnone => ?_, fun hid r hr => ?_⟩
  · refine carryOut_error (r := .noSuchRequest) h ?_
    rw [readRequest, if_neg hid, State.request?_eq_none.mpr hnone]
  · have hread : readRequest id s = .ok (s, requestData r) := by rw [readRequest, if_neg hid, hr]
    have hbyte : le1 r.id = [id] := le1_eq_singleton (State.mem_of_request? hr).2.symm
    cases hstate : r.state <;>
      simp [carryOut_ok h hread, requestData, hbyte, hstate, Request.clockField, Request.causeCode]

/-- Settles O15: the record at its place in the roster, and the window of the list. -/
theorem vehicleAndRosterReplies : Obligations.VehicleAndRosterReplies := by
  unfold Obligations.VehicleAndRosterReplies
  refine ⟨fun p number s h => exec_readVehicle p number s ▸ ⟨fun hbad => ?_, fun h0 h1 => ⟨fun hnone => ?_, fun front v back hsplit hv hfirst => ?_⟩⟩,
    fun start count s h => exec_readRoster start count s ▸ ⟨fun hrange => carryOut_error (r := .range) h (if_pos hrange), fun hstart hcount hmost => ?_⟩⟩
  · exact carryOut_error (r := .range) h (if_pos ((badNumber_toNat number).mpr hbad))
  · refine carryOut_error (r := .noSuchVehicle) h ?_
    rw [readVehicle, badNumber_of_ne h0 h1, State.vehicle?_eq_none.mpr hnone]
    rfl
  · rw [← hv] at hfirst
    have hfound : s.vehicle? number.toNat = some v := by
      rw [State.vehicle?, hsplit, ← hv]
      exact find?_number hfirst
    have hplace : s.position number.toNat = front.length := by
      rw [State.position, hsplit, ← hv]
      exact findIdx_number hfirst
    have hread : readVehicle number s = .ok (s, vehicleData v front.length) := by
      rw [readVehicle, badNumber_of_ne h0 h1, hfound, hplace]
      rfl
    refine (carryOut_ok h hread).trans ?_
    unfold vehicleData
    cases v.departure <;> cases v.bayLink <;> rfl
  · have hread : readRoster start count s = .ok (s, rosterData s.roster start.toNat count.toNat) := by
      refine if_neg ?_
      rintro (h' | h' | h')
      · omega
      · exact hcount h'
      · omega
    rw [carryOut_ok h hread]
    unfold rosterData
    have hcode (v : Vehicle) : le1 (bayCode v.bayLink) = match v.bayLink with
        | some b => le1 b.val
        | none => [255] := by cases v.bayLink <;> rfl
    simp only [List.length_take, List.length_drop, hcode]
    rfl

/-- Settles O16: the record's bytes stand at their offsets, the lists of the fault set filled up with zeros. -/
theorem bayReply : Obligations.BayReply := by
  unfold Obligations.BayReply
  intro p bay s h
  rw [exec_readBay]
  refine ⟨fun hbad => ?_, fun b hb => ?_⟩
  · refine carryOut_error (r := .badBay) h ?_
    rw [readBay, bayOfByte_eq_none hbad]
  · have hread : readBay bay s = .ok (s, bayData s b) := by rw [readBay, bayOfByte_eq_some hb]
    refine ⟨bayData s b, carryOut_ok h hread, ?_⟩
    have hhead := s.length_bayHead b
    rw [s.bayData_eq b]
    refine ⟨?_, ?_, ?_, fun i hi => ?_, ?_, fun i hi => ?_, ?_⟩
    · simp [hhead]
    · rw [List.take_append_of_le_length (by simp [hhead]), List.take_of_length_le (by simp [hhead])]
      rfl
    · rw [drop_of_length hhead 0]
      rfl
    · rw [byteAt_append _ _ _ (by rw [hhead]; omega), hhead]
      interval_cases i <;> rfl
    · rw [drop_of_length hhead 6]
      rfl
    · have hstamp : 49 + 4 * i = 34 + (15 + 4 * i) := by omega
      have hage : 61 + 4 * i = 34 + (27 + 4 * i) := by omega
      rw [hstamp, hage, drop_of_length hhead, drop_of_length hhead]
      interval_cases i <;> exact ⟨rfl, rfl⟩
    · rw [drop_of_length hhead 39]
      rfl

end Sys2Proof.Proofs
end

section
/-! SUPPORT. Command frames: what is read back from them, and the statements O3 and O4. -/

namespace Sys2Proof.Machine

open Sys2Proof

/-! ### The port's checks (R163) -/

/-- A frame of its code's length, on a permitting port, is read as the command it spells. -/
theorem decodeFrame_of_parse {p : Port} {f : List Byte} {c : Instr} (hlength : expectedLength f = some f.length)
    (hpermitted : permitted p (byteAt f 0) = true) (hparse : parseFrame p f = some c) :
    decodeFrame p f false = .ok c := by
  unfold decodeFrame
  simp [hlength, hparse, hpermitted]

/-- What an accepted frame has passed. -/
theorem decodeFrame_ok {p : Port} {f : List Byte} {overflow : Bool} {c : Instr}
    (h : decodeFrame p f overflow = .ok c) :
    overflow = false ∧ expectedLength f = some f.length ∧ parseFrame p f = some c
      ∧ permitted p (byteAt f 0) = true := by
  unfold decodeFrame at h
  cases overflow
  · rw [if_neg (by decide)] at h
    split at h
    case h_1 n c' hlength hparse =>
      split at h
      · cases h
      case isFalse hn =>
        rw [not_not] at hn
        split at h
        · cases h
        case isFalse hpermitted =>
          cases h
          exact ⟨rfl, hn ▸ hlength, hparse, by simpa using hpermitted⟩
    · cases h
  · cases h

/-! ### Reading back an encoded command (R177) -/

@[simp] theorem wordAt_skip_le2 (n : Nat) (f : List Byte) (i : Nat) : wordAt (le2 n ++ f) (i + 2) = wordAt f i := rfl
@[simp] theorem wordAt_skip_le3 (n : Nat) (f : List Byte) (i : Nat) : wordAt (le3 n ++ f) (i + 3) = wordAt f i := rfl
@[simp] theorem tripleAt_skip_le2 (n : Nat) (f : List Byte) (i : Nat) : tripleAt (le2 n ++ f) (i + 2) = tripleAt f i :=
  rfl
@[simp] theorem tripleAt_skip_le3 (n : Nat) (f : List Byte) (i : Nat) : tripleAt (le3 n ++ f) (i + 3) = tripleAt f i :=
  rfl
@[simp] theorem byteAt_skip_le2 (n : Nat) (f : List Byte) (i : Nat) : byteAt (le2 n ++ f) (i + 2) = byteAt f i := rfl
@[simp] theorem byteAt_skip_le3 (n : Nat) (f : List Byte) (i : Nat) : byteAt (le3 n ++ f) (i + 3) = byteAt f i := rfl

/-- A two-byte field with nothing behind it. -/
@[simp] theorem wordAt_le2_last (w : BitVec 16) : wordAt (le2 w.toNat) 0 = w := wordAt_le2 w []

/-- A three-byte field with nothing behind it. -/
@[simp] theorem tripleAt_le3_last (w : BitVec 24) : tripleAt (le3 w.toNat) 0 = w := tripleAt_le3 w []

/-- The frame of LOAD PROFILE, its fields in their order. -/
theorem encodeFrame_loadProfile (index : Byte) (ps lead : BitVec 16) (bands : List (BitVec 16 × BitVec 16)) :
    encodeFrame (.loadProfile index ps lead bands)
      = some (0x11 :: index :: (le2 ps.toNat ++ (le2 lead.toNat ++ BitVec.ofNat 8 bands.length :: bandBytes bands))) := by
  simp [encodeFrame, le1]

theorem decodeFrame_loadProfile {index : Byte} {ps lead : BitVec 16} {bands : List (BitVec 16 × BitVec 16)}
    (h : bands.length ≤ 14) :
    decodeFrame .grid
        (0x11 :: index :: (le2 ps.toNat ++ (le2 lead.toNat ++ BitVec.ofNat 8 bands.length :: bandBytes bands))) false
      = .ok (.loadProfile index ps lead bands) := by
  have hcount : (BitVec.ofNat 8 bands.length).toNat = bands.length := by
    rw [BitVec.toNat_ofNat]
    exact Nat.mod_eq_of_lt (by omega)
  refine decodeFrame_of_parse ?_ rfl ?_
  · show some (7 + 4 * (BitVec.ofNat 8 bands.length).toNat) = _
    rw [hcount]
    simp [length_bandBytes]
    omega
  · have hbands : bandsAt (le2 ps.toNat ++ (le2 lead.toNat ++ BitVec.ofNat 8 bands.length :: bandBytes bands)) 5
        bands.length = bands := by
      simp only [le2, List.cons_append, List.nil_append, bandsAt_succ]
      exact bandsAt_bandBytes bands
    simp [parseFrame, hcount, hbands, wordAt_le2]

/-! ### The frame an accepted command came from (R163, R177) -/

theorem byte_of_toNat {x : Byte} {n : Nat} (h : x.toNat = n) : x = BitVec.ofNat 8 n := by
  rw [← h, BitVec.ofNat_toNat, BitVec.setWidth_eq]

/-- A frame is the list of its bytes. -/
theorem eq_map_byteAt {f : List Byte} {n : Nat} (h : n = f.length) : f = (List.range n).map (byteAt f) := by
  subst h
  refine List.ext_getElem (by simp) fun i hi _ => ?_
  simp [byteAt, hi]

theorem some_of_bytes {f g : List Byte} {n : Nat} (hn : n = f.length) (hg : g = (List.range n).map (byteAt f)) :
    some g = some f := by
  rw [hg, ← eq_map_byteAt hn]

theorem le2_wordAt_bytes (f : List Byte) (i : Nat) : le2 (wordAt f i).toNat = [byteAt f i, byteAt f (i + 1)] :=
  le2_wordAt (byteAt f i) (byteAt f (i + 1)) []

theorem le3_tripleAt_bytes (f : List Byte) (i : Nat) :
    le3 (tripleAt f i).toNat = [byteAt f i, byteAt f (i + 1), byteAt f (i + 2)] :=
  le3_tripleAt (byteAt f i) (byteAt f (i + 1)) (byteAt f (i + 2)) []

theorem bandBytes_bandsAt (n : Nat) {f : List Byte} (h : f.length = 4 * n) : bandBytes (bandsAt f 0 n) = f := by
  induction n generalizing f with
  | zero =>
    rw [List.length_eq_zero_iff.mp h]
    rfl
  | succ n ih =>
    match f, h with
    | a :: b :: c :: d :: g, h =>
      have hg : g.length = 4 * n := by simpa [Nat.mul_succ] using h
      have hword : le2 (wordAt (a :: b :: c :: d :: g) 2).toNat = [c, d] := le2_wordAt c d g
      have hrest : bandsAt (a :: b :: c :: d :: g) 4 n = bandsAt g 0 n := by simp only [bandsAt_succ]
      rw [bandsAt, bandBytes, hrest, ih hg, hword, le2_wordAt]
      rfl

theorem length_bandsAt (f : List Byte) (i n : Nat) : (bandsAt f i n).length = n := by
  induction n generalizing i with
  | zero => rfl
  | succ n ih => rw [bandsAt, List.length_cons, ih]

theorem encodeFrame_of_loadProfile {f : List Byte} (hcode : (byteAt f 0).toNat = 0x11)
    (hlength : 7 + 4 * (byteAt f 6).toNat = f.length) :
    encodeFrame (.loadProfile (byteAt f 1) (wordAt f 2) (wordAt f 4) (bandsAt f 7 (byteAt f 6).toNat)) = some f := by
  match f, hcode, hlength with
  | code :: index :: p0 :: p1 :: l0 :: l1 :: count :: g, hcode, hlength =>
    have hg : g.length = 4 * count.toNat := by
      simp only [byteAt_succ, byteAt_zero, List.length_cons] at hlength
      omega
    have hfirst : code = 0x11 := byte_of_toNat hcode
    simp only [encodeFrame, le1, le2_wordAt_bytes, length_bandsAt, bandsAt_succ, byteAt_succ, byteAt_zero, bandBytes_bandsAt _ hg,
      BitVec.ofNat_toNat, BitVec.setWidth_eq, hfirst]
    rfl

end Sys2Proof.Machine

namespace Sys2Proof.Proofs

open Sys2Proof.Machine

/-- Settles O3, command by command: the code gives the length and the permission, the fields are read back. -/
theorem commandFramesRoundTrip : Obligations.CommandFramesRoundTrip := by
  unfold Obligations.CommandFramesRoundTrip
  intro c p f hwell hframe hport
  cases c with
  | loadProfile index ps lead bands =>
    rw [encodeFrame_loadProfile] at hframe
    cases hframe
    cases hport
    exact decodeFrame_loadProfile (by simpa [Instr.wellFormed] using hwell)
  | _ =>
    cases hframe
    all_goals
      cases p <;> cases hport <;>
        exact decodeFrame_of_parse rfl rfl (by simp [parseFrame, wordAt_le2, tripleAt_le3])

/-- Settles O4: the code picks the command, its length gives the frame byte by byte, and the fields spell it again. -/
theorem acceptedFrameIsTheCommands : Obligations.AcceptedFrameIsTheCommands := by
  unfold Obligations.AcceptedFrameIsTheCommands
  intro p f overflow c h
  obtain ⟨hoverflow, hlength, hparse, hpermitted⟩ := decodeFrame_ok h
  refine ⟨hoverflow, ?_⟩
  unfold parseFrame at hparse
  split at hparse
  case h_15 hcode =>
    cases hparse
    simp only [expectedLength, hcode, Option.some.injEq] at hlength
    refine ⟨?_, ?_⟩
    · exact encodeFrame_of_loadProfile hcode hlength
    · revert hpermitted
      cases p <;> simp [permitted, hcode, Instr.port?]
  case h_33 => cases hparse
  all_goals
    rename_i hcode
    cases hparse
    simp only [expectedLength, hcode, Option.some.injEq] at hlength
    refine ⟨?_, ?_⟩
    · refine some_of_bytes hlength ?_
      simp [List.range, List.range.loop, byte_of_toNat hcode, le2_wordAt_bytes, le3_tripleAt_bytes]
    · revert hpermitted
      cases p <;> simp [permitted, hcode, Instr.port?]

end Sys2Proof.Proofs
end

section
/-! SUPPORT. The master ports at CS's fall and rise: how a frame is taken or refused, and the statements O5, O6 and
O7. -/

namespace Sys2Proof.Machine

open Sys2Proof

/-! ### Frames of commands fit the buffer (R160, R177) -/

theorem length_encodeFrame {c : Instr} {f : List Byte} (hwell : c.wellFormed = true) (h : encodeFrame c = some f) :
    f.length ≤ frameCapacity := by
  cases c with
  | loadProfile index ps lead bands =>
    have hbands : bands.length ≤ 14 := by simpa [Instr.wellFormed] using hwell
    rw [encodeFrame_loadProfile] at h
    cases h
    simp [length_bandBytes, frameCapacity]
    omega
  | _ =>
    cases h
    all_goals exact Nat.le_of_ble_eq_true rfl

/-- Only a NOP is spelled by one zero byte (R161). -/
theorem encodeFrame_zero {c : Instr} {p : Port} (hport : c.port? = some p) (h : encodeFrame c = some [0x00]) :
    c = .nop p := by
  cases c with
  | nop q =>
    cases hport
    rfl
  | loadProfile index ps lead bands =>
    rw [encodeFrame_loadProfile] at h
    simp at h
  | _ => simp [encodeFrame] at h

theorem encodeFrame_ne_nil {c : Instr} : encodeFrame c ≠ some [] := by
  cases c <;> simp [encodeFrame]

/-! ### A frame at CS's rise (R160 to R163) -/

section FrameEnd

variable {s : State} {p : Port} {tr : Transaction} {mosi f : List Byte} {bits : Nat}

/-- The frame overflows the buffer (R160). -/
def PortState.overflows (x : PortState) (f : List Byte) : Prop := x.overflow = true ∨ 64 < f.length

theorem exec_frameEnd (h : s.frameAtRise p tr mosi f) :
    exec (.frameEnd p mosi bits) s = .next (s.setPort p (if tr.discard then (s.port p).collect tr mosi bits
      else ((s.port p).collect tr mosi bits).handleFrame p).emptied) := by
  show execFrameEnd p mosi bits s = _
  simp only [execFrameEnd, h.1]

theorem collect_frameBuffer (h : s.frameAtRise p tr mosi f) :
    ((s.port p).collect tr mosi bits).frameBuffer = f.take 64 := by rw [h.2]; rfl

theorem collect_overflow (h : s.frameAtRise p tr mosi f) :
    ((s.port p).collect tr mosi bits).overflow = true ↔ (s.port p).overflows f := by
  rw [h.2]
  show ((s.port p).overflow || decide (64 < ((s.port p).frameBuffer ++ mosi).length)) = true ↔ _
  simp [PortState.overflows]

theorem collect_busy : ((s.port p).collect tr mosi bits).busy = (s.port p).busy := rfl

theorem take_ne_nil (hf : f ≠ []) : f.take 64 ≠ [] := by
  rw [Ne, List.take_eq_nil_iff]
  simpa using hf

/-- A frame that is no NOP is taken as a command while the port is not BUSY (R161, R162). -/
theorem frame_taken (h : s.frameAtRise p tr mosi f) (hdiscard : tr.discard = false) (hbusy : (s.port p).busy = false)
    (hf : f ≠ []) (hnop : f = [0x00] → (s.port p).overflows f) :
    exec (.frameEnd p mosi bits) s = .next (s.setPort p (((s.port p).collect tr mosi bits).take p).emptied) := by
  rw [exec_frameEnd h, hdiscard, if_neg (by decide), PortState.handleFrame, collect_frameBuffer h,
    if_neg (take_ne_nil hf), if_neg, if_neg (by rw [collect_busy, hbusy]; decide)]
  rintro ⟨hzero, hfits⟩
  have hfits' := mt (collect_overflow (bits := bits) h).mpr (by simpa using hfits)
  have hlength : f.length ≤ 64 := not_lt.mp fun hlong => hfits' (.inr hlong)
  rw [List.take_of_length_le hlength] at hzero
  exact hfits' (hnop hzero)

/-- A port with a taken frame that its own checks refuse (R163, R165). -/
theorem take_refused {r : ResultCode} (h : s.frameAtRise p tr mosi f)
    (hdecode : decodeFrame p (f.take 64) ((s.port p).collect tr mosi bits).overflow = .error r) :
    (((s.port p).collect tr mosi bits).take p).emptied = { (s.port p).untaken tr mosi bits with
      ready := true, overrun := false, progress := .idle, reply := [r.code], err := r.code != 0 } := by
  rw [PortState.take, collect_frameBuffer h, hdecode, ← PortState.collect_emptied]
  rfl

/-- A port with a taken frame handed on as its command (R162, R163). -/
theorem take_handed {c : Instr} (h : s.frameAtRise p tr mosi f)
    (hdecode : decodeFrame p (f.take 64) ((s.port p).collect tr mosi bits).overflow = .ok c) :
    (((s.port p).collect tr mosi bits).take p).emptied = { (s.port p).untaken tr mosi bits with
      ready := false, overrun := false, progress := .handed c } := by
  rw [PortState.take, collect_frameBuffer h, hdecode, ← PortState.collect_emptied]
  rfl

/-- The port refuses a taken frame with the code of its first failed check. -/
theorem frame_refused {r : ResultCode} (h : s.frameAtRise p tr mosi f) (hdiscard : tr.discard = false)
    (hbusy : (s.port p).busy = false) (hf : f ≠ []) (hnop : f = [0x00] → (s.port p).overflows f)
    (hdecode : decodeFrame p (f.take 64) ((s.port p).collect tr mosi bits).overflow = .error r) :
    exec (.frameEnd p mosi bits) s = .next (s.setPort p { (s.port p).untaken tr mosi bits with
      ready := true, overrun := false, progress := .idle, reply := [r.code], err := r.code != 0 }) := by
  rw [frame_taken h hdiscard hbusy hf hnop, take_refused h hdecode]

theorem collect_fits (h : s.frameAtRise p tr mosi f) (hfits : ¬(s.port p).overflows f) :
    ((s.port p).collect tr mosi bits).overflow = false ∧ f.take 64 = f := by
  refine ⟨by simpa using mt (collect_overflow (bits := bits) h).mp hfits, List.take_of_length_le ?_⟩
  exact not_lt.mp fun hlong => hfits (.inr hlong)

end FrameEnd

/-! ### The port's checks one by one (R163) -/

theorem decodeFrame_overflow (p : Port) (f : List Byte) : decodeFrame p f true = .error .length := rfl

theorem decodeFrame_unknown {p : Port} {f : List Byte} (h : expectedLength f = none) :
    decodeFrame p f false = .error .unknownCommand := by
  unfold decodeFrame
  simp [h]

/-- Every code with a length has a command (R177). -/
theorem isSome_parseFrame {f : List Byte} {n : Nat} (p : Port) (h : expectedLength f = some n) :
    (parseFrame p f).isSome = true := by
  unfold parseFrame
  split
  case h_33 =>
    unfold expectedLength at h
    split at h <;> contradiction
  all_goals rfl

theorem decodeFrame_length {p : Port} {f : List Byte} {n : Nat} (h : expectedLength f = some n) (hn : n ≠ f.length) :
    decodeFrame p f false = .error .length := by
  obtain ⟨c, hc⟩ := Option.isSome_iff_exists.mp (isSome_parseFrame p h)
  unfold decodeFrame
  simp [h, hc, Ne.symm hn]

theorem decodeFrame_refused {p : Port} {f : List Byte} (h : expectedLength f = some f.length)
    (hpermitted : permitted p (byteAt f 0) = false) : decodeFrame p f false = .error .notPermitted := by
  obtain ⟨c, hc⟩ := Option.isSome_iff_exists.mp (isSome_parseFrame p h)
  exact decodeFrame_notPermitted h hc hpermitted

/-- A NOP's frame fails none of the port's checks. -/
theorem nop_checks (p : Port) : expectedLength [0x00] = some 1 ∧ permitted p (byteAt [0x00] 0) = true := by
  cases p <;> exact ⟨rfl, rfl⟩

end Sys2Proof.Machine

namespace Sys2Proof.Proofs

open Sys2Proof.Machine

/-- Settles O5: overflow first, then code, length and port, each by its own check of `decodeFrame`. -/
theorem portChecksInOrder : Obligations.PortChecksInOrder := by
  unfold Obligations.PortChecksInOrder
  refine ⟨?_, fun f hcode => by rw [expectedLength, hcode]; rfl, fun f hcode => by rw [expectedLength, hcode]; rfl⟩
  intro p mosi f bits s tr h hdiscard hbusy hf refused long
  refine ⟨fun hlong => ?_, fun hfits hcode => ?_, fun hfits n hn hne => ?_, fun hfits hlength hport => ?_⟩
  · refine frame_refused (r := .length) h hdiscard hbusy hf (fun _ => hlong) ?_
    rw [(collect_overflow h).mpr hlong, decodeFrame_overflow]
  · obtain ⟨hroom, hwhole⟩ := collect_fits (bits := bits) h hfits
    refine frame_refused (r := .unknownCommand) h hdiscard hbusy hf (fun hzero => ?_) ?_
    · rw [hzero, (nop_checks p).1] at hcode
      cases hcode
    · rw [hroom, hwhole, decodeFrame_unknown hcode]
  · obtain ⟨hroom, hwhole⟩ := collect_fits (bits := bits) h hfits
    refine frame_refused (r := .length) h hdiscard hbusy hf (fun hzero => ?_) ?_
    · rw [hzero, (nop_checks p).1] at hn
      cases hn
      exact absurd (by rw [hzero]; rfl) hne
    · rw [hroom, hwhole, decodeFrame_length hn hne]
  · obtain ⟨hroom, hwhole⟩ := collect_fits (bits := bits) h hfits
    refine frame_refused (r := .notPermitted) h hdiscard hbusy hf (fun hzero => ?_) ?_
    · rw [hzero, (nop_checks p).2] at hport
      cases hport
    · rw [hroom, hwhole, decodeFrame_refused hlength hport]

/-- Settles O6: a command's frame passes the checks by `commandFramesRoundTrip`; a completion moves the waiting reply. -/
theorem commandTakenAndCompleted : Obligations.CommandTakenAndCompleted := by
  unfold Obligations.CommandTakenAndCompleted
  refine ⟨fun p c mosi f bits s tr h hdiscard hbusy hoverflow hencode hport hwell hnop => ?_,
    fun p s => ⟨fun reply hdone => ?_, fun hnone => ?_⟩⟩
  · have hlength := length_encodeFrame hwell hencode
    have hfits : ¬(s.port p).overflows f := by
      rintro (hover | hlong)
      · rw [hoverflow] at hover
        cases hover
      · exact absurd hlength (not_le.mpr hlong)
    obtain ⟨hroom, hwhole⟩ := collect_fits (bits := bits) h hfits
    have hf : f ≠ [] := by
      rintro rfl
      exact encodeFrame_ne_nil hencode
    have htaken := frame_taken (bits := bits) h hdiscard hbusy hf fun hzero => by
      rw [hzero] at hencode
      exact absurd (encodeFrame_zero hport hencode) hnop
    refine ⟨_, htaken, ?_, ?_⟩
    · rw [take_handed h]
      rw [hroom, hwhole]
      exact commandFramesRoundTrip c p f hwell hencode hport
    · rw [take_handed h (c := c)]
      · rfl
      · rw [hroom, hwhole]
        exact commandFramesRoundTrip c p f hwell hencode hport
  · show execCommandCompletion p s = _
    rw [execCommandCompletion, hdone]
    refine congrArg (fun x => Host.Outcome.next (s.setPort p x)) ?_
    have herr : (byteAt reply 0 != 0) = decide (byteAt reply 0 ≠ 0) := by
      rw [Bool.eq_iff_iff]
      simp
    rw [PortState.complete, herr]
  · show execCommandCompletion p s = _
    unfold execCommandCompletion
    split
    case h_1 reply hdone => exact absurd hdone (hnone reply)
    all_goals rfl

/-- Settles O7: each of the frame's ways not to be taken, and the commands that do nothing. -/
theorem framesNotTaken : Obligations.FramesNotTaken := by
  unfold Obligations.FramesNotTaken
  refine ⟨fun p mosi f bits s tr h => ⟨fun hwhy => ?_, fun hdiscard hf hnop hbusy => ?_⟩, fun p mosi bits s hnone => ?_,
    fun p s => rfl, fun bytes s => rfl⟩
  · rw [exec_frameEnd h, ← PortState.collect_emptied]
    refine congrArg (fun x => Host.Outcome.next (s.setPort p (PortState.emptied x))) ?_
    split
    · rfl
    case isFalse hkeep =>
      unfold PortState.handleFrame
      rw [collect_frameBuffer h]
      obtain rfl | ⟨rfl, hoverflow⟩ | hdiscard := hwhy
      · exact if_pos rfl
      · have hfits : ¬(s.port p).overflows [0x00] := by
          rintro (hover | hlong)
          · rw [hoverflow] at hover
            cases hover
          · simp at hlong
        rw [if_neg (by decide), if_pos ⟨rfl, (collect_fits h hfits).1⟩]
      · exact absurd hdiscard hkeep
  · rw [exec_frameEnd h, hdiscard, if_neg (by decide), PortState.handleFrame, collect_frameBuffer h,
      if_neg (take_ne_nil hf), if_neg, if_pos (by rw [collect_busy, hbusy]), ← PortState.collect_emptied]
    · rfl
    · rintro ⟨hzero, hfits⟩
      have hlength : f.length ≤ 64 := not_lt.mp fun hlong =>
        absurd ((collect_overflow (bits := bits) h).mpr (.inr hlong)) (by rw [hfits]; decide)
      rw [List.take_of_length_le hlength] at hzero
      exact hnop hzero
  · show execFrameEnd p mosi bits s = _
    simp only [execFrameEnd, hnone]

end Sys2Proof.Proofs
end

section
/-! SUPPORT. The snapshot of a transaction and the event flags, and the statements O8 and O9. -/

namespace Sys2Proof.Machine

open Sys2Proof

/-! ### The status byte, bit by bit (R176) -/

theorem getLsbD_flagAt (flag : Bool) {bit : Nat} (hbit : bit < 8) (i : Nat) :
    (flagAt flag bit).getLsbD i = (flag && decide (i = bit)) := by
  unfold flagAt
  cases flag
  · simp
  · simp only [if_true, BitVec.getLsbD_twoPow, Bool.true_and]
    by_cases hi : i = bit
    · simp [hi, hbit]
    · simp [hi, Ne.symm hi]

theorem getLsbD_statusByte (s : State) (p : Port) (i : Nat) : (s.statusByte p).getLsbD i =
    ((decide (s.device = .halted) && decide (i = 7)) || (decide (s.device = .run) && decide (i = 6))
      || (s.resetSeen p && decide (i = 5)) || ((s.port p).overrun && decide (i = 4))
      || ((s.port p).atnLow && decide (i = 3)) || ((s.port p).err && decide (i = 2))
      || ((s.port p).ready && decide (i = 1)) || ((s.port p).busy && decide (i = 0))) := by
  simp only [State.statusByte, BitVec.getLsbD_or]
  rw [getLsbD_flagAt _ (by decide), getLsbD_flagAt _ (by decide), getLsbD_flagAt _ (by decide),
    getLsbD_flagAt _ (by decide), getLsbD_flagAt _ (by decide), getLsbD_flagAt _ (by decide),
    getLsbD_flagAt _ (by decide), getLsbD_flagAt _ (by decide)]

/-- A mask of one bit picks that bit. -/
theorem and_twoPow_ne_zero (x : Byte) {k : Nat} (hk : k < 8) :
    (x &&& BitVec.twoPow 8 k != 0) = x.getLsbD k := by
  rw [Bool.eq_iff_iff, bne_iff_ne, and_ne_zero_iff_getLsbD]
  constructor
  · rintro ⟨i, hi, hbit⟩
    rw [BitVec.getLsbD_twoPow] at hbit
    obtain rfl : k = i := by simpa [hk] using hbit
    exact hi
  · exact fun h => ⟨k, h, by simp [hk]⟩

theorem State.resetSeen_eq (s : State) (p : Port) : s.resetSeen p = match p with
    | .grid => s.grid.flags.getLsbD 4
    | .fleet => s.fleet.flags.getLsbD 6 := by
  cases p
  · exact and_twoPow_ne_zero s.grid.flags (k := 4) (by decide)
  · exact and_twoPow_ne_zero s.fleet.flags (k := 6) (by decide)

theorem PortState.busy_iff (x : PortState) : x.busy = true ↔ x.progress ≠ .idle := by
  unfold PortState.busy
  cases x.progress <;> simp

/-! ### What a transaction carries out (R159) -/

theorem byteAt_getElem? {f : List Byte} {k : Nat} {b : Byte} (h : f[k]? = some b) : byteAt f k = b := by
  simp [byteAt, h]

theorem byteAt_beyond {f : List Byte} {k : Nat} (h : f.length ≤ k) : byteAt f k = 0 := by
  simp [byteAt, List.getElem?_eq_none h]

/-! ### The snapshot stands while CS is low (R159) -/

theorem State.sameBut.transaction {s t : State} {parts : List Part} (h : s.sameBut t parts) (hgrid : .grid ∉ parts)
    (hfleet : .fleet ∉ parts) (p : Port) : (t.port p).transaction = (s.port p).transaction := by
  cases p
  · show t.grid.transaction = s.grid.transaction
    rw [h.grid_flags hgrid]
  · show t.fleet.transaction = s.fleet.transaction
    rw [h.fleet_flags hfleet]

/-- Every update but the resets and the ports' own transactions keeps a transaction. -/
theorem transaction_linkClosed (p : Port) (x : Option Transaction) :
    LinkClosed (fun s => (s.port p).transaction = x) where
  modBay _ _ _ h := h
  modFault _ _ h := h
  noOrder _ h := h
  setOrder _ _ h := h
  setBayState _ _ h := ((State.setBayState_frame _ _ _).transaction (by simp) (by simp) p).trans h
  hand _ h := h
  join _ h := ((State.join_frame _ _).transaction (by simp) (by simp) p).trans h
  markBay _ h := by cases p <;> exact h
  raiseFleet _ h := by cases p <;> exact h
  issue _ _ _ _ h := h
  firstStep _ _ h := ((State.firstStep_frame _ _ _).transaction (by simp) (by simp) p).trans h
  newOrder _ _ _ _ h := h
  bind _ _ h := ((State.setBayState_frame _ _ _).transaction (by simp) (by simp) p).trans h
  modRequest _ h := h
  dropRequest _ h := h
  lastResult _ h := h
  notices _ h := h
  raiseGrid _ h := by cases p <;> exact h
  setRecord _ _ h := h
  clearLink _ h := ((State.clearLink_frame _ _).transaction (by simp) (by simp) p).trans h
  linkBay _ _ _ h := ((State.linkBay_frame _ _ _).transaction (by simp) (by simp) p).trans h

theorem State.transaction_setPort {s : State} {p q : Port} {y : PortState} (hy : y.transaction = (s.port q).transaction) :
    ((s.setPort q y).port p).transaction = (s.port p).transaction := by
  by_cases hp : p = q
  · rw [hp, State.setPort_port, hy]
  · rw [State.setPort_port_ne s y hp]

theorem transaction_updateClosed (p : Port) (x : Option Transaction) :
    UpdateClosed (fun s => (s.port p).transaction = x) where
  toLinkClosed := transaction_linkClosed p x
  advance h := h
  setLine _ _ h := h
  pollNext _ h := h
  exchange _ h := h
  setPort hy _ h := (State.transaction_setPort hy).trans h
  eventsRead h := by cases p <;> exact h
  setClock _ h := h
  profiles _ h := h
  policy _ _ h := h
  writeSite {t x} _ h := by
    have hQ := transaction_linkClosed p (t.port p).transaction
    exact (hQ.hand (.change .site) (hQ.siteLimitCut (hQ.recomputeAll
      (t := { t with site := x, siteValid := true }) rfl))).trans h
  submit _ _ _ _ _ h := h
  run _ _ h := h
  halt _ _ h := by
    unfold State.halt
    split <;> exact h
  append _ _ _ h := h
  modVehicle _ _ _ h := h
  withdraw _ h := (transaction_linkClosed p x).unlinkIf _ h

theorem State.transaction_answer (s : State) (p q : Port) (r : List Byte) :
    ((s.answer q r).port p).transaction = (s.port p).transaction := State.transaction_setPort rfl

/-- RESET DEVICE marks a grid-port frame to be discarded and leaves the fleet port's transaction (R174). -/
theorem State.transaction_softReset (s : State) (p : Port) : (s.softReset.port p).transaction = match p with
    | .grid => s.grid.transaction.map fun t => { t with discard := true }
    | .fleet => s.fleet.transaction := by
  cases p <;> rfl

theorem exec_readEvents (p : Port) (s : State) :
    exec (.readEvents p) s = carryOut p (.readEvents p) (readEvents p) s := rfl

theorem exec_ackReset (p : Port) (s : State) : exec (.ackReset p) s = carryOut p (.ackReset p) (ackReset p) s := rfl

theorem exec_resetDevice (s : State) : exec .resetDevice s = carryOut .fleet .resetDevice resetDevice s := rfl

/-- The end of a frame at one port leaves the other's transaction. -/
theorem exec_frameEnd_of_ne {p q : Port} (hq : p ≠ q) {mosi : List Byte} {bits : Nat} {s t : State}
    (h : exec (.frameEnd q mosi bits) s = .next t) : (t.port p).transaction = (s.port p).transaction := by
  have h' : execFrameEnd q mosi bits s = .next t := h
  unfold execFrameEnd at h'
  dsimp only at h'
  split at h'
  · cases h'
    rfl
  · cases h'
    rw [State.setPort_port_ne s _ hq]

/-- A fall of CS in a transaction leaves it, and so does one at the other port. -/
theorem exec_transactionStart_keeps {p q : Port} {tr : Transaction} {s t : State} (htr : (s.port p).transaction = some tr)
    (h : exec (.transactionStart q) s = .next t) : (t.port p).transaction = (s.port p).transaction := by
  have h' : execTransactionStart q s = .next t := h
  unfold execTransactionStart at h'
  dsimp only at h'
  split at h'
  case h_1 hfree =>
    cases h'
    rw [State.setPort_port_ne s _]
    rintro rfl
    rw [htr] at hfree
    cases hfree
  case h_2 =>
    cases h'
    rfl

theorem exec_resetDevice_transaction {p : Port} {tr : Transaction} {s t : State} (htr : (s.port p).transaction = some tr)
    (h : exec .resetDevice s = .next t) : (t.port p).transaction = some tr
      ∨ ((t.port p).transaction = some { tr with discard := true } ∧ p = .grid) := by
  have htrip := (transaction_updateClosed p (some tr)).doTrip htr
  rw [exec_resetDevice] at h
  unfold carryOut at h
  split at h
  · obtain rfl := Host.Outcome.next.inj h
    rw [State.transaction_answer, State.transaction_softReset]
    generalize s.doTrip = u at htrip
    cases p
    · exact .inr ⟨congrArg (Option.map fun t : Transaction => { t with discard := true }) htrip, rfl⟩
    · exact .inl htrip
  · obtain rfl := Host.Outcome.next.inj h
    exact .inl htr

end Sys2Proof.Machine

namespace Sys2Proof.Proofs

open Sys2Proof.Machine

/-- Settles O8: the status byte bit by bit, the bytes of MISO place by place, and a transaction that every command but
the named ones keeps. -/
theorem snapshotTakenAndStands : Obligations.SnapshotTakenAndStands := by
  unfold Obligations.SnapshotTakenAndStands
  refine ⟨fun p s hfree => ?_, fun x clock => ⟨fun hhigh => PortState.misoPin_high hhigh clock, ?_⟩, ?_⟩
  · refine ⟨s.statusByte p, ?_, ?_, ?_, ?_, ?_, ?_, ?_, ?_, ?_⟩
    · show execTransactionStart p s = _
      simp only [execTransactionStart, hfree]
    all_goals rw [getLsbD_statusByte]
    · simp
    · simp
    · exact .trans (by simp) (s.resetSeen_eq p)
    · simp
    · rw [← (s.port p).atnLow_iff]
      simp
    · simp
    · simp
    · rw [← (s.port p).busy_iff]
      simp
  · intro tr htr place bit hplace hbit
    rw [PortState.misoPin_low htr, Snapshot.bitOut, ← hplace, ← hbit]
    refine ⟨?_, ?_, fun b hle hb => ?_, fun hle => ?_⟩
    · rintro rfl
      rw [Snapshot.byteOut_zero]
    · rintro rfl
      rw [Snapshot.byteOut_one, BitVec.getLsbD_ofNat]
      have hlt : bit < 8 := by omega
      simp [hlt]
    · obtain ⟨k, rfl⟩ := Nat.exists_eq_add_of_le' hle
      rw [Snapshot.byteOut_reply, byteAt_getElem? (by simpa using hb)]
    · obtain ⟨k, rfl⟩ := Nat.exists_eq_add_of_le' (by omega : 2 ≤ place)
      rw [Snapshot.byteOut_reply, byteAt_beyond (by omega)]
      simp
  · intro c s t p tr htr hpower hframe hexec
    have hkept (hc : resetsOrFrames c = false) : (t.port p).transaction = some tr := by
      obtain ⟨u, hu, htransaction⟩ := (transaction_updateClosed p (some tr)).eventClosed.keeps_exec hc htr
      cases hu.symm.trans hexec
      exact htransaction
    cases c with
    | powerOnReset => exact absurd rfl hpower
    | frameEnd q mosi bits =>
      have hq : p ≠ q := by
        rintro rfl
        exact hframe mosi bits rfl
      rw [exec_frameEnd_of_ne hq hexec]
      exact ⟨tr, htr, rfl, .inl rfl⟩
    | transactionStart q =>
      rw [exec_transactionStart_keeps htr hexec]
      exact ⟨tr, htr, rfl, .inl rfl⟩
    | resetDevice =>
      obtain htransaction | ⟨htransaction, rfl⟩ := exec_resetDevice_transaction htr hexec
      · exact ⟨tr, htransaction, rfl, .inl rfl⟩
      · exact ⟨_, htransaction, rfl, .inr ⟨rfl, rfl, rfl⟩⟩
    | _ => exact ⟨tr, hkept rfl, rfl, .inl rfl⟩

/-- Settles O9: each port's flags under its RESET bit, the other port left as it is. -/
theorem eventsReadAndAcknowledged : Obligations.EventsReadAndAcknowledged := by
  unfold Obligations.EventsReadAndAcknowledged
  intro s
  refine ⟨fun h => ?_, fun h => ?_, fun h => ?_, fun h => ?_⟩
  · rw [exec_readEvents, carryOut_of_handed _ h]
    rfl
  · rw [exec_readEvents, carryOut_of_handed _ h]
    rfl
  · rw [exec_ackReset, carryOut_of_handed _ h]
    rfl
  · rw [exec_ackReset, carryOut_of_handed _ h]
    rfl

end Sys2Proof.Proofs
end

section

/-!
SUPPORT. CANCEL, the fault policy's flag bytes and the temperature cap (O24, O26, O27): what each answers by its
operands.
-/

namespace Sys2Proof.Machine

/-! ### CANCEL (R79) -/

theorem exec_cancel (id : Byte) (s : State) :
    exec (.cancel id) s = carryOut .grid (.cancel id) (cancel id.toNat) s := rfl

theorem toNat_ne_zero {x : Byte} (h : x ≠ 0) : x.toNat ≠ 0 := fun hx => h (by bv_omega)

section
variable {s : State} {id : Nat}

theorem cancel_zero : cancel 0 s = .error .range := rfl

theorem cancel_absent (hid : id ≠ 0) (h : s.request? id = none) : cancel id s = .error .noSuchRequest := by
  simp [cancel, hid, h]

theorem cancel_notHeld {r : Request} (hid : id ≠ 0) (h : s.request? id = some r)
    (hstate : ∀ countdown, r.state ≠ .held countdown) : cancel id s = .error .requestActive := by
  cases hr : r.state with
  | held countdown => exact absurd hr (hstate countdown)
  | active _ _ => simp [cancel, hid, h, hr]
  | ending _ => simp [cancel, hid, h, hr]

theorem cancel_held {r : Request} {countdown : Nat} (hid : id ≠ 0) (h : s.request? id = some r)
    (hstate : r.state = .held countdown) : cancel id s = .ok (s.dropRequest id, le1 id) := by
  simp [cancel, hid, h, hstate]

end

/-! ### The policy's flag bytes (R126) -/

theorem yesNo?_of_flag {x : Byte} (h : x = 0 ∨ x = 1) : yesNo? x = some (decide (x = 1)) := by
  obtain rfl | rfl := h <;> rfl

theorem flag_of_yesNo? {x : Byte} {b : Bool} (h : yesNo? x = some b) : x = 0 ∨ x = 1 := by
  unfold yesNo? at h
  split at h
  · exact .inl ‹_›
  · split at h
    · exact .inr ‹_›
    · cases h

theorem le1_yesNo_flag {x : Byte} (h : x = 0 ∨ x = 1) : le1 (yesNo (decide (x = 1))) = [x] := by
  obtain rfl | rfl := h <;> rfl

section
variable {a b c d e f : Byte}

theorem policyOfFields_flags (h : ∀ x ∈ [a, b, c, d, e, f], x = 0 ∨ x = 1) : policyOfFields a b c d e f = some
    ⟨decide (a = 1), decide (b = 1), decide (c = 1), decide (d = 1), decide (e = 1), decide (f = 1)⟩ := by
  simp only [List.forall_mem_cons] at h
  obtain ⟨ha, hb, hc, hd, he, hf, -⟩ := h
  simp only [policyOfFields, yesNo?_of_flag ha, yesNo?_of_flag hb, yesNo?_of_flag hc, yesNo?_of_flag hd,
    yesNo?_of_flag he, yesNo?_of_flag hf]
  rfl

theorem flags_of_policyOfFields {p : FaultPolicy} (h : policyOfFields a b c d e f = some p) :
    ∀ x ∈ [a, b, c, d, e, f], x = 0 ∨ x = 1 := by
  simp only [policyOfFields, Option.pure_def, Option.bind_eq_bind, Option.bind_eq_some_iff] at h
  obtain ⟨_, ha, _, hb, _, hc, _, hd, _, he, _, hf, -⟩ := h
  simp only [List.forall_mem_cons, List.not_mem_nil, false_imp_iff, implies_true, and_true]
  exact ⟨flag_of_yesNo? ha, flag_of_yesNo? hb, flag_of_yesNo? hc, flag_of_yesNo? hd, flag_of_yesNo? he,
    flag_of_yesNo? hf⟩

theorem policyOfFields_badFlag (h : ∃ x ∈ [a, b, c, d, e, f], x ≠ 0 ∧ x ≠ 1) : policyOfFields a b c d e f = none := by
  obtain ⟨x, hx, hzero, hone⟩ := h
  cases hp : policyOfFields a b c d e f with
  | none => rfl
  | some p => exact (flags_of_policyOfFields hp x hx).elim (absurd · hzero) (absurd · hone)

theorem exec_setFaultPolicy (s : State) : exec (.setFaultPolicy a b c d e f) s =
    carryOut .fleet (.setFaultPolicy a b c d e f) (setFaultPolicy (policyOfFields a b c d e f)) s := rfl

theorem policyData_flags (h : ∀ x ∈ [a, b, c, d, e, f], x = 0 ∨ x = 1) : policyData
    ⟨decide (a = 1), decide (b = 1), decide (c = 1), decide (d = 1), decide (e = 1), decide (f = 1)⟩
    = [a, b, c, d, e, f] := by
  simp only [List.forall_mem_cons] at h
  obtain ⟨ha, hb, hc, hd, he, hf, -⟩ := h
  simp only [policyData, List.flatMap_cons, List.flatMap_nil, le1_yesNo_flag ha, le1_yesNo_flag hb,
    le1_yesNo_flag hc, le1_yesNo_flag hd, le1_yesNo_flag he, le1_yesNo_flag hf]
  rfl

end

/-! ### The temperature cap (R42) -/

section
variable {x : Site} {cap : Nat} {t : Int}

/-- The part of a cap that stands `n` of `d` degrees into a derating range, over the integers. -/
theorem natCast_mul_toNat_div {n d : Int} (hn : 0 ≤ n) (hd : 0 ≤ d) :
    ((cap * n.toNat / d.toNat : Nat) : Int) = cap * n / d := by
  rw [Int.natCast_ediv, Int.natCast_mul, Int.toNat_of_nonneg hn, Int.toNat_of_nonneg hd]

theorem mul_div_le_self {n d : Nat} (h : n ≤ d) : cap * n / d ≤ cap :=
  Nat.div_le_of_le_mul (by rw [Nat.mul_comm d]; exact Nat.mul_le_mul_left cap h)

theorem derate_cold (h : t ≤ x.tcz) : derate x cap t = 0 := if_pos h

theorem derate_rising (hlow : x.tcz < t) (hhigh : t < x.tcf) :
    derate x cap t = cap * (t - x.tcz).toNat / (x.tcf - x.tcz).toNat := by
  rw [derate, if_neg (by omega), if_pos hhigh]

theorem derate_full (hcold : x.tcz < x.tcf) (hlow : x.tcf ≤ t) (hhigh : t ≤ x.thf) : derate x cap t = cap := by
  rw [derate, if_neg (by omega), if_neg (by omega), if_pos hhigh]

theorem derate_falling (hcold : x.tcz < x.tcf) (hfull : x.tcf ≤ x.thf) (hlow : x.thf < t) (hhigh : t < x.thz) :
    derate x cap t = cap * (x.thz - t).toNat / (x.thz - x.thf).toNat := by
  rw [derate, if_neg (by omega), if_neg (by omega), if_neg (by omega), if_pos hhigh]

theorem derate_hot (hcold : x.tcz < x.tcf) (hfull : x.tcf ≤ x.thf) (hhot : x.thf < x.thz) (h : x.thz ≤ t) :
    derate x cap t = 0 := by
  rw [derate, if_neg (by omega), if_neg (by omega), if_neg (by omega), if_neg (by omega)]

theorem derate_le (x : Site) (cap : Nat) (t : Int) : derate x cap t ≤ cap := by
  unfold derate
  split
  · exact Nat.zero_le cap
  split
  · exact mul_div_le_self (by omega)
  split
  · exact le_rfl
  split
  · exact mul_div_le_self (by omega)
  · exact Nat.zero_le cap

end

end Sys2Proof.Machine

namespace Sys2Proof.Proofs

open Sys2Proof.Machine

/-- Settles O24: the refusals in order, then the HELD request removed with its notices. -/
theorem cancelRemovesHeldRequest : Obligations.CancelRemovesHeldRequest := by
  unfold Obligations.CancelRemovesHeldRequest
  intro id s h
  simp only [exec_cancel]
  refine ⟨?_, fun hid habsent => ?_, fun hid r hr => ⟨fun hstate => ?_, fun countdown hstate => ?_⟩⟩
  · rintro rfl
    exact carryOut_error h (r := .range) cancel_zero
  · exact carryOut_error h (r := .noSuchRequest)
      (cancel_absent (toNat_ne_zero hid) (State.request?_eq_none.mpr habsent))
  · exact carryOut_error h (r := .requestActive) (cancel_notHeld (toNat_ne_zero hid) hr hstate)
  · have hnotices : (fun n : Notice => !n.isEndOf id.toNat) = fun n => match n with
        | .orderEnd request _ _ _ _ => request != id.toNat
        | .change _ => true := by
      funext n
      cases n <;> rfl
    rw [carryOut_ok h (cancel_held (toNat_ne_zero hid) hr hstate), le1_eq_singleton rfl, State.dropRequest,
      hnotices] <;> rfl

/-- Settles O26: one clause of the curve at a time; a part of a range never exceeds the whole. -/
theorem temperatureCapByPoints : Obligations.TemperatureCapByPoints := by
  unfold Obligations.TemperatureCapByPoints
  intro x cap t hcold hfull hhot
  refine ⟨derate_cold, fun hlow hhigh => ?_, derate_full hcold, fun hlow hhigh => ?_, derate_hot hcold hfull hhot,
    derate_le x cap t⟩
  · rw [derate_rising hlow hhigh, natCast_mul_toNat_div (by omega) (by omega)]
  · rw [derate_falling hcold hfull hlow hhigh, natCast_mul_toNat_div (by omega) (by omega)]

/-- Settles O27: a policy stands for six flag bytes exactly when each is yes or no. -/
theorem faultPolicyReplaced : Obligations.FaultPolicyReplaced := by
  unfold Obligations.FaultPolicyReplaced
  intro a b c d e f s h
  rw [exec_setFaultPolicy]
  refine ⟨fun hbad => ?_, fun hflags => ⟨mapBank (fun f => { f with tracking := 0 }) s.faults, ?_, fun bay => ?_⟩⟩
  · exact carryOut_error h (r := .range) (by rw [policyOfFields_badFlag hbad]; rfl)
  · rw [carryOut_ok h (by rw [policyOfFields_flags hflags]; rfl), policyData_flags hflags]
  · simp [mapBank, State.faultSet]

end Sys2Proof.Proofs
end

section

/-!
SUPPORT. The step function, the decline and the reserve need (O50), and the polls of the Bay Link (O51).
-/

namespace Sys2Proof.Machine

/-! ### The step function and the decline (R89, R90) -/

/-- The band a level falls in is the first whose bound is above it, and the last where none is (R89). -/
theorem Profile.stepSize_of_bands {p : Profile} {front back : List Band} {b : Band} {level : Nat}
    (hbands : p.bands = front ++ b :: back) (hfront : ∀ x ∈ front, x.bound ≤ level)
    (hb : level < b.bound ∨ back = []) : p.stepSize level = b.step := by
  have hnone : front.find? (fun x => level < x.bound) = none := by
    simpa using hfront
  rw [Profile.stepSize, hbands, List.find?_append, hnone, Option.none_or]
  by_cases hlevel : level < b.bound
  · simp [hlevel]
  · obtain rfl := hb.resolve_left hlevel
    simp [hlevel]

section
variable {p : Profile}

/-- Every step size of a loaded profile is at least 1. -/
theorem Profile.stepSize_pos (hvalid : p.valid = true) (level : Nat) : 1 ≤ p.stepSize level := by
  obtain ⟨-, -, hlength, hall, -, -⟩ := p.valid_iff.mp hvalid
  unfold Profile.stepSize
  split
  next b hb => exact (hall b (List.mem_of_find?_eq_some hb)).1
  next hnone =>
    split
    next b hb => exact (hall b (List.mem_of_getLast? hb)).1
    next hempty => simp_all

theorem Profile.declineLevel_lt (hvalid : p.valid = true) {level : Nat} (h : p.ps < level) :
    p.declineLevel level < level := by
  have hstep := Profile.stepSize_pos hvalid level
  unfold Profile.declineLevel
  omega

/-- With terms enough for the level, further terms add nothing. -/
theorem Profile.declineSum_fuel (hvalid : p.valid = true) {level : Nat} :
    ∀ {fuel : Nat}, level ≤ fuel → p.declineSum fuel level = p.declineEnergy level := by
  induction level using Nat.strong_induction_on with
  | _ level ih =>
    intro fuel hfuel
    unfold Profile.declineEnergy
    obtain _ | fuel := fuel
    · rw [Nat.le_zero.mp hfuel]
    obtain _ | last := level
    · simp [Profile.declineSum]
    · simp only [Profile.declineSum]
      split
      · rfl
      next habove =>
        have hlt := Profile.declineLevel_lt hvalid (by omega : p.ps < last + 1)
        rw [ih _ hlt (by omega : _ ≤ fuel), ih _ hlt (by omega : _ ≤ last)]

theorem Profile.declineEnergy_floor {level : Nat} (h : level ≤ p.ps) : p.declineEnergy level = 0 := by
  cases level with
  | zero => rfl
  | succ last => exact if_pos h

theorem Profile.declineEnergy_step (hvalid : p.valid = true) {level : Nat} (h : p.ps < level) :
    p.declineEnergy level = p.declineLevel level + p.declineEnergy (p.declineLevel level) := by
  have hlt := Profile.declineLevel_lt hvalid h
  obtain ⟨last, rfl⟩ : ∃ last, level = last + 1 := ⟨level - 1, by omega⟩
  rw [← Profile.declineSum_fuel hvalid (by omega : p.declineLevel (last + 1) ≤ last)]
  exact if_neg (by omega)

/-- The terms of a decline are distinct and below the level, so twice their sum stays below its square. -/
theorem Profile.two_mul_declineEnergy_le (hvalid : p.valid = true) (level : Nat) :
    2 * p.declineEnergy level ≤ level * level := by
  induction level using Nat.strong_induction_on with
  | _ level ih =>
    by_cases h : level ≤ p.ps
    · rw [Profile.declineEnergy_floor h]
      omega
    · have hlt := Profile.declineLevel_lt hvalid (by omega : p.ps < level)
      rw [Profile.declineEnergy_step hvalid (by omega)]
      have hrest := ih _ hlt
      nlinarith

end

/-! ### The reserve need (R53, R106) -/

theorem natCast_timeToDeparture (minute clock : Nat) :
    (timeToDeparture minute clock : Int) = ((minute : Int) * 60 - (clock : Int)) % 86400 :=
  Int.toNat_of_nonneg (Int.emod_nonneg _ (by decide))

section
variable {v : Vehicle} {d : Departure} {eta clock windowEnd : Nat}

theorem reserveNeed_noDeparture (h : v.departure = none) : reserveNeed v eta clock windowEnd = v.floor := by
  simp [reserveNeed, h]

theorem reserveNeed_departure (h : v.departure = some d) : reserveNeed v eta clock windowEnd = max v.floor
    (d.qDep - min 16777215 (v.pChg * (timeToDeparture d.minute clock - windowEnd) * eta / 1000)) := by
  simp [reserveNeed, h, saturate, Nat.min_comm]

end

/-! ### The poll (R129 to R136, R143, R179) -/

/-- The poll flags by the bay's state, one bit at a time (R130). -/
theorem State.pollFlags_eq (s : State) (b : BayNo) : s.pollFlags b =
    ⟨(s.bay b).state.exporting,
      decide ((s.bay b).state = .parked ∨ (s.bay b).state = .bound) && !s.exportClaimed,
      decide ((s.bay b).state = .binding),
      decide ((s.bay b).state = .releasing)
        || (decide ((s.bay b).state = .fault ∨ (s.bay b).state = .outOfService) && (s.bay b).releasePending),
      decide ((s.bay b).state = .checking)⟩ := by
  cases hstate : (s.bay b).state <;> simp [State.pollFlags, hstate, BayState.exporting]

theorem PollFlags.getLsbD_byte (f : PollFlags) (i : Nat) : f.byte.getLsbD i =
    ((f.exportEnable && decide (i = 7)) || (f.chargePermit && decide (i = 6)) || (f.bindRequest && decide (i = 5))
      || (f.releaseRequest && decide (i = 4)) || (f.checkRequest && decide (i = 3))) := by
  simp only [PollFlags.byte, BitVec.getLsbD_or]
  rw [getLsbD_flagAt _ (by decide), getLsbD_flagAt _ (by decide), getLsbD_flagAt _ (by decide),
    getLsbD_flagAt _ (by decide), getLsbD_flagAt _ (by decide)]

/-- The flags a poll of a bay goes out with (R130, R143). -/
def State.sentFlags (s : State) (b : BayNo) : PollFlags := if (s.line b).resync then resyncFlags else s.pollFlags b

theorem State.exportClaimed_eq_false {s : State} : s.exportClaimed = false ↔ ∀ r ∈ s.queue, r.isHeld = true := by
  simp [State.exportClaimed]

theorem toNat_addressByte (b : BayNo) (seq : BitVec 4) : (addressByte b seq).toNat = 16 * b.val + seq.toNat := by
  have hseq := seq.isLt
  have hb := b.isLt
  simp only [addressByte, BitVec.toNat_ofNat]
  omega

section
variable {s : State} {b : BayNo}

theorem exec_pollClassPeriod (s : State) (b : BayNo) : exec (.pollClassPeriod b) s =
    if (s.line b).periodDue then .next ((s.setLine b { s.line b with periodDue := false }).join b) else .next s := rfl

theorem exec_pollStart_idle (h : s.exchange ≠ none ∨ s.pollQueue = []) : exec .pollStart s = .next s := by
  change execPollStart s = _
  unfold execPollStart
  split
  next hx hq => simp_all
  next => rfl

theorem exec_pollStart_free {rest : List BayNo} (hx : s.exchange = none) (hq : s.pollQueue = b :: rest) :
    exec .pollStart s = .next ({ s with pollQueue := rest }.startPoll b) := by
  change execPollStart s = _
  simp only [execPollStart, hx, hq]

theorem exec_pollEnd {x : Exchange} (h : s.exchange = some x) :
    exec .pollEnd s = .next { s with exchange := some { x with listening := true } } := by
  change execPollEnd s = _
  simp only [execPollEnd, h]

theorem exec_pollEnd_idle (h : s.exchange = none) : exec .pollEnd s = .next s := by
  change execPollEnd s = _
  simp only [execPollEnd, h]

theorem driving_listening {x : Exchange} (h : s.exchange = some x) : s.driving = !x.listening := by
  simp only [State.driving, h]

/-- After its last bit a poll leaves the line undriven. -/
theorem blTx_beyond {x : Exchange} (h : s.exchange = some x) {time : Nat} (htime : 10 * x.frame.length ≤ time) :
    s.blTx time = none := by
  cases hx : x.listening with
  | true => exact State.blTx_of_not_driving (by simp [driving_listening h, hx]) time
  | false => rw [State.blTx_of_sending h hx, List.getElem?_eq_none (by simpa using htime)]

/-- A byte of a poll on BL_TX: its start bit, its data bits from the least significant one on, its stop bit (R129). -/
theorem blTx_byte {x : Exchange} (h : s.exchange = some x) (hx : x.listening = false) {place : Nat} {byte : Byte}
    (hbyte : x.frame[place]? = some byte) : s.blTx (10 * place) = some .start ∧ s.blTx (10 * place + 9) = some .stop
      ∧ ∀ k, k < 8 → s.blTx (10 * place + 1 + k) = some (.data (byte.getLsbD k)) := by
  have hat (k : Nat) (hk : k < 10) : s.blTx (10 * place + k) = (lineBits byte)[k]? := by
    rw [State.blTx_of_sending h hx, Exchange.getElem?_bitsOut x place hk, hbyte]
    rfl
  refine ⟨?_, ?_, fun k hk => ?_⟩
  · exact (hat 0 (by decide)).trans rfl
  · exact (hat 9 (by decide)).trans rfl
  · rw [Nat.add_assoc, Nat.add_comm 1 k, hat (k + 1) (by omega), lineBits_eq]
    interval_cases k <;> rfl

end

end Sys2Proof.Machine

namespace Sys2Proof.Proofs

open Sys2Proof.Machine

/-- Settles O50: a decline strictly falls, so its energy has a recurrence and a bound; the reserve need by its two
cases. -/
theorem rampAndReserveArithmetic : Obligations.RampAndReserveArithmetic := by
  unfold Obligations.RampAndReserveArithmetic
  refine ⟨fun p front b back level hbands hfront hb => Profile.stepSize_of_bands hbands hfront hb,
    fun p level hvalid => ⟨Profile.declineEnergy_floor, fun h => ⟨rfl, Profile.declineLevel_lt hvalid h,
      Profile.declineEnergy_step hvalid h⟩, fun h => ?_⟩, fun lead => ?_, fun lead => ?_, ?_⟩
  · have hbound := Profile.two_mul_declineEnergy_le hvalid level
    nlinarith
  · simp [Profile.declineEnergy, Profile.declineSum, Profile.declineLevel, Profile.stepSize]
  · simp [Profile.declineEnergy, Profile.declineSum, Profile.declineLevel, Profile.stepSize]
  · intro v eta clock windowEnd
    refine ⟨reserveNeed_noDeparture, fun d hd left hleft => ?_⟩
    rw [← natCast_timeToDeparture, Nat.cast_inj] at hleft
    rw [reserveNeed_departure hd, ← hleft]
    refine ⟨fun hshort => ?_, fun hlong => ?_, fun hfloor hdep => ⟨le_max_left _ _, ?_⟩⟩
    · rw [Nat.sub_eq_zero_of_le hshort.le]
      simp
    · have hrecharge : ((v.pChg * (left - windowEnd) * eta / 1000 : Nat) : Int)
          = (v.pChg : Int) * ((left : Int) - windowEnd) * eta / 1000 := by
        push_cast [Nat.cast_sub hlong]
        rfl
      rw [← hrecharge]
      omega
    · omega

/-- Settles O51: the poll formed from the state as it stands, and its bytes on the line bit by bit. -/
theorem pollsJoinAndStart : Obligations.PollsJoinAndStart := by
  unfold Obligations.PollsJoinAndStart
  refine ⟨fun b s => ⟨fun h => ?_, fun h => ?_⟩, fun s => exec_pollStart_idle, fun b rest s hx hq => ?_,
    fun x s => exec_pollEnd, fun s hx => ⟨exec_pollEnd_idle hx, ?_⟩, fun x s hx => ⟨fun hlistening => ?_,
      fun time => blTx_beyond hx, fun hsending place byte => blTx_byte hx hsending⟩⟩
  · rw [exec_pollClassPeriod, h]
    rfl
  · rw [exec_pollClassPeriod, if_pos h, State.join]
    split
    next hmem => rw [if_pos (show b ∈ s.pollQueue from hmem)]; rfl
    next hmem => rw [if_neg (show b ∉ s.pollQueue from hmem)]; rfl
  · refine ⟨(s.sentFlags b).byte, addressByte b ((s.line b).seq + 1),
      pollBody b ((s.line b).seq + 1) (s.sentFlags b) (if (s.line b).resync then 0 else s.setPoint b), ?_, rfl,
      toNat_addressByte _ _, ?_⟩
    · rw [exec_pollStart_free hx hq]
      rfl
    · simp only [PollFlags.getLsbD_byte, State.sentFlags, State.pollFlags_eq, ← State.exportClaimed_eq_false]
      cases (s.line b).resync <;> simp [resyncFlags]
  · exact State.blTx_of_not_driving (by simp only [State.driving, hx])
  · exact State.blTx_of_not_driving (by rw [driving_listening hx, hlistening]; rfl)

end Sys2Proof.Proofs
end

section

/-!
SUPPORT. What the operations of the Bay Controller leave at a bay: its record, its fault set, the notices and events
they hand. With them RELEASE BAY, TAKE BAY OUT and RESTORE BAY (O34, O35, O36).
-/

namespace Sys2Proof.Machine

/-! ### Event flags -/

theorem or_bayChange_twice (flags : Byte) :
    flags ||| fleetBit .bayChange ||| fleetBit .bayChange = flags ||| fleetBit .bayChange := by
  rw [BitVec.or_assoc, BitVec.or_self]

theorem or_bayChange_outOfService (flags : Byte) :
    flags ||| fleetBit .bayChange ||| fleetBit .outOfService = flags ||| 0x05#8 := by
  rw [BitVec.or_assoc]
  rfl

theorem or_mark_twice (x : BitVec 16) (b : BayNo) :
    x ||| BitVec.twoPow 16 b.val ||| BitVec.twoPow 16 b.val = x ||| BitVec.twoPow 16 b.val := by
  rw [BitVec.or_assoc, BitVec.or_self]

theorem BayState.engaged_iff {st : BayState} : st.engaged = true ↔ st = .binding ∨ st.exporting = true := by
  simp [BayState.engaged]

/-! ### The end of an order (R107, R108) -/

/-- The order-end notice of the order in a slot, if it holds one. -/
def State.endNotices (s : State) (b : BayNo) (cause : EndCause) (byTransition : Bool) : List Notice :=
  match s.order b with
  | some o => [.orderEnd o.request b (some cause) o.delivered byTransition]
  | none => []

theorem State.endNotices_none {s : State} {b : BayNo} (h : s.order b = none) (cause : EndCause) (m : Bool) :
    s.endNotices b cause m = [] := by
  simp [State.endNotices, h]

theorem State.endNotices_some {s : State} {b : BayNo} {o : Order} (h : s.order b = some o) (cause : EndCause)
    (m : Bool) : s.endNotices b cause m = [.orderEnd o.request b (some cause) o.delivered m] := by
  simp [State.endNotices, h]

theorem State.notices_abort (s : State) (b : BayNo) (cause : EndCause) (m : Bool) :
    (s.abortOrder b cause m).notices = s.notices ++ s.endNotices b cause m := by
  cases h : s.order b with
  | none => rw [State.abortOrder_none s b cause m h, State.endNotices_none h, List.append_nil]
  | some o => rw [State.notices_abortOrder s b cause m o h, State.endNotices_some h]

theorem State.declineBay_running {s : State} {b : BayNo} {o : Order} (h : s.order b = some o)
    (hphase : o.phase ≠ .waitBind) (cause : EndCause) :
    s.declineBay b cause = s.setOrder b (some (o.declineFor cause)) := by
  simp [State.declineBay, h, hphase]

/-! ### The release causes (R29) -/

section
variable {s : State} {b : BayNo}

theorem State.releaseFor_transfer (h : (s.bay b).state = .transfer) (cause : EndCause) :
    s.releaseFor b cause = s.declineBay b cause := by
  simp only [State.releaseFor, h]

theorem State.releaseFor_released (h : (s.bay b).state = .binding ∨ (s.bay b).state = .bound ∨ (s.bay b).state = .checking)
    (cause : EndCause) : s.releaseFor b cause = (s.abortOrder b cause false).release b := by
  unfold State.releaseFor
  obtain h | h | h := h <;> rw [h]

theorem State.releaseFor_disengaged (h : (s.bay b).state.engaged = false) (cause : EndCause) :
    s.releaseFor b cause = s := by
  unfold State.releaseFor
  cases hstate : (s.bay b).state
  all_goals first
    | rfl
    | simp [hstate, BayState.engaged, BayState.exporting] at h

end

/-- The bay of an order that ends at a release (R29, R108). -/
theorem State.bayReleased_abort {s : State} {b : BayNo} (h : (s.bay b).state ≠ .releasing) (cause : EndCause) (m : Bool) :
    s.bayReleased ((s.abortOrder b cause m).release b) b := by
  have hreleased := State.bayReleased_release (s.abortOrder b cause m) b (by simpa using h)
  simpa only [State.bayReleased, State.bay_abortOrder, State.abortOrder_changeSet] using hreleased

theorem State.notices_release_abort (s : State) (b : BayNo) (cause : EndCause) (m : Bool) :
    ((s.abortOrder b cause m).release b).notices = s.notices ++ s.endNotices b cause m := by
  rw [State.release_notices, State.notices_abort]

/-! ### OUT_OF_SERVICE (R38, R121) -/

section
variable {s : State} {b : BayNo}

theorem State.bay_takeOut (h : (s.bay b).state ≠ .outOfService) :
    (s.takeOut b).bay b = { s.bay b with state := .outOfService, candidate := none } := by
  simp [State.takeOut, State.bay_setBayState, h, BayRecord.toState]

theorem State.faultSet_takeOut (s : State) (b : BayNo) : (s.takeOut b).faultSet b = { s.faultSet b with
    hold := none
    tracking := if (s.bay b).state = .transfer then 0 else (s.faultSet b).tracking } := by
  by_cases h : (s.bay b).state = .transfer <;> simp [State.takeOut, State.faultSet_setBayState, h]

theorem State.fleet_takeOut (h : (s.bay b).state ≠ .outOfService) :
    (s.takeOut b).fleet = { s.fleet with flags := s.fleet.flags ||| 0x05#8 } := by
  rw [State.takeOut, State.raiseFleet_fleet, State.fleet_setBayState _ _ _ (by simpa using h)]
  exact congrArg (fun flags => { s.fleet with flags := flags }) (or_bayChange_outOfService s.fleet.flags)

theorem State.changeSet_takeOut (h : (s.bay b).state ≠ .outOfService) :
    (s.takeOut b).changeSet = s.changeSet ||| BitVec.twoPow 16 b.val := by
  rw [State.takeOut, State.raiseFleet_changeSet, State.changeSet_setBayState _ _ _ (by simpa using h)]
  rfl

@[simp] theorem State.notices_takeOut (s : State) (b : BayNo) : (s.takeOut b).notices = s.notices :=
  (s.takeOut_frame b).notices (by decide)

@[simp] theorem State.order_takeOut (s : State) (b c : BayNo) : (s.takeOut b).order c = s.order c := by
  rw [State.order, (s.takeOut_frame b).orders (by decide)]
  rfl

@[simp] theorem State.pollQueue_takeOut (s : State) (b : BayNo) : (s.takeOut b).pollQueue = s.pollQueue :=
  (s.takeOut_frame b).pollQueue (by decide)

theorem State.bay_releaseFrom (s : State) (b : BayNo) (left : BayState) : (s.releaseFrom b left).bay b =
    { s.bay b with
      releasePending := left.engaged || (s.bay b).releasePending
      releaseTimer := if left.engaged then some 10 else (s.bay b).releaseTimer } := by
  unfold State.releaseFrom
  cases h : left.engaged with
  | true => simp [BayState.engaged_iff.mp h, releaseTime]
  | false => simp [mt BayState.engaged_iff.mpr (by simp [h] : ¬ left.engaged = true)]

theorem State.faultSet_releaseFrom (s : State) (b : BayNo) (left : BayState) : (s.releaseFrom b left).faultSet b =
    { s.faultSet b with
      releaseTimedOut := if left.engaged then false else (s.faultSet b).releaseTimedOut } := by
  unfold State.releaseFrom
  cases h : left.engaged with
  | true => simp [BayState.engaged_iff.mp h]
  | false => simp [mt BayState.engaged_iff.mpr (by simp [h] : ¬ left.engaged = true)]

theorem State.mem_releaseFrom (s : State) (b : BayNo) {left : BayState} (h : left.engaged = true) :
    b ∈ (s.releaseFrom b left).pollQueue := by
  rw [State.releaseFrom, if_pos (BayState.engaged_iff.mp h)]
  exact State.mem_startRelease s b

/-- A change of state at FAULT or OUT_OF_SERVICE hands a bay-change notice (R24). -/
theorem State.handIfChanged_changed {before : BayState} (h : handsNotice before (s.bay b).state = true) :
    s.handIfChanged b before = s.hand (.change .bay) := if_pos h

theorem State.handIfChanged_kept {before : BayState} (h : handsNotice before (s.bay b).state = false) :
    s.handIfChanged b before = s := if_neg (by simp [h])

theorem handsNotice_outOfService {before : BayState} (h : before ≠ .outOfService) :
    handsNotice before .outOfService = true := by
  simp [handsNotice, h]

theorem handsNotice_self (st : BayState) : handsNotice st st = false := by
  simp [handsNotice]

end

/-- A bay taken out of service, before its notice (R38). -/
def State.takenOut (s : State) (b : BayNo) : State :=
  (((s.abortOrder b .withdrawn true).stopTimers b).releaseFrom b (s.bay b).state).takeOut b

theorem State.takenOut_other (s : State) (b : BayNo) : s.otherBays (s.takenOut b) b :=
  (((s.abortOrder_other b _ _).trans (State.stopTimers_other _ b)).trans (State.releaseFrom_other _ b _)).trans
    (State.takeOut_other _ b)

theorem State.takenOut_frame (s : State) (b : BayNo) : s.sameBut (s.takenOut b) orderEndParts :=
  ((((s.abortOrder_frame b _ _).mono (by decide)).then (State.stopTimers_frame _ b) (by decide)).then
    (State.releaseFrom_frame _ b _) (by decide)).then (State.takeOut_frame _ b) (by decide)

section
variable {s : State} {b : BayNo}

theorem State.takeBayOut_eq (h : (s.bay b).state ≠ .outOfService) :
    s.takeBayOut b = (s.takenOut b).hand (.change .bay) := by
  refine State.handIfChanged_changed (s := s.takenOut b) ?_
  rw [State.takenOut, State.state_takeOut]
  exact handsNotice_outOfService h

theorem State.bay_takenOut (h : (s.bay b).state ≠ .outOfService) : (s.takenOut b).bay b = { s.bay b with
    state := .outOfService, candidate := none, stateTimer := none, settleTimer := none, checkDue := false
    releasePending := (s.bay b).state.engaged || (s.bay b).releasePending
    releaseTimer := if (s.bay b).state.engaged then some 10 else (s.bay b).releaseTimer } := by
  rw [State.takenOut, State.bay_takeOut (by simpa [State.bay_releaseFrom] using h), State.bay_releaseFrom]
  simp

theorem State.faultSet_takenOut (s : State) (b : BayNo) : (s.takenOut b).faultSet b = { s.faultSet b with
    hold := none
    tracking := if (s.bay b).state = .transfer then 0 else (s.faultSet b).tracking
    releaseTimedOut := if (s.bay b).state.engaged then false else (s.faultSet b).releaseTimedOut } := by
  rw [State.takenOut, State.faultSet_takeOut, State.faultSet_releaseFrom, State.bay_releaseFrom]
  simp

end

/-! ### The link (R3, R42) -/

theorem State.bay_recomputeCaps (s : State) (b : BayNo) : (s.recomputeCaps b).bay b = { s.bay b with
    tempCap := s.tempCapOf b (s.bay b).ratedCap, capEff := s.effCapOf b (s.bay b).ratedCap } := by
  rw [State.recomputeCaps, State.bay_setBay]
  rfl

section
variable {s : State} {b : BayNo}

theorem State.clearLink_none (h : (s.bay b).link = none) : s.clearLink b = s := by
  simp only [State.clearLink, h]

/-- An unlinked bay has no effective cap (R42). -/
theorem State.effCapOf_unlinked (h : (s.bay b).link = none) (cap : Nat) : s.effCapOf b cap = 0 := by
  simp [State.effCapOf, State.linkedVehicle?, h]

theorem State.bay_clearLink {n : Nat} (h : (s.bay b).link = some n) : (s.clearLink b).bay b = { s.bay b with
    link := none, guardArmed := false, capEff := 0, tempCap := s.tempCapOf b (s.bay b).ratedCap } := by
  simp only [State.clearLink, h, State.bay_markBay, State.bay_recomputeCaps]
  rw [State.effCapOf_unlinked (by simp)]
  simp [State.tempCapOf]

theorem State.fleet_clearLink {n : Nat} (h : (s.bay b).link = some n) :
    (s.clearLink b).fleet = { s.fleet with flags := s.fleet.flags ||| fleetBit .bayChange } := by
  simp [State.clearLink, h, State.recomputeCaps]

theorem State.changeSet_clearLink {n : Nat} (h : (s.bay b).link = some n) :
    (s.clearLink b).changeSet = s.changeSet ||| BitVec.twoPow 16 b.val := by
  simp [State.clearLink, h, State.recomputeCaps]

/-- With paired links, a cleared bay is named by no record. -/
theorem State.linksAgree.unnamed {s : State} (h : s.linksAgree) {b : BayNo} (hb : (s.bay b).link = none) :
    ∀ v ∈ s.roster, v.bayLink ≠ some b := by
  obtain ⟨-, -, hpaired, -⟩ := h
  intro v hv hlink
  rw [(hpaired v hv b).mp hlink] at hb
  cases hb

/-- What the clearing of a link keeps at the bay. -/
theorem State.bay_clearLink_kept (s : State) (b : BayNo) : ((s.clearLink b).bay b).link = none
    ∧ ((s.clearLink b).bay b).candidate = (s.bay b).candidate ∧ ((s.clearLink b).bay b).tele = (s.bay b).tele
    ∧ ((s.clearLink b).bay b).ratedCap = (s.bay b).ratedCap
    ∧ ((s.bay b).link ≠ none → ((s.clearLink b).bay b).capEff = 0 ∧ ((s.clearLink b).bay b).guardArmed = false) := by
  cases h : (s.bay b).link with
  | none =>
    rw [State.clearLink_none h]
    exact ⟨h, rfl, rfl, rfl, fun hlink => (hlink rfl).elim⟩
  | some n =>
    rw [State.bay_clearLink h]
    exact ⟨rfl, rfl, rfl, rfl, fun _ => ⟨rfl, rfl⟩⟩

/-- A cleared link marks the bay once more at most. -/
theorem State.flags_clearLink_mark (s : State) (b : BayNo) :
    (s.clearLink b).fleet.flags ||| fleetBit .bayChange = s.fleet.flags ||| fleetBit .bayChange
    ∧ (s.clearLink b).changeSet ||| BitVec.twoPow 16 b.val = s.changeSet ||| BitVec.twoPow 16 b.val := by
  cases h : (s.bay b).link with
  | none => simp [State.clearLink_none h]
  | some n => rw [State.fleet_clearLink h, State.changeSet_clearLink h]; exact ⟨or_bayChange_twice _, or_mark_twice _ _⟩

end

/-! ### The return to service (R40) -/

theorem State.bay_detect {s : State} {b : BayNo} (h : (s.bay b).state ≠ .detected) :
    (s.detect b).bay b = { s.bay b with state := .detected, candidate := some (s.bay b).tele.vehicle } := by
  simp [State.detect, State.bay_setBayState, h, BayRecord.toState]

section
variable {s : State} {b : BayNo}

theorem State.bay_restart (h : (s.bay b).state = .outOfService) : (s.restart b).bay b = { s.bay b with
    state := if (s.bay b).tele.plug then .detected else .empty
    candidate := if (s.bay b).tele.plug then some (s.bay b).tele.vehicle else none } := by
  unfold State.restart
  split
  next hplug => rw [State.bay_detect (by simp [h])]
  next hplug => simp [State.bay_setBayState, h, BayRecord.toState]

theorem State.restart_frame (s : State) (b : BayNo) : s.sameBut (s.restart b) [.bays, .faults, .fleetFlags, .changeSet] := by
  unfold State.restart
  split
  · exact (s.setBayState_frame b .detected).then (State.modBay_frame _ b _) (by decide)
  · exact s.setBayState_frame b .empty

theorem State.restart_other (s : State) (b : BayNo) : s.otherBays (s.restart b) b := by
  unfold State.restart
  split
  · exact s.detect_other b
  · exact s.setBayState_other b _

theorem State.faultSet_restart (h : (s.bay b).state = .outOfService) : (s.restart b).faultSet b = s.faultSet b := by
  unfold State.restart
  split <;> simp [State.detect, State.faultSet_setBayState, h]

theorem State.fleet_restart (h : (s.bay b).state = .outOfService) :
    (s.restart b).fleet = { s.fleet with flags := s.fleet.flags ||| fleetBit .bayChange } := by
  unfold State.restart
  split
  · rw [State.detect, State.modBay_fleet, State.fleet_setBayState _ _ _ (by simp [h])]
  · rw [State.fleet_setBayState _ _ _ (by simp [h])]

theorem State.changeSet_restart (h : (s.bay b).state = .outOfService) :
    (s.restart b).changeSet = s.changeSet ||| BitVec.twoPow 16 b.val := by
  unfold State.restart
  split
  · rw [State.detect, State.modBay_changeSet, State.changeSet_setBayState _ _ _ (by simp [h])]
  · rw [State.changeSet_setBayState _ _ _ (by simp [h])]

end

/-! ### The commands -/

theorem exec_releaseBay (bay : Byte) (s : State) :
    exec (.releaseBay bay) s = carryOut .fleet (.releaseBay bay) (releaseBay bay) s := rfl

theorem exec_takeBayOut (bay : Byte) (s : State) :
    exec (.takeBayOut bay) s = carryOut .fleet (.takeBayOut bay) (takeBayOut bay) s := rfl

theorem exec_restoreBay (bay : Byte) (s : State) :
    exec (.restoreBay bay) s = carryOut .fleet (.restoreBay bay) (restoreBay bay) s := rfl

section
variable {s : State} {bay : Byte} {b : BayNo}

theorem le1_bay (h : bay.toNat = b.val) : le1 b.val = [bay] := le1_eq_singleton h

theorem releaseBay_badBay (h : 15 < bay.toNat) : releaseBay bay s = .error .badBay := by
  simp only [releaseBay, bayOfByte_eq_none h]

theorem releaseBay_refused (h : bay.toNat = b.val) (hstate : (s.bay b).state.exporting = false) :
    releaseBay bay s = .error .bayState := by
  simp [releaseBay, bayOfByte_eq_some h, hstate]

theorem releaseBay_accepted (h : bay.toNat = b.val) (hstate : (s.bay b).state.exporting = true) {code : Byte}
    (hcode : ((s.releaseFor b .withdrawn).bay b).state.code = code.toNat) :
    releaseBay bay s = .ok (s.releaseFor b .withdrawn, [bay, code]) := by
  simp [releaseBay, bayOfByte_eq_some h, hstate, withReply, le1_bay h, le1_eq_singleton hcode.symm]

theorem takeBayOut_badBay (h : 15 < bay.toNat) : takeBayOut bay s = .error .badBay := by
  simp only [takeBayOut, bayOfByte_eq_none h]

theorem takeBayOut_accepted (h : bay.toNat = b.val) : takeBayOut bay s =
    .ok (if (s.bay b).state = .outOfService then s else s.takeBayOut b, bay :: le1 (s.bay b).state.code) := by
  simp [takeBayOut, bayOfByte_eq_some h, le1_bay h]

theorem restoreBay_badBay (h : 15 < bay.toNat) : restoreBay bay s = .error .badBay := by
  simp only [restoreBay, bayOfByte_eq_none h]

theorem restoreBay_refused (h : bay.toNat = b.val)
    (hstate : (s.bay b).state ≠ .outOfService ∨ (s.bay b).releasePending = true) :
    restoreBay bay s = .error .bayState := by
  simp only [restoreBay, bayOfByte_eq_some h, if_pos hstate]

theorem restoreBay_accepted (h : bay.toNat = b.val) (hstate : (s.bay b).state = .outOfService)
    (hpending : (s.bay b).releasePending = false) :
    restoreBay bay s = .ok (s.restoreBay b, bay :: le1 ((s.restoreBay b).bay b).state.code) := by
  simp [restoreBay, bayOfByte_eq_some h, hstate, hpending, withReply, le1_bay h]

end

/-- A bay restored, before its notice (R40). -/
def State.unlinked (s : State) (b : BayNo) : State :=
  (s.modFault b fun f => { f with history := [], record := .cleared }).clearLink b

section
variable {s : State} {b : BayNo}

theorem State.state_unlinked (s : State) (b : BayNo) : ((s.unlinked b).bay b).state = (s.bay b).state := by
  rw [State.unlinked, State.state_clearLink, State.bay_modFault]

theorem State.restoreBay_eq (h : (s.bay b).state = .outOfService) :
    s.restoreBay b = ((s.unlinked b).restart b).hand (.change .bay) := by
  refine State.handIfChanged_changed (s := (s.unlinked b).restart b) ?_
  rw [State.bay_restart ((s.state_unlinked b).trans h)]
  cases ((s.unlinked b).bay b).tele.plug <;> rfl

end

end Sys2Proof.Machine

namespace Sys2Proof.Proofs

open Sys2Proof.Machine

/-- Settles O34: a refused state, a release at once, or the order's decline. -/
theorem releaseBayByState : Obligations.ReleaseBayByState := by
  unfold Obligations.ReleaseBayByState
  intro bay s h
  simp only [exec_releaseBay]
  refine ⟨fun hbay => carryOut_error h (r := .badBay) (releaseBay_badBay hbay), fun b hb =>
    ⟨fun hbound htransfer hchecking => ?_, fun hstate => ?_, fun hstate o ho hphase => ?_⟩⟩
  · refine carryOut_error h (r := .bayState) (releaseBay_refused hb ?_)
    cases hstate : (s.bay b).state <;> simp_all [BayState.exporting]
  · have hexporting : (s.bay b).state.exporting = true := by
      obtain hstate | hstate := hstate <;> rw [hstate] <;> rfl
    have hrelease := State.releaseFor_released (s := s) (b := b) (.inr hstate) .withdrawn
    refine ⟨s.releaseFor b .withdrawn, ?_, ?_, ?_, s.releaseFor_other b _, fun ho => ?_, fun o ho => ?_,
      (s.releaseFor_frame b _).mono (by decide)⟩
    · exact carryOut_ok h (releaseBay_accepted hb hexporting (by rw [hrelease, State.state_release]; rfl))
    · rw [hrelease]
      exact State.bayReleased_abort (by rintro he; simp [he] at hstate) _ _
    · rw [hrelease, State.order_release, State.order_abortOrder]
    · rw [hrelease, State.notices_release_abort, State.endNotices_none ho, List.append_nil]
    · rw [hrelease, State.notices_release_abort, State.endNotices_some ho]
  · have hdecline : s.releaseFor b .withdrawn = s.setOrder b (some (o.declineFor .withdrawn)) :=
      (State.releaseFor_transfer hstate _).trans (State.declineBay_running ho hphase _)
    rw [carryOut_ok h (releaseBay_accepted (code := 5) hb (by rw [hstate]; rfl)
      (by rw [hdecline, State.bay_setOrder, hstate]; rfl)), hdecline]
    simp [Order.declineFor]

/-- Settles O35: the state left decides what a TAKE BAY OUT starts and what it reports. -/
theorem bayTakenOut : Obligations.BayTakenOut := by
  unfold Obligations.BayTakenOut
  intro bay s h
  simp only [exec_takeBayOut]
  refine ⟨fun hbay => carryOut_error h (r := .badBay) (takeBayOut_badBay hbay), fun b hb => ⟨fun hstate => ?_,
    fun hstate => ⟨s.takeBayOut b, ?_, ?_⟩⟩⟩
  · rw [carryOut_ok h (takeBayOut_accepted hb), if_pos hstate, hstate]
    rfl
  · rw [carryOut_ok h (takeBayOut_accepted hb), if_neg hstate]
    rfl
  · rw [State.takeBayOut_eq hstate]
    refine ⟨?_, ?_, ?_, fun hleft => ?_, ?_, ?_, ?_, ?_, ?_⟩
    · rw [State.bay_hand, State.bay_takenOut hstate]
    · rw [State.faultSet_hand, State.faultSet_takenOut]
    · simp [State.takenOut]
    · simpa [State.takenOut] using State.mem_releaseFrom _ b hleft
    · simp [State.takenOut, State.notices_abort]
      rfl
    · simp [State.takenOut, State.fleet_takeOut, State.bay_releaseFrom, hstate]
    · simp [State.takenOut, State.changeSet_takeOut, State.bay_releaseFrom, hstate]
    · exact (s.takenOut_other b).trans (State.hand_other _ _ b)
    · exact ((s.takenOut_frame b).then (State.hand_frame _ _) (by decide)).mono (by decide)

/-- Settles O36: the record and the link cleared, then the bay by its last reply. -/
theorem bayRestored : Obligations.BayRestored := by
  unfold Obligations.BayRestored
  intro bay s h
  simp only [exec_restoreBay]
  refine ⟨fun hbay => carryOut_error h (r := .badBay) (restoreBay_badBay hbay), fun b hb => ⟨fun hstate =>
    carryOut_error h (r := .bayState) (restoreBay_refused hb hstate), fun hstate hpending hlinks => ?_⟩⟩
  have hu := (s.state_unlinked b).trans hstate
  obtain ⟨hlink, -, htele, hcap, hcleared⟩ :=
    State.bay_clearLink_kept (s.modFault b fun f => { f with history := [], record := .cleared }) b
  have hbay := State.bay_restart hu
  have htele' : ((s.unlinked b).bay b).tele = (s.bay b).tele := htele
  rw [htele'] at hbay
  refine ⟨s.restoreBay b, carryOut_ok h ?_, ?_⟩
  · rw [restoreBay_accepted hb hstate hpending, State.restoreBay_eq hstate, State.bay_hand, hbay]
    cases (s.bay b).tele.plug <;> rfl
  · rw [State.restoreBay_eq hstate]
    refine ⟨?_, ?_, ?_, ?_, ?_, fun hlinked => ?_, ?_, ?_, ?_, ?_, ?_, ?_, ?_⟩
    · rw [State.bay_hand, hbay]
    · rw [State.bay_hand, hbay]
    · rw [State.bay_hand, hbay]
      exact hlink
    · rw [State.bay_hand, hbay]
      exact htele
    · rw [State.bay_hand, hbay]
      exact hcap
    · rw [State.bay_hand, hbay]
      exact hcleared hlinked
    · have hpaired : (s.unlinked b).linksAgree := linksAgree_linkClosed.clearLink b (linksAgree_linkClosed.modFault b _ hlinks)
      rw [State.hand_roster, ((s.unlinked b).restart_frame b).roster (by decide)]
      exact hpaired.unnamed hlink
    · rw [State.faultSet_hand, State.faultSet_restart hu, State.unlinked, State.faultSet_clearLink,
        State.faultSet_modFault]
      rfl
    · rw [State.hand_notices, ((s.unlinked b).restart_frame b).notices (by decide), State.unlinked,
        State.clearLink_notices, State.modFault_notices]
    · rw [State.hand_fleet, State.fleet_restart hu]
      exact (State.flags_clearLink_mark _ b).1
    · rw [State.hand_changeSet, State.changeSet_restart hu]
      exact (State.flags_clearLink_mark _ b).2
    · exact (((s.modFault_other b _).trans (State.clearLink_other _ b)).trans (State.restart_other _ b)).trans
        (State.hand_other _ _ b)
    · exact ((((s.modFault_frame b _).mono (by decide)).then (State.clearLink_frame _ b) (by decide)).then
        (State.restart_frame _ b) (by decide)).then (State.hand_frame _ _) (by decide)

end Sys2Proof.Proofs
end

section

/-!
SUPPORT. The fault record and the entry into FAULT (R117 to R121, R124), with what every part of the state holds after
it. With them the expiries that enter FAULT and the misses of the Bay Link (O44, O54).
-/

namespace Sys2Proof.Machine

/-! ### The fault record (R118) -/

theorem FaultRecord.holds_iff (r : FaultRecord) (k : FaultKind) :
    r.holds k = true ↔ r.first = some k ∨ k ∈ r.later := by
  simp [FaultRecord.holds]

/-- Kinds taken one after the other, none twice, leave the fresh ones among them behind the later causes. -/
theorem FaultRecord.foldl_append (r : FaultRecord) {kinds : List FaultKind} (hnodup : kinds.Nodup) :
    kinds.foldl FaultRecord.append r = r.withFresh (r.fresh kinds) := by
  induction kinds generalizing r with
  | nil => simp [FaultRecord.withFresh, FaultRecord.fresh]
  | cons k kinds ih =>
    obtain ⟨hk, hrest⟩ := List.nodup_cons.mp hnodup
    rw [List.foldl_cons, ih _ hrest]
    by_cases hheld : r.holds k = true
    · have hfresh : r.fresh (k :: kinds) = r.fresh kinds := by
        rw [FaultRecord.fresh, List.filter_cons_of_neg]
        · rfl
        · have := (r.holds_iff k).mp hheld
          simpa using fun hfirst => this.resolve_left hfirst
      rw [hfresh, FaultRecord.append, if_pos (.inl hheld)]
    · have hnew := mt (r.holds_iff k).mpr hheld
      push Not at hnew
      have hfresh : r.fresh (k :: kinds) = k :: r.fresh kinds := by
        rw [FaultRecord.fresh, List.filter_cons_of_pos (by simpa using hnew)]
        rfl
      rw [hfresh]
      by_cases hfull : 4 ≤ r.later.length
      · rw [FaultRecord.append, if_pos (.inr hfull)]
        simp [FaultRecord.withFresh, Nat.sub_eq_zero_of_le hfull]
      · rw [FaultRecord.append, if_neg (by simp [hheld, hfull])]
        have hsame : FaultRecord.fresh { r with later := r.later ++ [k] } kinds = r.fresh kinds := by
          refine List.filter_congr fun x hx => ?_
          have hne : x ≠ k := by
            rintro rfl
            exact hk hx
          simp [hne]
        obtain ⟨room, hroom⟩ : ∃ room, 4 - r.later.length = room + 1 := ⟨3 - r.later.length, by omega⟩
        have hless : 4 - (r.later.length + 1) = room := by omega
        simp [FaultRecord.withFresh, hsame, hroom, hless]

theorem FaultRecord.any_fresh (r : FaultRecord) (kinds : List FaultKind) :
    kinds.any (fun k => !r.holds k) = true ↔ r.fresh kinds ≠ [] := by
  simp [FaultRecord.fresh, FaultRecord.holds]

/-- A new record opened over distinct causes, of which at most five are kept, holds them all. -/
theorem openRecord_eq {first : FaultKind} {others : List FaultKind} (hnodup : (first :: others).Nodup)
    (hlength : others.length ≤ 4) (now : Stamp) : openRecord first others now = ⟨.opened, some first, others, now, 0⟩ := by
  obtain ⟨hfirst, hothers⟩ := List.nodup_cons.mp hnodup
  have hfresh : FaultRecord.fresh ⟨.opened, some first, [], now, 0⟩ others = others := by
    refine List.filter_eq_self.mpr fun k hk => ?_
    have hne : first ≠ k := by
      rintro rfl
      exact hfirst hk
    simpa using hne
  rw [openRecord, FaultRecord.foldl_append _ hothers, hfresh]
  simp [FaultRecord.withFresh, List.take_of_length_le hlength]

/-! ### The entry into FAULT (R117, R124) -/

/-- Whether an entry with its causes goes on to OUT_OF_SERVICE (R124). -/
def State.goesOut (s : State) (b : BayNo) (causes : List FaultKind) : Bool :=
  causes.any s.policy.counts && decide (3 ≤ (s.historyWith b causes).length)

theorem State.goesOut_iff (s : State) (b : BayNo) (causes : List FaultKind) : s.goesOut b causes = true ↔
    (∃ k ∈ causes, s.policy.counts k = true) ∧ 3 ≤ (s.historyWith b causes).length := by
  simp [State.goesOut]

/-- The part in FAULT, before the entry is counted (steps 1 to 5 of R117). -/
def State.inFault (s : State) (b : BayNo) (first : FaultKind) (others : List FaultKind) : State :=
  ((((((s.openFault b first others).abortOrder b (faultEndCause (s.order b) first) true).stopTimers b).setBayState b
    .fault).releaseFrom b (s.bay b).state).startHold b).raiseFleet .bayFault

theorem State.enterFault_eq (s : State) (b : BayNo) (first : FaultKind) (others : List FaultKind) :
    s.enterFault b first others = (s.inFault b first others).countEntry b (first :: others) := rfl

section
variable {s : State} {b : BayNo} (first : FaultKind) (others : List FaultKind)

theorem State.bay_inFault (h : (s.bay b).state ≠ .fault) : (s.inFault b first others).bay b = { s.bay b with
    state := .fault, candidate := none, stateTimer := none, settleTimer := none, checkDue := false
    releasePending := (s.bay b).state.engaged || (s.bay b).releasePending
    releaseTimer := if (s.bay b).state.engaged then some 10 else (s.bay b).releaseTimer } := by
  simp [State.inFault, State.openFault, State.startHold, State.bay_releaseFrom, State.bay_setBayState, h,
    BayRecord.toState]

theorem State.faultSet_inFault (s : State) (b : BayNo) : (s.inFault b first others).faultSet b =
    { s.faultSet b with
      record := openRecord first others s.uptime
      hold := some s.site.hold
      tracking := if (s.bay b).state = .transfer then 0 else (s.faultSet b).tracking
      releaseTimedOut := if (s.bay b).state.engaged then false else (s.faultSet b).releaseTimedOut } := by
  by_cases htransfer : (s.bay b).state = .transfer <;>
    simp [State.inFault, State.openFault, State.startHold, State.faultSet_releaseFrom, State.faultSet_setBayState,
      htransfer]

theorem State.notices_inFault (s : State) (b : BayNo) : (s.inFault b first others).notices =
    s.notices ++ s.endNotices b (faultEndCause (s.order b) first) true := by
  simp [State.inFault, State.openFault, State.startHold, State.notices_abort]
  rfl

theorem State.fleet_inFault (h : (s.bay b).state ≠ .fault) :
    (s.inFault b first others).fleet = { s.fleet with flags := s.fleet.flags ||| 0x03#8 } := by
  rw [State.inFault, State.raiseFleet_fleet]
  simp only [State.startHold, State.modFault_fleet, State.releaseFrom_fleet]
  rw [State.fleet_setBayState _ _ _ (by simpa [State.openFault] using h)]
  simp [State.openFault, BitVec.or_assoc, fleetBit]

theorem State.changeSet_inFault (h : (s.bay b).state ≠ .fault) :
    (s.inFault b first others).changeSet = s.changeSet ||| BitVec.twoPow 16 b.val := by
  simp only [State.inFault, State.startHold, State.raiseFleet_changeSet, State.modFault_changeSet,
    State.releaseFrom_changeSet]
  rw [State.changeSet_setBayState _ _ _ (by simpa [State.openFault] using h)]
  simp [State.openFault]

theorem State.order_inFault (s : State) (b : BayNo) : (s.inFault b first others).order b = none := by
  simp [State.inFault, State.openFault, State.startHold]

theorem State.mem_inFault (h : (s.bay b).state.engaged = true) : b ∈ (s.inFault b first others).pollQueue := by
  simpa [State.inFault, State.startHold] using State.mem_releaseFrom _ b h

theorem State.modFault_id (s : State) {b : BayNo} {f : FaultSet → FaultSet} (h : f (s.faultSet b) = s.faultSet b) :
    s.modFault b f = s := by
  have hset : s.faults.set b.val (s.faultSet b) b.isLt = s.faults := Vector.set_getElem_self _
  rw [State.modFault, h, State.setFaultSet]
  exact congrArg (fun faults => { s with faults := faults }) hset

/-- The count of an entry changes the history, and takes the bay out of service at the third (R124). -/
theorem State.countEntry_eq (s : State) (b : BayNo) (causes : List FaultKind) : s.countEntry b causes =
    if s.goesOut b causes then (s.modFault b fun f => { f with history := s.historyWith b causes }).takeOut b
    else s.modFault b fun f => { f with history := s.historyWith b causes } := by
  have hhistory (hcounts : causes.any s.policy.counts = true) :
      historyAfter (s.faultSet b).history s.uptime = s.historyWith b causes := by
    rw [State.historyWith, if_pos hcounts]
    rfl
  unfold State.countEntry
  split
  next hcounts =>
    have hmod : (s.modFault b fun f => { f with history := historyAfter f.history s.uptime })
        = s.modFault b fun f => { f with history := s.historyWith b causes } := by
      rw [State.modFault, State.modFault, hhistory hcounts]
    rw [hmod, State.outAtThird, State.faultSet_modFault]
    simp [State.goesOut, hcounts]
  next hcounts =>
    have hkept : s.historyWith b causes = (s.faultSet b).history := if_neg hcounts
    rw [if_neg (by simp [State.goesOut, hcounts]), hkept]
    exact (s.modFault_id rfl).symm

theorem State.inFault_frame (s : State) (b : BayNo) : s.sameBut (s.inFault b first others) orderEndParts :=
  (((((((s.modFault_frame b _).mono (by decide)).then (State.abortOrder_frame _ b _ _) (by decide)).then
    (State.stopTimers_frame _ b) (by decide)).then (State.setBayState_frame _ b _) (by decide)).then
    (State.releaseFrom_frame _ b _) (by decide)).then (State.modFault_frame _ b _) (by decide)).then
    (State.raiseFleet_frame _ _) (by decide)

/-- What the count reads stands as it was before the entry. -/
theorem State.historyWith_inFault (s : State) (b : BayNo) (causes : List FaultKind) :
    (s.inFault b first others).historyWith b causes = s.historyWith b causes := by
  have hframe := s.inFault_frame first others b
  rw [State.historyWith, State.historyWith, State.faultSet_inFault, hframe.policy (by decide),
    hframe.uptime (by decide)]

theorem State.goesOut_inFault (s : State) (b : BayNo) (causes : List FaultKind) :
    (s.inFault b first others).goesOut b causes = s.goesOut b causes := by
  rw [State.goesOut, State.goesOut, State.historyWith_inFault, (s.inFault_frame first others b).policy (by decide)]

/-- The part in FAULT with the entry in its history, before it may go out of service. -/
def State.counted (s : State) (b : BayNo) (first : FaultKind) (others : List FaultKind) : State :=
  (s.inFault b first others).modFault b fun f => { f with history := s.historyWith b (first :: others) }

theorem State.enterFault_counted (s : State) (b : BayNo) : s.enterFault b first others =
    if s.goesOut b (first :: others) then (s.counted b first others).takeOut b else s.counted b first others := by
  rw [State.enterFault_eq, State.countEntry_eq, State.goesOut_inFault, State.historyWith_inFault]
  rfl

theorem State.state_counted (h : (s.bay b).state ≠ .fault) : ((s.counted b first others).bay b).state = .fault := by
  rw [State.counted, State.bay_modFault, State.bay_inFault first others h]

theorem State.bay_enterFault (h : (s.bay b).state ≠ .fault) : (s.enterFault b first others).bay b = { s.bay b with
    state := if s.goesOut b (first :: others) then .outOfService else .fault
    candidate := none, stateTimer := none, settleTimer := none, checkDue := false
    releasePending := (s.bay b).state.engaged || (s.bay b).releasePending
    releaseTimer := if (s.bay b).state.engaged then some 10 else (s.bay b).releaseTimer } := by
  have hcounted : (s.counted b first others).bay b = (s.inFault b first others).bay b := State.bay_modFault ..
  rw [State.enterFault_counted]
  split
  · rw [State.bay_takeOut (by simp [State.state_counted first others h]), hcounted, State.bay_inFault first others h]
  · rw [hcounted, State.bay_inFault first others h]

theorem State.faultSet_enterFault (h : (s.bay b).state ≠ .fault) : (s.enterFault b first others).faultSet b =
    { s.faultSet b with
      record := openRecord first others s.uptime
      history := s.historyWith b (first :: others)
      hold := if s.goesOut b (first :: others) then none else some s.site.hold
      tracking := if (s.bay b).state = .transfer then 0 else (s.faultSet b).tracking
      releaseTimedOut := if (s.bay b).state.engaged then false else (s.faultSet b).releaseTimedOut } := by
  rw [State.enterFault_counted]
  split
  · rw [State.faultSet_takeOut, if_neg (by simp [State.state_counted first others h]), State.counted,
      State.faultSet_modFault, State.faultSet_inFault]
  · rw [State.counted, State.faultSet_modFault, State.faultSet_inFault]

theorem State.order_enterFault (s : State) (b : BayNo) : (s.enterFault b first others).order b = none := by
  rw [State.enterFault_counted]
  split
  · rw [State.order_takeOut, State.counted, State.order_modFault, State.order_inFault]
  · rw [State.counted, State.order_modFault, State.order_inFault]

theorem State.notices_enterFault (s : State) (b : BayNo) : (s.enterFault b first others).notices =
    s.notices ++ s.endNotices b (faultEndCause (s.order b) first) true := by
  rw [State.enterFault_counted]
  split
  · rw [State.notices_takeOut, State.counted, State.modFault_notices, State.notices_inFault]
  · rw [State.counted, State.modFault_notices, State.notices_inFault]

theorem State.fleet_enterFault (h : (s.bay b).state ≠ .fault) : (s.enterFault b first others).fleet =
    { s.fleet with flags := s.fleet.flags ||| if s.goesOut b (first :: others) then 0x07#8 else 0x03#8 } := by
  have hcounted : (s.counted b first others).fleet = (s.inFault b first others).fleet := State.modFault_fleet ..
  rw [State.enterFault_counted]
  split
  · rw [State.fleet_takeOut (by simp [State.state_counted first others h]), hcounted, State.fleet_inFault first others h]
    simp [BitVec.or_assoc]
  · rw [hcounted, State.fleet_inFault first others h]

theorem State.changeSet_enterFault (h : (s.bay b).state ≠ .fault) :
    (s.enterFault b first others).changeSet = s.changeSet ||| BitVec.twoPow 16 b.val := by
  have hcounted : (s.counted b first others).changeSet = s.changeSet ||| BitVec.twoPow 16 b.val := by
    rw [State.counted, State.modFault_changeSet, State.changeSet_inFault first others h]
  rw [State.enterFault_counted]
  split
  · rw [State.changeSet_takeOut (by simp [State.state_counted first others h]), hcounted, or_mark_twice]
  · exact hcounted

theorem State.mem_enterFault (h : (s.bay b).state.engaged = true) : b ∈ (s.enterFault b first others).pollQueue := by
  rw [State.enterFault_counted]
  split
  · rw [State.pollQueue_takeOut, State.counted, State.modFault_pollQueue]
    exact State.mem_inFault first others h
  · rw [State.counted, State.modFault_pollQueue]
    exact State.mem_inFault first others h

end

/-! ### A fault reported as an event of its own (R113, R117) -/

/-- The states from which a fault takes a bay to FAULT (R113). -/
def BayState.faultable (st : BayState) : Bool := st.detecting && st != .fault && st != .outOfService

section
variable {s : State} {b : BayNo}

theorem State.takeFault_entering (h : (s.bay b).state.faultable = true) (first : FaultKind) (others : List FaultKind) :
    s.takeFault b first others = s.enterFault b first others := by
  unfold State.takeFault
  cases hstate : (s.bay b).state
  all_goals first
    | rfl
    | simp [hstate, BayState.faultable, BayState.detecting] at h

theorem BayState.faultable_ne {st : BayState} (h : st.faultable = true) : st ≠ .fault ∧ st ≠ .outOfService := by
  simp_all [BayState.faultable]

theorem handsNotice_fault {before : BayState} (h : before ≠ .fault) : handsNotice before .fault = true := by
  simp [handsNotice, h]

theorem State.reportFault_entering (h : (s.bay b).state.faultable = true) (kind : FaultKind) :
    s.reportFault b kind = (s.enterFault b kind []).hand (.change .bay) := by
  obtain ⟨hfault, hout⟩ := BayState.faultable_ne h
  rw [State.reportFault, State.takeFault_entering h]
  refine State.handIfChanged_changed ?_
  rw [State.bay_enterFault _ _ hfault]
  dsimp only
  split
  · exact handsNotice_outOfService hout
  · exact handsNotice_fault hfault

/-- A fault reported for a bay outside FAULT and OUT_OF_SERVICE enters FAULT (R117, R124). -/
theorem State.faultEntered_reportFault (h : (s.bay b).state.faultable = true) (kind : FaultKind) :
    s.faultEntered (s.reportFault b kind) b kind := by
  obtain ⟨hfault, hout⟩ := BayState.faultable_ne h
  have hgoes : s.goesOut b [kind] = true ↔ s.policy.counts kind = true ∧ 3 ≤ (s.historyWith b [kind]).length := by
    rw [State.goesOut_iff]
    simp
  rw [State.reportFault_entering h]
  unfold State.faultEntered
  simp only [← BayState.engaged_iff, ← hgoes, State.bay_hand, State.faultSet_hand, State.order_hand, State.hand_notices,
    State.hand_fleet, State.hand_changeSet, State.hand_pollQueue, State.bay_enterFault _ _ hfault,
    State.faultSet_enterFault _ _ hfault, State.order_enterFault, State.notices_enterFault,
    State.fleet_enterFault _ _ hfault, State.changeSet_enterFault _ _ hfault]
  refine ⟨rfl, trivial, fun ho => ?_, fun ho => ?_, trivial, ⟨trivial, trivial, trivial⟩, ⟨trivial, trivial, trivial⟩,
    fun hengaged => ?_, fun hengaged => ?_, trivial, fun ho => ?_, fun ho => ?_, fun hnone => ?_, fun o ho => ?_,
    (s.enterFault_other b kind []).trans (State.hand_other _ _ b)⟩
  · simp [ho]
  · simp [ho]
  · simp [hengaged, State.mem_enterFault kind [] hengaged]
  · simp [hengaged]
  · simp [ho]
  · simp [ho]
  · rw [State.endNotices_none hnone, List.append_nil]
  · rw [State.endNotices_some ho, ho, List.append_assoc]
    rfl

end

/-! ### Faults of a bay already in FAULT or out of service (R119, R120) -/

section
variable {s : State} {b : BayNo}

theorem State.takeFault_undetected (h : (s.bay b).state = .empty ∨ (s.bay b).state = .detected) (first : FaultKind)
    (others : List FaultKind) : s.takeFault b first others = s := by
  unfold State.takeFault
  obtain h | h := h <;> rw [h]

theorem State.takeFault_fault (h : (s.bay b).state = .fault) (first : FaultKind) (others : List FaultKind) :
    s.takeFault b first others = s.faultInFault b (first :: others) := by
  simp only [State.takeFault, h]

theorem State.takeFault_out (h : (s.bay b).state = .outOfService) (first : FaultKind) (others : List FaultKind) :
    s.takeFault b first others = s.faultInOut b first others := by
  simp only [State.takeFault, h]

theorem State.faultInFault_fresh {kinds : List FaultKind} (hnodup : kinds.Nodup)
    (h : (s.faultSet b).record.fresh kinds ≠ []) : s.faultInFault b kinds = (s.setFaultSet b { s.faultSet b with
      record := (s.faultSet b).record.withFresh ((s.faultSet b).record.fresh kinds)
      hold := some s.site.hold }).raiseFleet .bayFault := by
  rw [State.faultInFault, if_pos ((FaultRecord.any_fresh _ _).mpr h), FaultRecord.foldl_append _ hnodup]

theorem State.faultInFault_held {kinds : List FaultKind} (h : (s.faultSet b).record.fresh kinds = []) :
    s.faultInFault b kinds = s := by
  rw [State.faultInFault, if_neg (fun hany => (FaultRecord.any_fresh _ _).mp hany h)]

theorem State.faultInOut_fresh {first : FaultKind} {others : List FaultKind} (hnodup : (first :: others).Nodup)
    (hopen : (s.faultSet b).record.status = .opened) (h : (s.faultSet b).record.fresh (first :: others) ≠ []) :
    s.faultInOut b first others = (s.setFaultSet b { s.faultSet b with
      record := (s.faultSet b).record.withFresh ((s.faultSet b).record.fresh (first :: others)) }).raiseFleet
      .bayFault := by
  rw [State.faultInOut, if_pos hopen, if_pos ((FaultRecord.any_fresh _ _).mpr h), FaultRecord.foldl_append _ hnodup]

theorem State.faultInOut_held {first : FaultKind} {others : List FaultKind}
    (hopen : (s.faultSet b).record.status = .opened) (h : (s.faultSet b).record.fresh (first :: others) = []) :
    s.faultInOut b first others = s := by
  rw [State.faultInOut, if_pos hopen, if_neg (fun hany => (FaultRecord.any_fresh _ _).mp hany h)]

theorem State.faultInOut_new {first : FaultKind} {others : List FaultKind}
    (hopen : (s.faultSet b).record.status ≠ .opened) : s.faultInOut b first others =
    (s.setFaultSet b { s.faultSet b with record := openRecord first others s.uptime }).raiseFleet .bayFault := by
  rw [State.faultInOut, if_neg hopen]

/-- A fault that leaves the bay's state leaves its notices too (R24). -/
theorem State.reportFault_staying {t : State} {kind : FaultKind} (ht : s.takeFault b kind [] = t)
    (hstate : (t.bay b).state = (s.bay b).state) : s.reportFault b kind = t := by
  rw [State.reportFault, ht]
  exact State.handIfChanged_kept (by rw [hstate]; exact handsNotice_self _)

end

/-! ### The expiries that report a fault (R26, R34) -/

theorem exec_bindingTimerExpiry (b : BayNo) (s : State) : exec (.bindingTimerExpiry b) s =
    if (s.bay b).state = .binding ∧ (s.bay b).stateTimer = some 0 then .next (s.reportFault b .prechargeTimeout)
    else .next s := rfl

theorem exec_checkTimerExpiry (b : BayNo) (s : State) : exec (.checkTimerExpiry b) s =
    if (s.bay b).state = .checking ∧ (s.bay b).stateTimer = some 0 then .next (s.reportFault b .isolation)
    else .next s := rfl

/-! ### Misses (R116, R137, R141) -/

theorem State.miss_early {s : State} {b : BayNo} (h : (s.line b).miss ≠ 2) : s.miss b = s.countMiss b := if_neg h

theorem Exchange.accepts_iff (x : Exchange) (bytes : List Byte) (framing : Bool) : x.accepts bytes framing = true ↔
    framing = false ∧ crc8 (bytes.take 13) = byteAt bytes 13
      ∧ (byteAt bytes 0).toNat = 16 * x.bay.val + x.seq.toNat := by
  have haddress : byteAt bytes 0 = addressByte x.bay x.seq
      ↔ (byteAt bytes 0).toNat = 16 * x.bay.val + x.seq.toNat := by
    rw [← toNat_addressByte, BitVec.toNat_inj]
  rw [← haddress]
  simp [Exchange.accepts, and_assoc]

/-- An event that ends the exchange the part listens in as a miss (R137, R138). -/
def Exchange.missedBy (x : Exchange) (c : Instr) : Prop :=
  c = .replyStartTimeout ∨ (∃ received, c = .replyIncompleteTimeout received)
    ∨ ∃ bytes framing, c = .replyReceived bytes framing ∧ bytes.length = 14 ∧ (framing = true
        ∨ crc8 (bytes.take 13) ≠ byteAt bytes 13 ∨ (byteAt bytes 0).toNat ≠ 16 * x.bay.val + x.seq.toNat)

theorem State.endAsMiss_listening {s : State} {x : Exchange} (h : s.exchange = some x) (hx : x.listening = true) :
    s.endAsMiss = { s with exchange := none }.miss x.bay := by
  simp only [State.endAsMiss, h, if_pos hx]

theorem exec_missed {s : State} {x : Exchange} {c : Instr} (h : s.exchange = some x) (hx : x.listening = true)
    (hc : x.missedBy c) : exec c s = .next ({ s with exchange := none }.miss x.bay) := by
  obtain rfl | ⟨received, rfl⟩ | ⟨bytes, framing, rfl, hlength, hbad⟩ := hc
  · exact congrArg Host.Outcome.next (State.endAsMiss_listening h hx)
  · exact congrArg Host.Outcome.next (State.endAsMiss_listening h hx)
  · have hrejected : ¬ x.accepts bytes framing = true := by
      rw [Exchange.accepts_iff]
      rintro ⟨hframing, hcrc, haddress⟩
      obtain hbad | hbad | hbad := hbad
      · rw [hframing] at hbad
        cases hbad
      · exact hbad hcrc
      · exact hbad haddress
    change execReplyReceived bytes framing s = _
    simp only [execReplyReceived, h, if_pos (And.intro hx hlength), if_neg hrejected]

/-- Outside an exchange the part listens in, nothing of the line has an effect (R142). -/
theorem exec_unheard {s : State} {c : Instr} (h : ∀ x, s.exchange = some x → x.listening = false)
    (hc : c = .replyStartTimeout ∨ (∃ received, c = .replyIncompleteTimeout received)
      ∨ ∃ bytes framing, c = .replyReceived bytes framing) : exec c s = .next s := by
  have hmiss : s.endAsMiss = s := by
    unfold State.endAsMiss
    split
    next x hx => rw [if_neg (by simp [h x hx])]
    next => rfl
  obtain rfl | ⟨received, rfl⟩ | ⟨bytes, framing, rfl⟩ := hc
  · exact congrArg Host.Outcome.next hmiss
  · exact congrArg Host.Outcome.next hmiss
  · change execReplyReceived bytes framing s = _
    unfold execReplyReceived
    split
    next x hx => rw [if_neg (by simp [h x hx])]
    next => rfl

end Sys2Proof.Machine

namespace Sys2Proof.Proofs

open Sys2Proof.Machine

/-- Settles O44: both timers report a fault of a bay that enters FAULT. -/
theorem timerFaultsEnter : Obligations.TimerFaultsEnter := by
  unfold Obligations.TimerFaultsEnter
  intro b s
  rw [exec_bindingTimerExpiry, exec_checkTimerExpiry]
  refine ⟨fun hstate htimer => ⟨_, if_pos ⟨hstate, htimer⟩, State.faultEntered_reportFault ?_ _,
      (s.reportFault_frame b _).mono (by decide)⟩,
    fun hstate htimer => ⟨_, if_pos ⟨hstate, htimer⟩, State.faultEntered_reportFault ?_ _,
      (s.reportFault_frame b _).mono (by decide)⟩,
    fun h => if_neg (not_and_or.mpr h), fun h => if_neg (not_and_or.mpr h)⟩
  · rw [hstate]
    rfl
  · rw [hstate]
    rfl

/-- Settles O54: a miss is counted, and the third is a LINK_LOST taken by the bay's state. -/
theorem missesCountToLinkLost : Obligations.MissesCountToLinkLost := by
  unfold Obligations.MissesCountToLinkLost
  refine fun c s => ⟨fun x hx hlistening hc => ?_, exec_unheard⟩
  rw [exec_missed hx hlistening hc]
  intro b counted
  have hthird (hmiss : (s.line b).miss = 2) :
      { s with exchange := none }.miss x.bay = counted.reportFault b .linkLost :=
    State.miss_third (s := { s with exchange := none }) hmiss
  refine ⟨fun hearly => ?_, fun hmiss hempty hdetected hfault hout => ?_, fun hmiss hstate => ⟨fun hheld => ?_,
    fun hfresh => ?_⟩, fun hmiss hstate => ⟨fun hopen hheld => ?_, fun hopen hfresh => ?_, fun hopen => ?_⟩⟩
  · by_cases hmiss : (s.line b).miss = 2
    · rw [hthird hmiss]
      have hstate := hearly.resolve_left (not_not.mpr hmiss)
      exact congrArg Host.Outcome.next
        (State.reportFault_staying (State.takeFault_undetected (s := counted) hstate _ _) rfl)
    · exact congrArg Host.Outcome.next (State.miss_early (s := { s with exchange := none }) hmiss)
  · rw [hthird hmiss]
    refine ⟨_, rfl, State.faultEntered_reportFault ?_ _, (State.reportFault_frame _ b _).mono (by decide)⟩
    change (s.bay b).state.faultable = true
    cases hstate : (s.bay b).state <;> simp_all [BayState.faultable, BayState.detecting]
  all_goals rw [hthird hmiss]; refine congrArg Host.Outcome.next (State.reportFault_staying ?_ rfl)
  · exact (State.takeFault_fault (s := counted) hstate _ _).trans (State.faultInFault_held hheld)
  · exact (State.takeFault_fault (s := counted) hstate _ _).trans
      (State.faultInFault_fresh (List.nodup_singleton _) hfresh)
  · exact (State.takeFault_out (s := counted) hstate _ _).trans (State.faultInOut_held hopen hheld)
  · exact (State.takeFault_out (s := counted) hstate _ _).trans
      (State.faultInOut_fresh (List.nodup_singleton _) hopen hfresh)
  · exact (State.takeFault_out (s := counted) hstate _ _).trans (State.faultInOut_new hopen)

end Sys2Proof.Proofs
end

section

/-!
SUPPORT. The entry into PARKED with its link test, the first step of an order, the release timeout and the exit test of
FAULT, with the expiries that start them (O43, O45).
-/

namespace Sys2Proof.Machine

/-! ### Links formed (R7, R21) -/

/-- A record found by its number is found with its new bay link. -/
theorem State.vehicle?_modVehicle {s : State} {n : Nat} {v : Vehicle} {f : Vehicle → Vehicle}
    (hf : ∀ v, (f v).number = v.number) (hv : s.vehicle? n = some v) : (s.modVehicle n f).vehicle? n = some (f v) := by
  have hkeeps : ((fun x : Vehicle => x.number == n) ∘ fun x => if x.number == n then f x else x)
      = fun x => x.number == n := by
    funext x
    by_cases hx : x.number = n <;> simp [hx, hf]
  have hfind : s.roster.find? (fun x => x.number == n) = some v := hv
  rw [State.vehicle?, State.modVehicle, List.find?_map, hkeeps, hfind]
  simp [(State.vehicle?_number hv).2]

section
variable {s : State} {b : BayNo} {v : Vehicle}

theorem State.bay_linkBay (hv : s.vehicle? v.number = some v) : (s.linkBay b v).bay b = { s.bay b with
    link := some v.number, guardArmed := true, tempCap := s.tempCapOf b (s.bay b).ratedCap
    capEff := min (s.bay b).ratedCap (min v.pDis (s.tempCapOf b (s.bay b).ratedCap))
    tele := { (s.bay b).tele with energy := min (s.bay b).tele.energy v.capacity } } := by
  rw [State.linkBay, State.bay_markBay, State.bay_recomputeCaps]
  have hlinked : ((s.modVehicle v.number fun x => { x with bayLink := some b }).modBay b fun r => { r with
      link := some v.number, guardArmed := true
      tele := { r.tele with energy := min r.tele.energy v.capacity } }).linkedVehicle? b
      = some { v with bayLink := some b } := by
    rw [State.linkedVehicle?, State.bay_modBay]
    exact State.vehicle?_modVehicle (fun _ => rfl) hv
  simp only [State.effCapOf, hlinked]
  simp [State.tempCapOf]

theorem State.fleet_linkBay (s : State) (b : BayNo) (v : Vehicle) :
    (s.linkBay b v).fleet = { s.fleet with flags := s.fleet.flags ||| fleetBit .bayChange } := by
  simp [State.linkBay, State.recomputeCaps]

theorem State.changeSet_linkBay (s : State) (b : BayNo) (v : Vehicle) :
    (s.linkBay b v).changeSet = s.changeSet ||| BitVec.twoPow 16 b.val := by
  simp [State.linkBay, State.recomputeCaps]

theorem State.linkedVehicle?_linkBay (hv : s.vehicle? v.number = some v) :
    (s.linkBay b v).linkedVehicle? b = some { v with bayLink := some b } := by
  rw [State.linkedVehicle?, State.bay_linkBay hv]
  exact State.vehicle?_modVehicle (fun _ => rfl) hv

/-! ### The link test (R21) -/

theorem State.testLink_linked {n : Nat} (h : (s.bay b).link = some n) : s.testLink b = s := by
  simp only [State.testLink, h]

theorem State.testLink_known (h : (s.bay b).link = none) (hv : s.vehicle? (s.bay b).tele.vehicle = some v)
    (hfree : v.bayLink = none) (hconsent : v.consent = true) : s.testLink b = s.linkBay b v := by
  simp only [State.testLink, h, hv, if_pos (And.intro hfree hconsent)]

theorem State.testLink_unknown (h : (s.bay b).link = none)
    (hv : ∀ v, s.vehicle? (s.bay b).tele.vehicle = some v → v.consent = false ∨ v.bayLink ≠ none) :
    s.testLink b = s.raiseFleet .vehicleUnknown := by
  unfold State.testLink
  rw [h]
  cases hfound : s.vehicle? (s.bay b).tele.vehicle with
  | none => rfl
  | some v =>
    refine if_neg fun hfree => ?_
    obtain hconsent | hlinked := hv v hfound
    · simp [hfree.2] at hconsent
    · exact hlinked hfree.1

/-- The three outcomes of a link test. -/
theorem State.testLink_cases (s : State) (b : BayNo) :
    ((∃ n, (s.bay b).link = some n) ∧ s.testLink b = s)
    ∨ ((s.bay b).link = none ∧ ∃ v, s.vehicle? (s.bay b).tele.vehicle = some v ∧ v.bayLink = none ∧ v.consent = true
        ∧ s.testLink b = s.linkBay b v)
    ∨ ((s.bay b).link = none ∧ (∀ v, s.vehicle? (s.bay b).tele.vehicle = some v → v.consent = false ∨ v.bayLink ≠ none)
        ∧ s.testLink b = s.raiseFleet .vehicleUnknown) := by
  cases hlink : (s.bay b).link with
  | some n => exact .inl ⟨⟨n, rfl⟩, State.testLink_linked hlink⟩
  | none =>
    by_cases hknown : ∃ v, s.vehicle? (s.bay b).tele.vehicle = some v ∧ v.bayLink = none ∧ v.consent = true
    · obtain ⟨v, hv, hfree, hconsent⟩ := hknown
      exact .inr (.inl ⟨rfl, v, hv, hfree, hconsent, State.testLink_known hlink hv hfree hconsent⟩)
    · have hunknown : ∀ v, s.vehicle? (s.bay b).tele.vehicle = some v → v.consent = false ∨ v.bayLink ≠ none := by
        intro v hv
        by_contra hnot
        push Not at hnot
        exact hknown ⟨v, hv, hnot.2, by simpa using hnot.1⟩
      exact .inr (.inr ⟨rfl, hunknown, State.testLink_unknown hlink hunknown⟩)

end

/-! ### The entry into PARKED (R21) -/

/-- A bay in PARKED, before its link is tested. -/
def State.parks (s : State) (b : BayNo) : State := (s.modBay b fun r => { r with stateTimer := none }).setBayState b .parked

section
variable {s : State} {b : BayNo}

theorem State.bay_parks (h : (s.bay b).state ≠ .parked) : (s.parks b).bay b = { s.bay b with
    state := .parked, candidate := none, stateTimer := none } := by
  simp [State.parks, State.bay_setBayState, h, BayRecord.toState]

theorem State.fleet_parks (h : (s.bay b).state ≠ .parked) :
    (s.parks b).fleet = { s.fleet with flags := s.fleet.flags ||| fleetBit .bayChange } := by
  rw [State.parks, State.fleet_setBayState _ _ _ (by simpa using h)]
  rfl

@[simp] theorem State.roster_parks (s : State) (b : BayNo) : (s.parks b).roster = s.roster := by
  simp [State.parks]

theorem State.vehicle?_parks (s : State) (b : BayNo) (n : Nat) : (s.parks b).vehicle? n = s.vehicle? n := by
  rw [State.vehicle?, State.roster_parks]
  rfl

theorem State.enterParked_eq (s : State) (b : BayNo) : s.enterParked b = (s.parks b).testLink b := rfl

/-- What an entry into PARKED leaves at the bay beside its link (R21). -/
theorem State.bay_enterParked (h : (s.bay b).state ≠ .parked) : ((s.enterParked b).bay b).state = .parked
    ∧ ((s.enterParked b).bay b).stateTimer = none ∧ ((s.enterParked b).bay b).candidate = none
    ∧ ((s.enterParked b).bay b).tele.vehicle = (s.bay b).tele.vehicle := by
  have hparks := State.bay_parks h
  rw [State.enterParked_eq]
  obtain ⟨-, ht⟩ | ⟨-, v, hv, -, -, ht⟩ | ⟨-, -, ht⟩ := (s.parks b).testLink_cases b
  · rw [ht, hparks]
    exact ⟨rfl, rfl, rfl, rfl⟩
  · rw [ht, State.bay_linkBay (by rw [(State.vehicle?_number hv).2]; exact hv), hparks]
    exact ⟨rfl, rfl, rfl, rfl⟩
  · rw [ht, State.bay_raiseFleet, hparks]
    exact ⟨rfl, rfl, rfl, rfl⟩

theorem State.faultSet_enterParked (h : (s.bay b).state ≠ .transfer) : (s.enterParked b).faultSet b = s.faultSet b := by
  rw [State.enterParked_eq, State.faultSet_testLink, State.parks, State.faultSet_setBayState]
  simp [h]

/-- The link test of an entry into PARKED from another state (R21, R36). -/
theorem State.parkedLink_enterParked (h : (s.bay b).state ≠ .parked) : s.parkedLink (s.enterParked b) b := by
  have hparks := State.bay_parks h
  have hlink : ((s.parks b).bay b).link = (s.bay b).link := by rw [hparks]
  have hnumber : ((s.parks b).bay b).tele.vehicle = (s.bay b).tele.vehicle := by rw [hparks]
  have hfleet := State.fleet_parks h
  have hreported := (State.bay_enterParked h).2.2.2
  unfold State.parkedLink
  rw [hreported, State.enterParked_eq]
  refine ⟨fun n hn => ?_, fun hnone v hv hconsent hfree => ?_, fun hnone hv => ?_⟩
  · rw [State.testLink_linked (hlink.trans hn)]
    exact ⟨hlink.trans hn, s.roster_parks b, by rw [hfleet]; rfl⟩
  · have hv' : (s.parks b).vehicle? ((s.parks b).bay b).tele.vehicle = some v := by
      rw [State.vehicle?_parks, hnumber, hv]
    have hown : (s.parks b).vehicle? v.number = some v := by rw [(State.vehicle?_number hv').2]; exact hv'
    rw [State.testLink_known (hlink.trans hnone) hv' hfree hconsent]
    refine ⟨?_, ?_, ?_, ?_, State.linkedVehicle?_linkBay hown, ?_⟩
    · rw [State.bay_linkBay hown, (State.vehicle?_number hv').2, hnumber]
    · rw [State.bay_linkBay hown]
    · rw [State.bay_linkBay hown]
      exact Nat.min_le_right _ _
    · rw [State.bay_linkBay hown]
    · rw [State.fleet_linkBay, hfleet]
      exact or_bayChange_twice _
  · rw [State.testLink_unknown (hlink.trans hnone) (by rw [hnumber]; simpa only [State.vehicle?_parks] using hv)]
    refine ⟨hlink.trans hnone, s.roster_parks b, ?_⟩
    rw [State.raiseFleet_fleet, hfleet]
    exact BitVec.or_assoc ..

/-- The link test reads and writes only the bay, the roster and the fleet port's flags. -/
theorem State.parkedLink.congr {s s' t t' : State} {b : BayNo} (h : s.parkedLink t b)
    (hlink : (s'.bay b).link = (s.bay b).link) (hroster : s'.roster = s.roster) (hfleet : s'.fleet.flags = s.fleet.flags)
    (hbay' : t'.bay b = t.bay b) (hroster' : t'.roster = t.roster) (hfleet' : t'.fleet.flags = t.fleet.flags) :
    s'.parkedLink t' b := by
  unfold State.parkedLink State.linkedVehicle? State.vehicle? at h ⊢
  rwa [hlink, hroster, hfleet, hbay', hroster', hfleet']

end

/-! ### The first step (R97, R102) -/

/-- The set-point of a first step. -/
def State.firstSetPoint (s : State) (b : BayNo) (o : Order) : Nat := min (s.profileOf o.request).ps
  (min (s.bay b).capEff (min (o.quota - o.delivered) (s.site.limit - ((allBays.filter (· ≠ b)).map s.setPoint).sum)))

theorem State.limitSetPoint_floor (s : State) (b : BayNo) (o : Order) :
    s.limitSetPoint b o (s.profileOf o.request).ps = s.firstSetPoint b o := by
  have hfilter : allBays.filter (· != b) = allBays.filter (· ≠ b) :=
    List.filter_congr fun c _ => by simp [bne, beq_eq_decide]
  rw [State.limitSetPoint, State.headroom, hfilter]
  rfl

section
variable {s : State} {b : BayNo} {o : Order}

theorem State.bay_firstStep (h : (s.bay b).state ≠ .transfer) (o : Order) :
    (s.firstStep b o).bay b = { s.bay b with state := .transfer, candidate := none } := by
  simp [State.firstStep, State.bay_setBayState, h, BayRecord.toState]

theorem State.order_firstStep (s : State) (b : BayNo) (o : Order) : (s.firstStep b o).order b = some { o with
    delivered := o.delivered + s.firstSetPoint b o, level := s.firstSetPoint b o
    phase := if s.firstSetPoint b o = o.target then .hold else .rise, stepDue := false } := by
  simp [State.firstStep, State.firstOrder, State.limitSetPoint_floor, Order.issued]

/-- A first step reads a bay's cap, the set-points and the profile, none of which the settle timer changes. -/
theorem State.firstSetPoint_modBay {f : BayRecord → BayRecord} (hcore : ∀ r, (f r).state = r.state)
    (hcap : ∀ r, (f r).capEff = r.capEff) (o : Order) : (s.modBay b f).firstSetPoint b o = s.firstSetPoint b o := by
  have hpoints (c : BayNo) : (s.modBay b f).setPoint c = s.setPoint c := by
    refine State.setPoint_congr ?_ rfl
    by_cases hc : c = b
    · rw [hc, State.bay_modBay, hcore]
    · rw [State.bay_modBay_ne _ _ hc]
  rw [State.firstSetPoint, State.firstSetPoint, List.map_congr_left fun c _ => hpoints c, State.bay_modBay, hcap]
  rfl

theorem State.mem_firstStep (s : State) (b : BayNo) (o : Order) : b ∈ (s.firstStep b o).pollQueue := State.mem_join _ b

end

/-! ### The expiries (R27, R30 to R33) -/

/-- A bay with its settle timer stopped (R27). -/
def State.settleStopped (s : State) (b : BayNo) : State := s.modBay b fun r => { r with settleTimer := none }

theorem State.bay_settleStopped (s : State) (b : BayNo) :
    (s.settleStopped b).bay b = { s.bay b with settleTimer := none } := State.bay_modBay ..

theorem State.firstSetPoint_settleStopped (s : State) (b : BayNo) (o : Order) :
    (s.settleStopped b).firstSetPoint b o = s.firstSetPoint b o :=
  State.firstSetPoint_modBay (f := fun r => { r with settleTimer := none }) (fun _ => rfl) (fun _ => rfl) o

theorem State.settleStopped_frame (s : State) (b : BayNo) : s.sameBut (s.settleStopped b) [.bays] := s.modBay_frame b _

theorem State.settleStopped_other (s : State) (b : BayNo) : s.otherBays (s.settleStopped b) b := s.modBay_other b _

theorem exec_checkDue (b : BayNo) (s : State) : exec (.checkDue b) s = execCheckDue b s := rfl

theorem exec_deferralLimit (b : BayNo) (s : State) : exec (.deferralLimit b) s =
    if (s.bay b).state = .transfer ∧ 1800 ≤ (s.bay b).interval then .next (s.declineBay b .isolationDue)
    else .next s := rfl

theorem exec_settleExpiry (b : BayNo) (s : State) : exec (.settleExpiry b) s =
    if (s.bay b).settleTimer = some 0 then .next ((s.settleStopped b).settled b)
    else .next s := rfl

theorem exec_cooldownExpiry (b : BayNo) (s : State) : exec (.cooldownExpiry b) s =
    if (s.bay b).state = .cooldown ∧ (s.bay b).stateTimer = some 0 then .next (s.enterParked b) else .next s := rfl

section
variable {s : State} {b : BayNo}

theorem exec_checkDue_idle (h : (s.bay b).interval < 900 ∨ (s.bay b).checkDue = true) :
    exec (.checkDue b) s = .next s := by
  refine if_neg ?_
  rintro ⟨hle, hdue⟩
  obtain h | h := h
  · exact absurd hle (Nat.not_le.mpr h)
  · simp [hdue] at h

/-- A check that is due starts at once in BOUND (R32). -/
def State.checkStarted (s : State) (b : BayNo) : State :=
  (s.modBay b fun r => { r with checkDue := true }).startCheck b

theorem exec_checkDue_due (hinterval : 900 ≤ (s.bay b).interval) (hdue : (s.bay b).checkDue = false) :
    ((s.bay b).state = .bound → (s.bay b).settleTimer ≠ none → exec (.checkDue b) s = .next s)
    ∧ ((s.bay b).state = .bound → (s.bay b).settleTimer = none → exec (.checkDue b) s = .next (s.checkStarted b))
    ∧ ((s.bay b).state = .transfer →
      exec (.checkDue b) s = .next (s.modBay b fun r => { r with checkDue := true })) := by
  have hstands : checkInterval ≤ (s.bay b).interval ∧ (s.bay b).checkDue = false := ⟨hinterval, hdue⟩
  refine ⟨fun hstate hsettle => ?_, fun hstate hsettle => ?_, fun hstate => ?_⟩
  · simp only [exec_checkDue, execCheckDue, if_pos hstands, hstate, Option.isSome_iff_ne_none, if_pos hsettle]
  · simp only [exec_checkDue, execCheckDue, if_pos hstands, hstate, hsettle, Option.isSome_none]
    rfl
  · simp only [exec_checkDue, execCheckDue, if_pos hstands, hstate]

theorem State.bay_checkStarted (hstate : (s.bay b).state = .bound) (hdue : (s.bay b).checkDue = false) :
    (s.checkStarted b).bay b = { s.bay b with state := .checking, candidate := none, stateTimer := some 15 } := by
  rw [State.checkStarted, State.bay_startCheck _ _ (by simp [hstate]), State.bay_modBay]
  simp [← hdue, checkTime]

theorem State.settled_cases (s : State) (b : BayNo) :
    ((∀ o, s.order b = some o → (s.bay b).state = .bound → o.phase ≠ .waitBind) ∧ s.settled b = s)
    ∨ ∃ o, s.order b = some o ∧ (s.bay b).state = .bound ∧ o.phase = .waitBind ∧ s.settled b = s.firstStep b o := by
  unfold State.settled
  split
  next o hstate ho =>
    split
    next hphase => exact .inr ⟨o, ho, hstate, hphase, rfl⟩
    next hphase =>
      refine .inl ⟨fun o' ho' _ => ?_, rfl⟩
      cases ho.symm.trans ho'
      exact hphase
  next hnone => exact .inl ⟨fun o ho hstate => (hnone o hstate ho).elim, rfl⟩

end

end Sys2Proof.Machine

namespace Sys2Proof.Proofs

open Sys2Proof.Machine

/-- Settles O43: each expiry on the bay it stands at. -/
theorem bayTimersExpire : Obligations.BayTimersExpire := by
  unfold Obligations.BayTimersExpire
  intro b s
  rw [exec_deferralLimit, exec_settleExpiry, exec_cooldownExpiry]
  refine ⟨exec_checkDue_idle, fun hinterval hdue => ?_, fun hinterval hstate o ho hphase => ?_, fun h => if_neg ?_,
    fun hsettle => ⟨_, if_pos hsettle, ?_⟩, fun hstate htimer => ⟨_, if_pos ⟨hstate, htimer⟩, ?_⟩, fun h => if_neg h,
    fun h => if_neg (not_and_or.mpr h)⟩
  · obtain ⟨hwaits, hstarts, hmarks⟩ := exec_checkDue_due hinterval hdue
    refine ⟨hwaits, fun hstate hsettle => ⟨_, hstarts hstate hsettle, State.bay_checkStarted hstate hdue,
      State.mem_startCheck _ b, (s.modBay_other b _).trans (State.startCheck_other _ b), ?_, ?_⟩, hmarks⟩
    · simp [State.checkStarted]
    · have hframe : s.sameBut (s.checkStarted b) releaseParts :=
        ((s.modBay_frame b _).mono (by decide)).then (State.startCheck_frame _ b) (by decide)
      exact hframe.mono (by decide)
  · rw [if_pos ⟨hstate, hinterval⟩, State.declineBay_running ho hphase]
    have hcauses : (o.releaseAtEnd || EndCause.isolationDue == .departureGuard || EndCause.isolationDue == .withdrawn)
        = o.releaseAtEnd := by
      cases o.releaseAtEnd <;> rfl
    simp [Order.declineFor, cutTime, hcauses]
  · rintro ⟨hstate, hinterval⟩
    obtain h | h := h
    · exact absurd hinterval (Nat.not_le.mpr h)
    · exact h hstate
  · have hbay := s.bay_settleStopped b
    have hstopped : s.sameBut (s.settleStopped b) (.orders :: releaseParts) := (s.settleStopped_frame b).mono (by decide)
    obtain ⟨hwaits, ht⟩ | ⟨o, ho, hstate, hphase, ht⟩ := (s.settleStopped b).settled_cases b
    · rw [ht]
      refine ⟨by rw [hbay], s.settleStopped_other b, fun o ho hstate hphase => ?_, fun hnone => ⟨hbay, hnone,
        s.settleStopped_frame b⟩, hstopped.mono (by decide)⟩
      exact (hwaits o ho (by rw [hbay]; exact hstate) hphase).elim
    · have hne : ((s.settleStopped b).bay b).state ≠ .transfer := by simp [hstate]
      rw [ht]
      refine ⟨?_, (s.settleStopped_other b).trans (State.firstStep_other _ b o), fun o' ho' _ _ => ⟨_, rfl, ?_, ?_,
        State.mem_firstStep _ b o⟩, fun hnone => ?_, ?_⟩
      · rw [State.bay_firstStep hne, hbay]
      · rw [State.bay_firstStep hne, hbay]
      · cases (show s.order b = some o from ho).symm.trans ho'
        rw [State.order_firstStep, State.firstSetPoint_settleStopped]
        rfl
      · cases ho.symm.trans hnone
      · exact (((hstopped.then (State.setOrder_frame _ b _) (by decide)).then
          (State.setBayState_frame _ b .transfer) (by decide)).then (State.join_frame _ b) (by decide)).mono (by decide)
  · have hne : (s.bay b).state ≠ .parked := by simp [hstate]
    obtain ⟨hparked, hstopped, -, -⟩ := State.bay_enterParked hne
    exact ⟨hparked, hstopped, s.enterParked_other b, State.parkedLink_enterParked hne, s.enterParked_frame b⟩

end Sys2Proof.Proofs
end

section

/-!
SUPPORT. The release timeout by the bay's state (R125) and the exit test of FAULT (R122), with their expiries (O45).
-/

namespace Sys2Proof.Machine

/-! ### The release timeout (R30, R125) -/

/-- A bay sent out of service with a fault record, and its event (R125). -/
def State.sentOut (s : State) (b : BayNo) (r : FaultRecord) : State :=
  ((s.modFault b fun f => { f with record := r }).takeOut b).raiseFleet .bayFault

theorem exec_releaseTimerExpiry (b : BayNo) (s : State) : exec (.releaseTimerExpiry b) s =
    if (s.bay b).releasePending = true ∧ (s.bay b).releaseTimer = some 0 then .next (s.releaseTimeout b)
    else .next s := rfl

theorem State.bay_restartRelease (s : State) (b : BayNo) :
    (s.restartRelease b).bay b = { s.bay b with releaseTimer := some 10 } := by
  simp [State.restartRelease, releaseTime]

theorem State.faultSet_restartRelease (s : State) (b : BayNo) :
    (s.restartRelease b).faultSet b = { s.faultSet b with releaseTimedOut := true } := by
  simp [State.restartRelease]

theorem State.restartRelease_frame (s : State) (b : BayNo) : s.sameBut (s.restartRelease b) [.bays, .faults] :=
  ((s.modBay_frame b _).mono (by decide)).then (State.modFault_frame _ b _) (by decide)

theorem State.restartRelease_other (s : State) (b : BayNo) : s.otherBays (s.restartRelease b) b :=
  (s.modBay_other b _).trans (State.modFault_other _ b _)

section
variable {s : State} {b : BayNo}

theorem State.takeReleaseTimeout_releasing (h : (s.bay b).state = .releasing) :
    s.takeReleaseTimeout b = s.sentOut b ⟨.opened, some .releaseTimeout, [], s.uptime, 0⟩ := by
  simp only [State.takeReleaseTimeout, h]
  rfl

theorem State.takeReleaseTimeout_fault (h : (s.bay b).state = .fault) :
    s.takeReleaseTimeout b = s.sentOut b ((s.faultSet b).record.append .releaseTimeout) := by
  simp only [State.takeReleaseTimeout, h]
  rfl

theorem State.takeReleaseTimeout_out (h : (s.bay b).state = .outOfService) : s.takeReleaseTimeout b =
    if (s.faultSet b).releaseTimedOut then s else s.faultInOut b .releaseTimeout [] := by
  simp only [State.takeReleaseTimeout, h]

theorem State.takeReleaseTimeout_other_state (hreleasing : (s.bay b).state ≠ .releasing)
    (hfault : (s.bay b).state ≠ .fault) (hout : (s.bay b).state ≠ .outOfService) : s.takeReleaseTimeout b = s := by
  unfold State.takeReleaseTimeout
  cases hstate : (s.bay b).state
  all_goals first
    | rfl
    | contradiction

theorem State.bay_sentOut (h : (s.bay b).state ≠ .outOfService) (r : FaultRecord) :
    (s.sentOut b r).bay b = { s.bay b with state := .outOfService, candidate := none } := by
  rw [State.sentOut, State.bay_raiseFleet, State.bay_takeOut (by simpa using h)]
  rfl

theorem State.faultSet_sentOut (s : State) (b : BayNo) (r : FaultRecord) : (s.sentOut b r).faultSet b =
    { s.faultSet b with
      record := r, hold := none
      tracking := if (s.bay b).state = .transfer then 0 else (s.faultSet b).tracking } := by
  rw [State.sentOut, State.faultSet_raiseFleet, State.faultSet_takeOut]
  simp

theorem State.flags_sentOut (h : (s.bay b).state ≠ .outOfService) (r : FaultRecord) :
    (s.sentOut b r).fleet.flags = s.fleet.flags ||| 0x07#8 := by
  rw [State.sentOut, State.raiseFleet_fleet, State.fleet_takeOut (by simpa using h)]
  exact BitVec.or_assoc ..

theorem State.changeSet_sentOut (h : (s.bay b).state ≠ .outOfService) (r : FaultRecord) :
    (s.sentOut b r).changeSet = s.changeSet ||| BitVec.twoPow 16 b.val := by
  rw [State.sentOut, State.raiseFleet_changeSet, State.changeSet_takeOut (by simpa using h)]
  rfl

theorem State.sentOut_frame (s : State) (b : BayNo) (r : FaultRecord) : s.sameBut (s.sentOut b r) bayStateParts :=
  (((s.modFault_frame b _).mono (by decide)).then (State.takeOut_frame _ b) (by decide)).then
    (State.raiseFleet_frame _ _) (by decide)

theorem State.sentOut_other (s : State) (b : BayNo) (r : FaultRecord) : s.otherBays (s.sentOut b r) b :=
  ((s.modFault_other b _).trans (State.takeOut_other _ b)).trans (State.raiseFleet_other _ _ b)

/-- A timeout that sends the bay out of service hands a notice; one that leaves its state hands none (R24). -/
theorem State.releaseTimeout_sentOut {r : FaultRecord} (h : (s.bay b).state ≠ .outOfService)
    (ht : s.takeReleaseTimeout b = s.sentOut b r) :
    s.releaseTimeout b = ((s.sentOut b r).restartRelease b).hand (.change .bay) := by
  rw [State.releaseTimeout, ht]
  refine State.handIfChanged_changed ?_
  rw [State.bay_restartRelease, State.bay_sentOut h]
  exact handsNotice_outOfService h

theorem State.releaseTimeout_staying {u : State} (ht : s.takeReleaseTimeout b = u)
    (hstate : (u.bay b).state = (s.bay b).state) : s.releaseTimeout b = u.restartRelease b := by
  rw [State.releaseTimeout, ht]
  refine State.handIfChanged_kept ?_
  rw [State.bay_restartRelease, hstate]
  exact handsNotice_self _

/-- A fault of a bay out of service writes a record with its event, or nothing (R120). -/
theorem State.faultInOut_cases (s : State) (b : BayNo) (first : FaultKind) (others : List FaultKind) :
    s.faultInOut b first others = s ∨ ∃ r, s.faultInOut b first others
      = (s.setFaultSet b { s.faultSet b with record := r }).raiseFleet .bayFault := by
  unfold State.faultInOut
  dsimp only
  split
  · split
    · exact .inr ⟨_, rfl⟩
    · exact .inl rfl
  · exact .inr ⟨_, rfl⟩

/-- A fault of a bay out of service is recorded only (R120). -/
theorem State.faultInOut_keeps (s : State) (b : BayNo) (first : FaultKind) (others : List FaultKind) :
    ((s.faultInOut b first others).bay b = s.bay b)
    ∧ (∃ r, (s.faultInOut b first others).faultSet b = { s.faultSet b with record := r })
    ∧ s.sameBut (s.faultInOut b first others) [.faults, .fleetFlags] := by
  have hrecorded (r : FaultRecord) : s.sameBut ((s.setFaultSet b { s.faultSet b with record := r }).raiseFleet .bayFault)
      [.faults, .fleetFlags] :=
    ((s.setFaultSet_frame b _).mono (by decide)).then (State.raiseFleet_frame _ _) (by decide)
  obtain ht | ⟨r, ht⟩ := s.faultInOut_cases b first others
  · rw [ht]
    exact ⟨rfl, ⟨_, rfl⟩, s.sameBut_refl _⟩
  · rw [ht]
    exact ⟨rfl, ⟨r, State.faultSet_setFaultSet ..⟩, hrecorded r⟩

end

/-- What every release timeout leaves (R125): the release goes on with its timer restarted. -/
structure State.ReleaseGoesOn (s t : State) (b : BayNo) : Prop where
  pending : (t.bay b).releasePending = (s.bay b).releasePending
  timer : (t.bay b).releaseTimer = some 10
  timedOut : (t.faultSet b).releaseTimedOut = true
  history : (t.faultSet b).history = (s.faultSet b).history
  link : (t.bay b).link = (s.bay b).link
  others : s.otherBays t b
  frame : s.sameBut t [.bays, .faults, .notices, .fleetFlags, .changeSet]

section
variable {s : State} {b : BayNo}

theorem State.releaseGoesOn_sentOut (h : (s.bay b).state ≠ .outOfService) (r : FaultRecord) :
    s.ReleaseGoesOn (((s.sentOut b r).restartRelease b).hand (.change .bay)) b where
  pending := by rw [State.bay_hand, State.bay_restartRelease, State.bay_sentOut h]
  timer := by rw [State.bay_hand, State.bay_restartRelease]
  timedOut := by rw [State.faultSet_hand, State.faultSet_restartRelease]
  history := by rw [State.faultSet_hand, State.faultSet_restartRelease, State.faultSet_sentOut]
  link := by rw [State.bay_hand, State.bay_restartRelease, State.bay_sentOut h]
  others := ((s.sentOut_other b r).trans (State.restartRelease_other _ b)).trans (State.hand_other _ _ b)
  frame := (((s.sentOut_frame b r).mono (by decide)).then (State.restartRelease_frame _ b) (by decide)).then
    (State.hand_frame _ _) (by decide)

theorem State.releaseGoesOn_restart (s : State) (b : BayNo) : s.ReleaseGoesOn (s.restartRelease b) b where
  pending := by rw [State.bay_restartRelease]
  timer := by rw [State.bay_restartRelease]
  timedOut := by rw [State.faultSet_restartRelease]
  history := by rw [State.faultSet_restartRelease]
  link := by rw [State.bay_restartRelease]
  others := s.restartRelease_other b
  frame := (s.restartRelease_frame b).mono (by decide)

theorem State.releaseGoesOn_recorded (s : State) (b : BayNo) :
    s.ReleaseGoesOn ((s.faultInOut b .releaseTimeout []).restartRelease b) b := by
  obtain ⟨hbay, ⟨r, hfault⟩, hframe⟩ := s.faultInOut_keeps b .releaseTimeout []
  exact {
    pending := by rw [State.bay_restartRelease, hbay]
    timer := by rw [State.bay_restartRelease]
    timedOut := by rw [State.faultSet_restartRelease]
    history := by rw [State.faultSet_restartRelease, hfault]
    link := by rw [State.bay_restartRelease, hbay]
    others := (s.faultInOut_other b _ _).trans (State.restartRelease_other _ b)
    frame := (hframe.mono (by decide)).then (State.restartRelease_frame _ b) (by decide) }

/-- What a release timeout leaves at a bay it sends out of service (R125). -/
theorem State.sentOut_restarted (h : (s.bay b).state ≠ .outOfService) (r : FaultRecord) :
    let t := ((s.sentOut b r).restartRelease b).hand (.change .bay)
    (t.bay b).state = .outOfService ∧ (t.faultSet b).hold = none
    ∧ t.fleet.flags = s.fleet.flags ||| 0x07#8 ∧ t.changeSet = s.changeSet ||| BitVec.twoPow 16 b.val
    ∧ t.notices = s.notices ++ [.change .bay] := by
  have hrestart := (s.sentOut b r).restartRelease_frame b
  refine ⟨?_, ?_, ?_, ?_, ?_⟩
  · rw [State.bay_hand, State.bay_restartRelease, State.bay_sentOut h]
  · rw [State.faultSet_hand, State.faultSet_restartRelease, State.faultSet_sentOut]
  · rw [State.hand_fleet, hrestart.fleet (by decide), State.flags_sentOut h]
  · rw [State.hand_changeSet, hrestart.changeSet (by decide), State.changeSet_sentOut h]
  · rw [State.hand_notices, hrestart.notices (by decide), (s.sentOut_frame b r).notices (by decide)]

theorem State.record_sentOut_restarted (s : State) (b : BayNo) (r : FaultRecord) :
    ((((s.sentOut b r).restartRelease b).hand (.change .bay)).faultSet b).record = r := by
  rw [State.faultSet_hand, State.faultSet_restartRelease, State.faultSet_sentOut]

theorem FaultRecord.append_room {r : FaultRecord} {k : FaultKind} (hroom : r.later.length < 4)
    (hnew : r.holds k = false) : r.append k = { r with later := r.later ++ [k] } :=
  if_neg (by simp [hnew, hroom])

theorem FaultRecord.append_kept {r : FaultRecord} {k : FaultKind} (h : 4 ≤ r.later.length ∨ r.holds k = true) :
    r.append k = r := if_pos h.symm

end

section
variable {s : State} {b : BayNo}

theorem State.releaseTimeout_releasing (h : (s.bay b).state = .releasing) : s.releaseTimeout b =
    ((s.sentOut b ⟨.opened, some .releaseTimeout, [], s.uptime, 0⟩).restartRelease b).hand (.change .bay) :=
  State.releaseTimeout_sentOut (by simp [h]) (State.takeReleaseTimeout_releasing h)

theorem State.releaseTimeout_fault (h : (s.bay b).state = .fault) : s.releaseTimeout b =
    ((s.sentOut b ((s.faultSet b).record.append .releaseTimeout)).restartRelease b).hand (.change .bay) :=
  State.releaseTimeout_sentOut (by simp [h]) (State.takeReleaseTimeout_fault h)

/-- Out of service, a release timeout taken before leaves the record, and the first is recorded (R120, R125). -/
theorem State.releaseTimeout_again (h : (s.bay b).state = .outOfService) (htaken : (s.faultSet b).releaseTimedOut = true) :
    s.releaseTimeout b = s.restartRelease b :=
  State.releaseTimeout_staying (by rw [State.takeReleaseTimeout_out h, if_pos htaken]) rfl

theorem State.releaseTimeout_recorded (h : (s.bay b).state = .outOfService)
    (hfirst : (s.faultSet b).releaseTimedOut = false) :
    s.releaseTimeout b = (s.faultInOut b .releaseTimeout []).restartRelease b :=
  State.releaseTimeout_staying (by rw [State.takeReleaseTimeout_out h, if_neg (by simp [hfirst])])
    (by rw [(s.faultInOut_keeps b _ _).1])

theorem State.state_releaseTimeout_out (h : (s.bay b).state = .outOfService) :
    ((s.releaseTimeout b).bay b).state = .outOfService := by
  cases htaken : (s.faultSet b).releaseTimedOut with
  | true => rw [State.releaseTimeout_again h htaken, State.bay_restartRelease, h]
  | false => rw [State.releaseTimeout_recorded h htaken, State.bay_restartRelease, (s.faultInOut_keeps b _ _).1, h]

theorem State.notices_releaseTimeout_out (h : (s.bay b).state = .outOfService) :
    (s.releaseTimeout b).notices = s.notices := by
  cases htaken : (s.faultSet b).releaseTimedOut with
  | true => rw [State.releaseTimeout_again h htaken, (State.restartRelease_frame _ b).notices (by decide)]
  | false =>
    rw [State.releaseTimeout_recorded h htaken, (State.restartRelease_frame _ b).notices (by decide),
      (s.faultInOut_keeps b _ _).2.2.notices (by decide)]

theorem State.releaseGoesOn_releaseTimeout (s : State) (b : BayNo) : s.ReleaseGoesOn (s.releaseTimeout b) b := by
  by_cases hreleasing : (s.bay b).state = .releasing
  · rw [State.releaseTimeout_releasing hreleasing]
    exact State.releaseGoesOn_sentOut (by simp [hreleasing]) _
  by_cases hfault : (s.bay b).state = .fault
  · rw [State.releaseTimeout_fault hfault]
    exact State.releaseGoesOn_sentOut (by simp [hfault]) _
  by_cases hout : (s.bay b).state = .outOfService
  · cases htaken : (s.faultSet b).releaseTimedOut with
    | true =>
      rw [State.releaseTimeout_again hout htaken]
      exact s.releaseGoesOn_restart b
    | false =>
      rw [State.releaseTimeout_recorded hout htaken]
      exact s.releaseGoesOn_recorded b
  · rw [State.releaseTimeout_staying (State.takeReleaseTimeout_other_state hreleasing hfault hout) rfl]
    exact s.releaseGoesOn_restart b

end

/-! ### The exit test (R122) -/

theorem exec_holdExpiry (b : BayNo) (s : State) : exec (.holdExpiry b) s =
    if (s.bay b).state = .fault ∧ (s.faultSet b).hold = some 0 then
      .next (((s.modFault b fun f => { f with hold := none }).tryExit b).handIfChanged b .fault)
    else .next s := rfl

/-- A bay's hold stopped at its expiry (R121). -/
def State.holdStopped (s : State) (b : BayNo) : State := s.modFault b fun f => { f with hold := none }

theorem State.exitTest_iff (s : State) (b : BayNo) : s.exitTest b = true ↔ (s.line b).miss = 0
    ∧ (s.siteValid = true → (s.bay b).tele.temp < s.site.thz) ∧ (s.bay b).tele.faultCode = 0
    ∧ (s.bay b).tele.contactorClosed = false := by
  cases hsite : s.siteValid <;> simp [State.exitTest, hsite, and_assoc]

theorem FaultRecord.close_open {r : FaultRecord} (h : r.status = .opened) (now : Stamp) :
    r.close now = { r with status := .closed, exit := now } := if_pos h

/-- The part with a bay's record closed and its hold stopped, on its way out of FAULT (R122). -/
def State.faultClosed (s : State) (b : BayNo) : State := s.setFaultSet b { s.faultSet b with
  hold := none, record := (s.faultSet b).record.close s.uptime }

section
variable {s : State} {b : BayNo}

theorem State.tryExit_passing (h : s.exitTest b = true) : s.tryExit b = (s.faultClosed b).enterParked b := if_pos h

theorem State.tryExit_failing (h : ¬ s.exitTest b = true) : s.tryExit b = s := if_neg h

/-- Leaving FAULT for PARKED (R24, R122). -/
theorem State.exits_parked (hstate : (s.bay b).state = .fault) :
    let t := (s.faultClosed b).enterParked b
    (t.bay b).state = .parked ∧ s.parkedLink t b
    ∧ t.faultSet b = { s.faultSet b with hold := none, record := (s.faultSet b).record.close s.uptime }
    ∧ t.handIfChanged b .fault = t.hand (.change .bay) ∧ s.otherBays t b
    ∧ s.sameBut t parkParts := by
  have hne : ((s.faultClosed b).bay b).state ≠ .parked := by
    simp [State.faultClosed, hstate]
  have hparked := (State.bay_enterParked hne).1
  refine ⟨hparked, State.parkedLink_enterParked hne, ?_, State.handIfChanged_changed ?_,
    (s.setFaultSet_other b _).trans (State.enterParked_other _ b),
    ((s.setFaultSet_frame b _).mono (by decide)).then (State.enterParked_frame _ b) (by decide)⟩
  · rw [State.faultSet_enterParked (by simp [State.faultClosed, hstate]), State.faultClosed,
      State.faultSet_setFaultSet]
  · rw [hparked]
    rfl

end

end Sys2Proof.Machine

namespace Sys2Proof.Proofs

open Sys2Proof.Machine

/-- Settles O45: the release goes on in every state, by the rows of R125; the hold's end makes the exit test. -/
theorem releaseAndHoldExpire : Obligations.ReleaseAndHoldExpire := by
  unfold Obligations.ReleaseAndHoldExpire
  intro b s
  rw [exec_releaseTimerExpiry, exec_holdExpiry]
  refine ⟨fun h => if_neg ?_, fun hpending htimer => ⟨_, if_pos ⟨hpending, htimer⟩, ?_⟩,
    fun h => if_neg (not_and_or.mpr h), fun hstate hhold => ?_⟩
  · rintro ⟨hpending, htimer⟩
    obtain h | h := h
    · simp [hpending] at h
    · exact h htimer
  · have hgoesOn := s.releaseGoesOn_releaseTimeout b
    refine ⟨hgoesOn.pending.trans hpending, hgoesOn.timer, hgoesOn.timedOut, hgoesOn.history, hgoesOn.link,
      hgoesOn.others, hgoesOn.frame, ?_, fun hstate => ?_, fun hstate hroom hnew => ?_, fun hstate hfull => ?_,
      fun hstate => ?_⟩
    · rintro (hstate | hstate)
      · rw [State.releaseTimeout_releasing hstate]
        exact State.sentOut_restarted (by simp [hstate]) _
      · rw [State.releaseTimeout_fault hstate]
        exact State.sentOut_restarted (by simp [hstate]) _
    · rw [State.releaseTimeout_releasing hstate]
      exact s.record_sentOut_restarted b _
    · rw [State.releaseTimeout_fault hstate, ← FaultRecord.append_room hroom hnew]
      exact s.record_sentOut_restarted b _
    · rw [State.releaseTimeout_fault hstate, FaultRecord.append_kept hfull]
      exact s.record_sentOut_restarted b _
    · refine ⟨(State.state_releaseTimeout_out hstate), State.notices_releaseTimeout_out hstate, fun htaken => ?_,
        fun hfirst hopen => ?_, fun hfirst hopen => ?_⟩
      · rw [State.releaseTimeout_again hstate htaken, State.faultSet_restartRelease]
        exact ⟨rfl, (s.restartRelease_frame b).fleet (by decide)⟩
      · rw [State.releaseTimeout_recorded hstate hfirst, State.faultInOut_new hopen, State.faultSet_restartRelease,
          (State.restartRelease_frame _ b).fleet (by decide)]
        exact ⟨by rw [State.faultSet_raiseFleet, State.faultSet_setFaultSet]; rfl, rfl⟩
      · intro fresh
        rw [State.releaseTimeout_recorded hstate hfirst, State.faultSet_restartRelease,
          (State.restartRelease_frame _ b).fleet (by decide)]
        by_cases hfresh : fresh = []
        · rw [State.faultInOut_held hopen hfresh, if_pos hfresh, hfresh]
          simp [FaultRecord.withFresh]
        · rw [State.faultInOut_fresh (List.nodup_singleton _) hopen hfresh, if_neg hfresh]
          exact ⟨by rw [State.faultSet_raiseFleet, State.faultSet_setFaultSet], rfl⟩
  · rw [if_pos ⟨hstate, hhold⟩]
    have hstopped : ((s.holdStopped b).bay b).state = .fault := hstate
    have hfault : (s.holdStopped b).faultSet b = { s.faultSet b with hold := none } := State.faultSet_modFault ..
    refine ⟨fun hpasses => ⟨_, rfl, ?_⟩, fun hfails => ?_⟩
    · have htest : (s.holdStopped b).exitTest b = true := ((s.holdStopped b).exitTest_iff b).mpr hpasses
      obtain ⟨hparked, hlink, hset, hhand, hothers, hframe⟩ := State.exits_parked hstopped
      rw [← State.holdStopped, State.tryExit_passing htest, hhand]
      refine ⟨hparked, hlink.congr rfl rfl rfl rfl rfl rfl, ?_, ?_, fun hopen => ?_, ?_, ?_, ?_⟩
      · rw [State.faultSet_hand, hset]
      · rw [State.faultSet_hand, hset, hfault]
      · rw [State.faultSet_hand, hset, hfault]
        exact FaultRecord.close_open hopen _
      · rw [State.hand_notices, hframe.notices (by decide)]
        rfl
      · exact ((s.modFault_other b _).trans hothers).trans (State.hand_other _ _ b)
      · exact ((((s.modFault_frame b fun f => { f with hold := none }).mono (by decide)).then hframe (by decide)).then
          (State.hand_frame _ _) (by decide))
    · rw [← State.holdStopped, State.tryExit_failing (fun htest => hfails (((s.holdStopped b).exitTest_iff b).mp htest)),
        State.handIfChanged_kept (by rw [hstopped]; rfl)]
      rfl

end Sys2Proof.Proofs
end

section

/-!
SUPPORT. What the part holds for one bay, and the operations that touch one bay alone: a fold of them over the bays, or
over entries that name distinct bays, is taken apart bay by bay.
-/

namespace Sys2Proof.Machine

/-- What the part holds for a bay: its record, its fault set, its order slot, its mark in the change set and whether it
waits in the poll queue. -/
structure BayView where
  bay : BayRecord
  faults : FaultSet
  order : Option Order
  marked : Bool
  waits : Bool

def State.view (s : State) (b : BayNo) : BayView :=
  ⟨s.bay b, s.faultSet b, s.order b, s.changeSet.getLsbD b.val, decide (b ∈ s.pollQueue)⟩

/-- From `s` to `t` nothing changed for any bay but `c`. -/
def State.onlyAt (s t : State) (c : BayNo) : Prop := ∀ b, b ≠ c → t.view b = s.view b

section
variable {s t u : State} {b c : BayNo}

theorem State.bay_of_view (h : t.view b = s.view b) : t.bay b = s.bay b := congrArg BayView.bay h
theorem State.faultSet_of_view (h : t.view b = s.view b) : t.faultSet b = s.faultSet b := congrArg BayView.faults h
theorem State.order_of_view (h : t.view b = s.view b) : t.order b = s.order b := congrArg BayView.order h
theorem State.marked_of_view (h : t.view b = s.view b) : t.changeSet.getLsbD b.val = s.changeSet.getLsbD b.val :=
  congrArg BayView.marked h
theorem State.waits_of_view (h : t.view b = s.view b) : b ∈ t.pollQueue ↔ b ∈ s.pollQueue :=
  decide_eq_decide.mp (congrArg BayView.waits h)

theorem State.view_eq (hbay : t.bay b = s.bay b) (hfaults : t.faultSet b = s.faultSet b)
    (horder : t.order b = s.order b) (hmark : t.changeSet.getLsbD b.val = s.changeSet.getLsbD b.val)
    (hwaits : b ∈ t.pollQueue ↔ b ∈ s.pollQueue) : t.view b = s.view b := by
  simp only [State.view, hbay, hfaults, horder, hmark, hwaits]

theorem State.onlyAt_refl (s : State) (c : BayNo) : s.onlyAt s c := fun _ _ => rfl

theorem State.onlyAt.trans (h : s.onlyAt t c) (h' : t.onlyAt u c) : s.onlyAt u c := fun b hb =>
  (h' b hb).trans (h b hb)

theorem State.otherBays.onlyAt (h : s.otherBays t c) (hchange : t.changeSet = s.changeSet)
    (hpoll : t.pollQueue = s.pollQueue) : s.onlyAt t c := by
  intro b hb
  obtain ⟨hbay, hfaults, horder⟩ := h b hb
  exact State.view_eq hbay hfaults horder (by rw [hchange]) (by rw [hpoll])

end

/-- Marking a bay marks no other. -/
theorem getLsbD_mark_ne (x : BitVec 16) {b c : BayNo} (h : b ≠ c) :
    (x ||| BitVec.twoPow 16 c.val).getLsbD b.val = x.getLsbD b.val := by
  have hval : b.val ≠ c.val := fun he => h (Fin.ext he)
  simp [hval]

theorem getLsbD_mark (x : BitVec 16) (b : BayNo) : (x ||| BitVec.twoPow 16 b.val).getLsbD b.val = true := by
  simp

/-! ### The operations on one bay -/

section
variable (s : State) (b : BayNo)

theorem State.markBay_onlyAt : s.onlyAt (s.markBay b) b := fun _ hc =>
  State.view_eq rfl rfl rfl (getLsbD_mark_ne _ hc) Iff.rfl

theorem State.mem_join_ne {b c : BayNo} (h : c ≠ b) : c ∈ (s.join b).pollQueue ↔ c ∈ s.pollQueue := by
  rw [State.join_pollQueue]
  split
  · rfl
  · simp [h]

theorem State.join_onlyAt : s.onlyAt (s.join b) b := fun c hc =>
  State.view_eq (s.bay_join b c) (s.faultSet_join b c) (s.order_join b c) (by rw [State.join_changeSet])
    (s.mem_join_ne hc)

theorem State.modBay_onlyAt (f : BayRecord → BayRecord) : s.onlyAt (s.modBay b f) b :=
  (s.modBay_other b f).onlyAt rfl rfl

theorem State.modFault_onlyAt (f : FaultSet → FaultSet) : s.onlyAt (s.modFault b f) b :=
  (s.modFault_other b f).onlyAt rfl rfl

theorem State.setOrder_onlyAt (o : Option Order) : s.onlyAt (s.setOrder b o) b := (s.setOrder_other b o).onlyAt rfl rfl

theorem State.leaveState_onlyAt (left : BayState) : s.onlyAt (s.leaveState b left) b := by
  unfold State.leaveState
  split
  · exact s.modFault_onlyAt b _
  · exact s.onlyAt_refl b

theorem State.setBayState_onlyAt (st : BayState) : s.onlyAt (s.setBayState b st) b := by
  unfold State.setBayState
  split
  · exact s.onlyAt_refl b
  · exact ((s.modBay_onlyAt b _).trans (State.leaveState_onlyAt _ b _)).trans (State.markBay_onlyAt _ b)

theorem State.startRelease_onlyAt : s.onlyAt (s.startRelease b) b :=
  ((s.modBay_onlyAt b _).trans (State.modFault_onlyAt _ b _)).trans (State.join_onlyAt _ b)

theorem State.release_onlyAt : s.onlyAt (s.release b) b :=
  ((s.modBay_onlyAt b _).trans (State.setBayState_onlyAt _ b _)).trans (State.startRelease_onlyAt _ b)

theorem State.dropOrder_onlyAt (cause : Option EndCause) (m : Bool) : s.onlyAt (s.dropOrder b cause m) b :=
  (s.dropOrder_other b cause m).onlyAt (by simp) (by simp)

theorem State.abortOrder_onlyAt (cause : EndCause) (m : Bool) : s.onlyAt (s.abortOrder b cause m) b := by
  unfold State.abortOrder
  split
  · exact s.onlyAt_refl b
  · exact (s.dropOrder_onlyAt b _ _).trans (State.join_onlyAt _ b)

theorem State.afterRemoval_onlyAt (o : Order) : s.onlyAt (s.afterRemoval b o) b := by
  unfold State.afterRemoval
  split
  · exact s.release_onlyAt b
  · split
    · exact s.release_onlyAt b
    · exact s.onlyAt_refl b
  · exact s.onlyAt_refl b

theorem State.endFor_onlyAt (o : Order) (cause : EndCause) : s.onlyAt (s.endFor b o cause) b := by
  unfold State.endFor
  split
  · exact (s.abortOrder_onlyAt b _ _).trans (State.afterRemoval_onlyAt _ b o)
  · exact s.setOrder_onlyAt b _

theorem State.declineBay_onlyAt (cause : EndCause) : s.onlyAt (s.declineBay b cause) b :=
  (s.declineBay_other b cause).onlyAt ((s.declineBay_frame b cause).changeSet (by decide))
    ((s.declineBay_frame b cause).pollQueue (by decide))

theorem State.releaseFor_onlyAt (cause : EndCause) : s.onlyAt (s.releaseFor b cause) b := by
  unfold State.releaseFor
  split
  case h_4 => exact s.declineBay_onlyAt b cause
  case h_1 | h_2 | h_3 => exact (s.abortOrder_onlyAt b _ _).trans (State.release_onlyAt _ b)
  all_goals exact s.onlyAt_refl b

theorem State.firstStep_onlyAt (o : Order) : s.onlyAt (s.firstStep b o) b :=
  ((s.setOrder_onlyAt b _).trans (State.setBayState_onlyAt _ b _)).trans (State.join_onlyAt _ b)

theorem State.createOrder_onlyAt (id target quota : Nat) : s.onlyAt (s.createOrder id b target quota) b := by
  unfold State.createOrder
  dsimp only
  split
  · exact (((s.setOrder_onlyAt b _).trans (State.modBay_onlyAt _ b _)).trans (State.setBayState_onlyAt _ b _)).trans
      (State.join_onlyAt _ b)
  · split
    · exact s.setOrder_onlyAt b _
    · exact s.firstStep_onlyAt b _
  · exact s.onlyAt_refl b

theorem State.releaseIfEngaged_onlyAt : s.onlyAt (s.releaseIfEngaged b) b := by
  unfold State.releaseIfEngaged
  split
  · exact s.release_onlyAt b
  · exact s.onlyAt_refl b

end

/-! ### Folds -/

section
variable {α : Type} {f : State → α → State} {place : α → BayNo}
  (hf : ∀ s a, State.onlyAt s (f s a) (place a))
include hf

/-- A bay that no entry names stays as it was. -/
theorem view_foldl_not_mem {l : List α} {b : BayNo} (h : ∀ a ∈ l, place a ≠ b) (s : State) :
    (l.foldl f s).view b = s.view b := by
  induction l generalizing s with
  | nil => rfl
  | cons a rest ih =>
    rw [List.foldl_cons, ih (fun c hc => h c (List.mem_cons_of_mem a hc))]
    exact hf s a b (h a List.mem_cons_self).symm

/-- The bay an entry names comes to its turn as the first state has it, and stays as its turn leaves it. -/
theorem view_foldl_split {front back : List α} {a : α} (h : ((front ++ a :: back).map place).Nodup) (s : State) :
    (front.foldl f s).view (place a) = s.view (place a)
    ∧ ((front ++ a :: back).foldl f s).view (place a) = (f (front.foldl f s) a).view (place a) := by
  rw [List.map_append, List.map_cons] at h
  obtain ⟨-, hback, hdisjoint⟩ := List.nodup_append.mp h
  refine ⟨view_foldl_not_mem hf (fun c hc => hdisjoint _ (List.mem_map_of_mem hc) _ List.mem_cons_self) s, ?_⟩
  rw [List.foldl_append, List.foldl_cons]
  refine view_foldl_not_mem hf (fun c hc he => ?_) _
  exact (List.nodup_cons.mp hback).1 (he ▸ List.mem_map_of_mem hc)

end

/-- `view_foldl_split` over the sixteen bays. -/
theorem view_foldl_allBays {f : State → BayNo → State} (hf : ∀ s b, State.onlyAt s (f s b) b) (s : State)
    (b : BayNo) :
    ∃ front back, allBays = front ++ b :: back ∧ (front.foldl f s).view b = s.view b
      ∧ (allBays.foldl f s).view b = (f (front.foldl f s) b).view b := by
  obtain ⟨front, back, hsplit⟩ := List.append_of_mem (mem_allBays b)
  have hnodup : ((front ++ b :: back).map id).Nodup := by
    rw [List.map_id, ← hsplit]
    exact nodup_allBays
  obtain ⟨hfront, hturn⟩ := view_foldl_split (place := id) hf hnodup s
  exact ⟨front, back, hsplit, hfront, hsplit ▸ hturn⟩

end Sys2Proof.Machine
end

section

/-!
SUPPORT. TRIP part by part (R152): the orders and bays one at a time, the requests, the events; and the soft reset that
follows it at RESET DEVICE (O38, O39).
-/

namespace Sys2Proof.Machine

/-! ### The bays (parts 1 and 2 of R152) -/

/-- A released bay's record (R29). -/
def BayRecord.released (r : BayRecord) : BayRecord := { r with
  state := .releasing, candidate := none, stateTimer := none, settleTimer := none, checkDue := false
  releasePending := true, releaseTimer := some 10 }

/-- What is held for a bay after a release: the tracking count stands only in TRANSFER (R29, R115). -/
def BayView.released (v : BayView) : BayView := { v with
  bay := v.bay.released
  faults := { v.faults with
    releaseTimedOut := false, tracking := if v.bay.state = .transfer then 0 else v.faults.tracking }
  marked := true, waits := true }

/-- What is held for a bay after a TRIP (R152). -/
def BayView.tripped (v : BayView) : BayView :=
  { (if v.bay.state.engaged then v.released else v) with
    order := none, waits := v.waits || v.bay.state.engaged || v.order.isSome }

section
variable {s : State} {b : BayNo}

theorem State.view_release (h : (s.bay b).state ≠ .releasing) : (s.release b).view b = (s.view b).released := by
  obtain ⟨hbay, -, hwaits, hmark⟩ := State.bayReleased_release s b h
  simp [State.view, BayView.released, BayRecord.released, hbay, hwaits, hmark, State.faultSet_release]

theorem BayState.ne_releasing_of_engaged {st : BayState} (h : st.engaged = true) : st ≠ .releasing := by
  rintro rfl
  cases h

theorem State.view_releaseIfEngaged (s : State) (b : BayNo) : (s.releaseIfEngaged b).view b =
    if (s.view b).bay.state.engaged then (s.view b).released else s.view b := by
  unfold State.releaseIfEngaged
  split
  next h => exact (State.view_release (BayState.ne_releasing_of_engaged h)).trans (if_pos h).symm
  next h => exact (if_neg h).symm

/-- An order taken out by a TRIP, before its bay is released. -/
def State.orderTripped (s : State) (b : BayNo) (o : Order) : State :=
  ((s.setOrder b none).modRequest o.request fun r =>
    { r with delivered := addDelivered r.delivered o.delivered }).join b

theorem State.tripOrder_some {o : Order} (h : s.order b = some o) :
    s.tripOrder b = (s.orderTripped b o).releaseIfEngaged b := by
  simp only [State.tripOrder, h]
  rfl

theorem State.tripOrder_none (h : s.order b = none) : s.tripOrder b = s := by
  simp only [State.tripOrder, h]

theorem State.view_orderTripped (s : State) (b : BayNo) (o : Order) :
    (s.orderTripped b o).view b = { s.view b with order := none, waits := true } := by
  simp [State.orderTripped, State.view, State.mem_join]

theorem State.orderTripped_onlyAt (s : State) (b : BayNo) (o : Order) : s.onlyAt (s.orderTripped b o) b :=
  (State.otherBays.onlyAt (t := (s.setOrder b none).modRequest o.request fun r =>
    { r with delivered := addDelivered r.delivered o.delivered }) (s.setOrder_other b none) rfl rfl).trans
      (State.join_onlyAt _ b)

/-- A bay's turn in part 1: an order in its slot ends, and the bay is released if it stands engaged. -/
theorem State.view_tripOrder (s : State) (b : BayNo) : (s.tripOrder b).view b =
    if (s.view b).order.isSome then (s.view b).tripped else s.view b := by
  cases ho : s.order b with
  | none =>
    have hslot : (s.view b).order = none := ho
    rw [State.tripOrder_none ho, hslot]
    rfl
  | some o =>
    have hslot : (s.view b).order = some o := ho
    rw [State.tripOrder_some ho, State.view_releaseIfEngaged, State.view_orderTripped, hslot]
    generalize s.view b = v at hslot
    cases hengaged : v.bay.state.engaged <;> simp [BayView.tripped, BayView.released, hengaged, hslot]

theorem State.tripOrder_onlyAt (s : State) (b : BayNo) : s.onlyAt (s.tripOrder b) b := by
  cases ho : s.order b with
  | none =>
    rw [State.tripOrder_none ho]
    exact s.onlyAt_refl b
  | some o =>
    rw [State.tripOrder_some ho]
    exact (s.orderTripped_onlyAt b o).trans (State.releaseIfEngaged_onlyAt _ b)

end

theorem BayView.engaged_tripped (v : BayView) : v.tripped.bay.state.engaged = false := by
  cases hengaged : v.bay.state.engaged with
  | true => simp only [BayView.tripped, hengaged, if_true]; rfl
  | false => simp [BayView.tripped, hengaged]

/-- The turns of a bay in parts 1 and 2 together. -/
theorem BayView.two_turns (v w : BayView) (hw : w = if v.order.isSome then v.tripped else v) :
    (if w.bay.state.engaged then w.released else w) = v.tripped := by
  subst hw
  cases ho : v.order with
  | none =>
    obtain ⟨bay, faults, order, marked, waits⟩ := v
    obtain rfl : order = none := ho
    cases hengaged : bay.state.engaged <;> simp [BayView.tripped, BayView.released, hengaged]
  | some o => simp [BayView.engaged_tripped]

/-- The part after parts 1 and 2 of a TRIP. -/
def State.baysTripped (s : State) : State := allBays.foldl State.tripBay (allBays.foldl State.tripOrder s)

theorem State.baysTripped_eq (s : State) :
    s.baysTripped = allBays.foldl State.releaseIfEngaged (allBays.foldl State.tripOrder s) := rfl

/-- Every bay of a TRIP: its order ended, and released if it stood engaged. -/
theorem State.view_baysTripped (s : State) (b : BayNo) : s.baysTripped.view b = (s.view b).tripped := by
  obtain ⟨front, back, -, hfront, hturn⟩ := view_foldl_allBays State.tripOrder_onlyAt s b
  obtain ⟨front', back', -, hfront', hturn'⟩ :=
    view_foldl_allBays State.releaseIfEngaged_onlyAt (allBays.foldl State.tripOrder s) b
  refine hturn'.trans ((State.view_releaseIfEngaged _ b).trans (BayView.two_turns _ _ ?_))
  rw [hfront', hturn, State.view_tripOrder, hfront]

/-- An engaged bay is released in one of the two parts. -/
theorem BayView.engaged_once (v : BayView) : v.bay.state.engaged = true ↔
    (v.order.isSome && v.bay.state.engaged) = true ∨ (if v.order.isSome then v.tripped else v).bay.state.engaged = true := by
  cases ho : v.order with
  | none => simp
  | some o => simp [BayView.engaged_tripped]

theorem State.baysTripped_frame (s : State) : s.sameBut s.baysTripped resplitParts :=
  (State.sameBut_foldl _ State.tripOrder_frame allBays s).trans
    ((State.sameBut_foldl _ State.releaseIfEngaged_frame allBays _).mono (by decide))

/-! ### BAY_CHANGE (R168) -/

/-- A fold of turns of which some set BAY_CHANGE sets it when one of them does. -/
theorem flags_foldl {f : State → BayNo → State} (acts : BayView → Bool) (hf : ∀ s b, State.onlyAt s (f s b) b)
    (hturn : ∀ s b, (f s b).fleet.flags = if acts (s.view b) then s.fleet.flags ||| 0x01#8 else s.fleet.flags)
    {l : List BayNo} (hl : l.Nodup) (s : State) : (l.foldl f s).fleet.flags =
      if l.any (fun b => acts (s.view b)) then s.fleet.flags ||| 0x01#8 else s.fleet.flags := by
  induction l generalizing s with
  | nil => rfl
  | cons b rest ih =>
    obtain ⟨hb, hrest⟩ := List.nodup_cons.mp hl
    have hlater : rest.any (fun c => acts ((f s b).view c)) = rest.any (fun c => acts (s.view c)) := by
      rw [Bool.eq_iff_iff, List.any_eq_true, List.any_eq_true]
      refine exists_congr fun c => and_congr_right fun hc => ?_
      rw [hf s b c (fun he => hb (he ▸ hc))]
    rw [List.foldl_cons, ih hrest, hlater, hturn, List.any_cons]
    cases acts (s.view b) <;> cases rest.any (fun c => acts (s.view c)) <;> simp [BitVec.or_assoc]

theorem State.flags_releaseIfEngaged (s : State) (b : BayNo) : (s.releaseIfEngaged b).fleet.flags =
    if (s.view b).bay.state.engaged then s.fleet.flags ||| 0x01#8 else s.fleet.flags := by
  unfold State.releaseIfEngaged
  split
  next h =>
    rw [State.fleet_release s b (BayState.ne_releasing_of_engaged h)]
    exact (if_pos h).symm
  next h => exact (if_neg h).symm

theorem State.flags_tripOrder (s : State) (b : BayNo) : (s.tripOrder b).fleet.flags =
    if (s.view b).order.isSome && (s.view b).bay.state.engaged then s.fleet.flags ||| 0x01#8 else s.fleet.flags := by
  cases ho : s.order b with
  | none =>
    have hslot : (s.view b).order = none := ho
    rw [State.tripOrder_none ho, hslot]
    rfl
  | some o =>
    have hslot : (s.view b).order = some o := ho
    have hfleet : (s.orderTripped b o).fleet.flags = s.fleet.flags := by simp [State.orderTripped]
    rw [State.tripOrder_some ho, State.flags_releaseIfEngaged, State.view_orderTripped, hfleet, hslot]
    rfl

theorem State.flags_baysTripped (s : State) : s.baysTripped.fleet.flags =
    if ∃ b, (s.bay b).state.engaged = true then s.fleet.flags ||| 0x01#8 else s.fleet.flags := by
  have horders := flags_foldl (fun v => v.order.isSome && v.bay.state.engaged) State.tripOrder_onlyAt
    State.flags_tripOrder nodup_allBays s
  have hbays := flags_foldl (fun v => v.bay.state.engaged) State.releaseIfEngaged_onlyAt
    State.flags_releaseIfEngaged nodup_allBays (allBays.foldl State.tripOrder s)
  have hview (b : BayNo) : (allBays.foldl State.tripOrder s).view b
      = if (s.view b).order.isSome then (s.view b).tripped else s.view b := by
    obtain ⟨front, back, -, hfront, hturn⟩ := view_foldl_allBays State.tripOrder_onlyAt s b
    rw [hturn, State.view_tripOrder, hfront]
  have hany : (∃ b, (s.bay b).state.engaged = true) ↔
      allBays.any (fun b => (s.view b).order.isSome && (s.view b).bay.state.engaged) = true
      ∨ allBays.any (fun b => ((allBays.foldl State.tripOrder s).view b).bay.state.engaged) = true := by
    simp only [List.any_eq_true, mem_allBays, true_and, ← exists_or]
    refine exists_congr fun b => ?_
    rw [hview]
    exact BayView.engaged_once (s.view b)
  rw [State.baysTripped_eq, hbays, horders]
  simp only [hany]
  cases allBays.any (fun b => (s.view b).order.isSome && (s.view b).bay.state.engaged) <;>
    cases allBays.any (fun b => ((allBays.foldl State.tripOrder s).view b).bay.state.engaged) <;>
    simp [BitVec.or_assoc]

/-! ### The requests (part 3 of R152, R85) -/

/-- The delivered total of a request after the end of a bay's order. -/
def State.tripCount (s : State) (id total : Nat) (b : BayNo) : Nat :=
  match s.order b with
  | some o => if o.request = id then addDelivered total o.delivered else total
  | none => total

theorem State.queue_tripOrder (s : State) (b : BayNo) :
    (s.tripOrder b).queue = s.queue.map fun r => { r with delivered := s.tripCount r.id r.delivered b } := by
  cases ho : s.order b with
  | none => simp [State.tripOrder_none ho, State.tripCount, ho]
  | some o =>
    rw [State.tripOrder_some ho, ((s.orderTripped b o).releaseIfEngaged_frame b).queue (by decide)]
    simp only [State.orderTripped, State.join_queue, State.modRequest_queue, State.setOrder_queue, State.tripCount, ho,
      beq_iff_eq]
    refine List.map_congr_left fun r _ => ?_
    by_cases h : r.id = o.request
    · rw [if_pos h, if_pos h.symm]
    · rw [if_neg h, if_neg (Ne.symm h)]

theorem State.queue_foldl_tripOrder {l : List BayNo} (hl : l.Nodup) (s : State) : (l.foldl State.tripOrder s).queue =
    s.queue.map fun r => { r with delivered := l.foldl (s.tripCount r.id) r.delivered } := by
  induction l generalizing s with
  | nil => simp
  | cons b rest ih =>
    obtain ⟨hb, hrest⟩ := List.nodup_cons.mp hl
    have hlater (id total : Nat) :
        rest.foldl ((s.tripOrder b).tripCount id) total = rest.foldl (s.tripCount id) total := by
      refine List.foldl_ext _ _ _ fun total c hc => ?_
      rw [State.tripCount, State.order_of_view (s.tripOrder_onlyAt b c fun he => hb (he ▸ hc))]
      rfl
    rw [List.foldl_cons, ih hrest, State.queue_tripOrder, List.map_map]
    refine List.map_congr_left fun r _ => ?_
    simp only [Function.comp_apply, hlater, List.foldl_cons]

/-- The energy a bay's order gives a request at a TRIP. -/
def State.tripEnergy (s : State) (id : Nat) (b : BayNo) : Nat :=
  match s.order b with
  | some o => if o.request = id then o.delivered else 0
  | none => 0

/-- The delivered totals add up modulo their 32 bits (R66). -/
theorem State.foldl_tripCount_mod (s : State) (id : Nat) (l : List BayNo) (total : Nat) :
    l.foldl (s.tripCount id) total % 4294967296 = (total + (l.map (s.tripEnergy id)).sum) % 4294967296 := by
  induction l generalizing total with
  | nil => rfl
  | cons b rest ih =>
    have hturn : s.tripCount id total b % 4294967296 = (total + s.tripEnergy id b) % 4294967296 := by
      unfold State.tripCount State.tripEnergy
      cases s.order b with
      | none => rfl
      | some o =>
        by_cases h : o.request = id <;> simp [h, addDelivered]
    rw [List.foldl_cons, ih, List.map_cons, List.sum_cons]
    omega

theorem State.lastResult_tripRequest (s : State) (r : Request) : (s.tripRequest r).lastResult =
    if r.isHeld then s.lastResult else some (r.result .trip) := by
  unfold State.tripRequest Request.isHeld
  cases r.state <;> rfl

/-- The last result is that of the last request in the queue that was not HELD. -/
theorem State.lastResult_foldl_tripRequest (s : State) {l : List Request} (h : ∀ q ∈ l, q.isHeld = true) :
    (l.foldl State.tripRequest s).lastResult = s.lastResult := by
  induction l generalizing s with
  | nil => rfl
  | cons q rest ih =>
    obtain ⟨hq, hrest⟩ := List.forall_mem_cons.mp h
    rw [List.foldl_cons, ih _ hrest, State.lastResult_tripRequest, if_pos hq]

theorem State.lastResult_tripQueue_held (s : State) (h : ∀ q ∈ s.queue, q.isHeld = true) :
    s.tripQueue.lastResult = s.lastResult := by
  unfold State.tripQueue
  split
  · rfl
  · exact State.lastResult_foldl_tripRequest s h

theorem State.lastResult_tripQueue_ended (s : State) {front back : List Request} {r : Request}
    (hqueue : s.queue = front ++ r :: back) (hr : r.isHeld = false) (hback : ∀ q ∈ back, q.isHeld = true) :
    s.tripQueue.lastResult = some (r.result .trip) := by
  unfold State.tripQueue
  rw [if_neg (by simp [hqueue])]
  change (s.queue.foldl State.tripRequest s).lastResult = _
  rw [hqueue, List.foldl_append, List.foldl_cons, State.lastResult_foldl_tripRequest _ hback,
    State.lastResult_tripRequest, if_neg (by simp [hr])]

theorem State.flags_tripQueue (s : State) : s.tripQueue.grid.flags =
    if s.queue = [] then s.grid.flags else s.grid.flags ||| gridBit .requestEnded := by
  unfold State.tripQueue
  split
  · rfl
  · have hkept : (s.queue.foldl State.tripRequest s).grid.flags = s.grid.flags := by
      generalize s.queue = l
      clear * -
      induction l generalizing s with
      | nil => rfl
      | cons r rest ih =>
        rw [List.foldl_cons, ih]
        unfold State.tripRequest
        cases r.state <;> rfl
    rw [State.raiseGrid_grid, hkept]

/-! ### The whole of a TRIP (R152) -/

theorem State.doTrip_eq (s : State) : s.doTrip = (s.baysTripped.tripQueue.halt).raiseDeviceState := rfl

/-- What the bays hold does not change after part 2. -/
theorem State.sameBut.view {s t : State} {ps : List Part} (h : s.sameBut t ps)
    (hparts : .bays ∉ ps ∧ .faults ∉ ps ∧ .orders ∉ ps ∧ .changeSet ∉ ps ∧ .pollQueue ∉ ps) (b : BayNo) : t.view b = s.view b := by
  obtain ⟨hbays, hfaults, horders, hchange, hpoll⟩ := hparts
  rw [State.view, State.view, State.bay, State.bay, State.faultSet, State.faultSet, State.order, State.order,
    h.bays hbays, h.faults hfaults, h.orders horders, h.changeSet hchange, h.pollQueue hpoll]

theorem State.afterBays_frame (s : State) : s.baysTripped.sameBut s.doTrip
    [.device, .queue, .notices, .lastResult, .gridFlags, .fleetFlags] := by
  rw [State.doTrip_eq]
  exact (((State.tripQueue_frame _).mono (by decide)).then (State.halt_frame _) (by decide)).then
    (State.raiseDeviceState_frame _) (by decide)

theorem State.view_doTrip (s : State) (b : BayNo) : s.doTrip.view b = (s.view b).tripped :=
  (s.afterBays_frame.view (by decide) b).trans (s.view_baysTripped b)

/-- A request with the energy of its orders' ends added. -/
def State.tripTotal (s : State) (r : Request) : Request :=
  { r with delivered := allBays.foldl (s.tripCount r.id) r.delivered }

@[simp] theorem State.isHeld_tripTotal (s : State) (r : Request) : (s.tripTotal r).isHeld = r.isHeld := rfl

theorem State.queue_baysTripped (s : State) : s.baysTripped.queue = s.queue.map s.tripTotal := by
  rw [State.baysTripped_eq, (State.sameBut_foldl _ State.releaseIfEngaged_frame allBays _).queue (by decide),
    State.queue_foldl_tripOrder nodup_allBays]
  rfl

/-- The fields of a bay after a TRIP (R29, R152). -/
theorem State.fields_of_tripped {s t : State} {b : BayNo} (h : t.view b = (s.view b).tripped) :
    t.order b = none
    ∧ ((s.bay b).state.engaged = false → t.bay b = s.bay b ∧ t.faultSet b = s.faultSet b)
    ∧ ((s.bay b).state.engaged = true → b ∈ t.pollQueue ∧ t.bay b = (s.bay b).released)
    ∧ t.changeSet.getLsbD b.val = (s.changeSet.getLsbD b.val || (s.bay b).state.engaged) := by
  have hown : (s.view b).bay.state.engaged = (s.bay b).state.engaged := rfl
  have hbay := congrArg BayView.bay h
  have hfaults := congrArg BayView.faults h
  have hmark := congrArg BayView.marked h
  have hwaits := congrArg BayView.waits h
  refine ⟨congrArg BayView.order h, fun hfree => ?_, fun hengaged => ?_, ?_⟩
  · simp only [BayView.tripped, hown, hfree] at hbay hfaults
    exact ⟨hbay, hfaults⟩
  · simp only [BayView.tripped, hown, hengaged, if_true, Bool.or_true, Bool.true_or] at hbay hwaits
    exact ⟨of_decide_eq_true hwaits, hbay⟩
  · refine hmark.trans ?_
    rw [BayView.tripped, hown]
    cases (s.bay b).state.engaged <;> simp [State.view, BayView.released]

theorem State.lastResult_doTrip (s : State) : s.doTrip.lastResult = s.baysTripped.tripQueue.lastResult := by
  rw [State.doTrip_eq]
  exact ((State.raiseDeviceState_frame _).lastResult (by decide)).trans ((State.halt_frame _).lastResult (by decide))

theorem State.queue_doTrip (s : State) : s.doTrip.queue = [] := by
  rw [State.doTrip_eq, (State.raiseDeviceState_frame _).queue (by decide), (State.halt_frame _).queue (by decide)]
  exact State.queue_tripQueue _

theorem State.device_doTrip (s : State) : s.doTrip.device = if s.device = .run then .halted else s.device := by
  have hkept : s.baysTripped.tripQueue.device = s.device :=
    ((State.tripQueue_frame _).device (by decide)).trans (s.baysTripped_frame.device (by decide))
  rw [State.doTrip_eq, (State.raiseDeviceState_frame _).device (by decide), State.halt, hkept]
  split
  · rfl
  · exact hkept

theorem State.gridFlags_doTrip (s : State) : s.doTrip.grid.flags =
    (if s.queue = [] then s.grid.flags else s.grid.flags ||| gridBit .requestEnded) ||| gridBit .deviceState := by
  have hhalted : s.baysTripped.tripQueue.halt.grid = s.baysTripped.tripQueue.grid :=
    (State.halt_frame _).grid (by decide)
  have hempty : s.baysTripped.queue = [] ↔ s.queue = [] := by simp [s.queue_baysTripped]
  rw [State.doTrip_eq, State.raiseDeviceState, State.raiseFleet_grid, State.raiseGrid_grid, hhalted,
    State.flags_tripQueue, s.baysTripped_frame.grid (by decide)]
  simp only [hempty]

theorem State.fleetFlags_doTrip (s : State) : s.doTrip.fleet.flags =
    (if ∃ b, (s.bay b).state.engaged = true then s.fleet.flags ||| 0x01#8 else s.fleet.flags)
      ||| fleetBit .deviceState := by
  have hhalted : s.baysTripped.tripQueue.halt.fleet = s.baysTripped.fleet :=
    ((State.halt_frame _).fleet (by decide)).trans ((State.tripQueue_frame _).fleet (by decide))
  rw [State.doTrip_eq, State.raiseDeviceState, State.raiseFleet_fleet, State.raiseGrid_fleet, hhalted,
    State.flags_baysTripped]

theorem exec_trip (p : Port) (s : State) : exec (.trip p) s = carryOut p (.trip p) trip s := rfl

theorem trip_ok (s : State) : trip s = .ok (s.doTrip, le1 s.doTrip.device.code ++ le1 s.queue.length
    ++ le1 (allBays.filter fun b => (s.bay b).state.engaged).length) := rfl

end Sys2Proof.Machine

namespace Sys2Proof.Proofs

open Sys2Proof.Machine

/-- Settles O38: the four parts of a TRIP one after the other. -/
theorem tripEndsEverything : Obligations.TripEndsEverything := by
  unfold Obligations.TripEndsEverything
  intro p s h _ _
  have hqueue := s.queue_baysTripped
  refine ⟨s.doTrip, ?_, s.device_doTrip, fun b => ?_, fun b hfree => ?_, fun b hengaged => ?_, fun b => ?_,
    s.queue_doTrip, fun hheld => ?_, fun front r back hsplit hr hback => ?_, ?_, ?_, s.doTrip_frame.mono (by decide)⟩
  · rw [exec_trip, carryOut_ok h (trip_ok s)]
    rfl
  · obtain ⟨horder, -, -, -⟩ := State.fields_of_tripped (s.view_doTrip b)
    exact ⟨horder, State.setPoint_of_none horder⟩
  · obtain ⟨-, hkept, -, -⟩ := State.fields_of_tripped (s.view_doTrip b)
    exact hkept hfree
  · obtain ⟨-, -, hreleased, -⟩ := State.fields_of_tripped (s.view_doTrip b)
    exact hreleased hengaged
  · obtain ⟨-, -, -, hmark⟩ := State.fields_of_tripped (s.view_doTrip b)
    exact hmark
  · rw [State.lastResult_doTrip, State.lastResult_tripQueue_held, s.baysTripped_frame.lastResult (by decide)]
    rw [hqueue]
    simpa using hheld
  · rw [State.lastResult_doTrip, State.lastResult_tripQueue_ended _ (r := s.tripTotal r)
      (hqueue.trans (by rw [hsplit, List.map_append, List.map_cons])) hr (by simpa using hback)]
    exact ⟨_, rfl, s.foldl_tripCount_mod r.id allBays r.delivered⟩
  · rw [State.gridFlags_doTrip]
    split
    · rfl
    · exact BitVec.or_assoc ..
  · rw [State.fleetFlags_doTrip]
    split
    · exact BitVec.or_assoc ..
    · rfl

end Sys2Proof.Proofs
end

section

/-!
SUPPORT. The soft reset behind a TRIP (O39), and the place of a submitted request in the queue (O20).
-/

namespace Sys2Proof.Machine

/-! ### RESET DEVICE (R153, R174) -/

theorem State.softReset_frame (s : State) : s.sameBut s.softReset [.device, .uptime, .roster, .bays, .faults, .orders,
    .queue, .lastResult, .notices, .lines, .pollQueue, .exchange, .grid, .gridFlags, .fleet, .fleetFlags,
    .changeSet] := by
  intro part hpart
  cases part
  all_goals first
    | rfl
    | simp at hpart

theorem State.ratedCap_doTrip (s : State) (b : BayNo) : (s.doTrip.bay b).ratedCap = (s.bay b).ratedCap := by
  obtain ⟨-, hkept, hreleased, -⟩ := State.fields_of_tripped (s.view_doTrip b)
  cases hengaged : (s.bay b).state.engaged with
  | true => rw [(hreleased hengaged).2]; rfl
  | false => rw [(hkept hengaged).1]

/-- A TRIP leaves the ports but for their event flags (R152). -/
theorem State.ports_doTrip (s : State) : s.doTrip.grid = { s.grid with flags := s.doTrip.grid.flags }
    ∧ s.doTrip.fleet = { s.fleet with flags := s.doTrip.fleet.flags } :=
  ⟨s.doTrip_frame.grid_flags (by decide), s.doTrip_frame.fleet_flags (by decide)⟩

theorem State.fleet_softReset (s : State) {x : PortState} {flags : Byte} (h : s.fleet = { x with flags := flags }) :
    s.softReset.fleet = { x with flags := 0x40, overrun := false, err := false } := by
  rw [State.softReset, h]
  rfl

theorem State.grid_softReset (s : State) {x : PortState} {flags : Byte} (h : s.grid = { x with flags := flags }) :
    s.softReset.grid = { x with
      flags := 0x10, overrun := false, err := false, reply := [], progress := .idle, ready := false
      transaction := x.transaction.map fun tr => { tr with discard := true } } := by
  rw [State.softReset, h]
  rfl

theorem resetDevice_ok (s : State) : resetDevice s = .ok (s.doTrip.softReset, [0]) := rfl

/-! ### SUBMIT REQUEST (R46, R65, R70) -/

/-- A submitted request goes behind the requests that do not start after it and before the first that does (R65). -/
theorem insertRequest_split (r : Request) (countdown : Nat) (l : List Request) : ∃ front back,
    insertRequest r countdown l = front ++ r :: back ∧ front ++ back = l
    ∧ (∀ q ∈ front, ∀ d, q.state = .held d → d ≤ countdown)
    ∧ ∀ q ∈ back.head?, ∃ d, q.state = .held d ∧ countdown < d := by
  induction l with
  | nil => exact ⟨[], [], rfl, rfl, by simp, by simp⟩
  | cons q rest ih =>
    obtain ⟨front, back, hinsert, hsplit, hfront, hback⟩ := ih
    have hbehind (hq : ∀ d, q.state = .held d → d ≤ countdown)
        (h : insertRequest r countdown (q :: rest) = q :: insertRequest r countdown rest) : ∃ front back,
        insertRequest r countdown (q :: rest) = front ++ r :: back ∧ front ++ back = q :: rest
        ∧ (∀ q ∈ front, ∀ d, q.state = .held d → d ≤ countdown)
        ∧ ∀ q ∈ back.head?, ∃ d, q.state = .held d ∧ countdown < d :=
      ⟨q :: front, back, by rw [h, hinsert]; rfl, by rw [List.cons_append, hsplit],
        List.forall_mem_cons.mpr ⟨hq, hfront⟩, hback⟩
    cases hstate : q.state with
    | held d =>
      by_cases hlater : countdown < d
      · exact ⟨[], q :: rest, by simp [insertRequest, hstate, hlater], rfl, by simp, by simp [hstate, hlater]⟩
      · refine hbehind (fun d' hd' => ?_) (by simp [insertRequest, hstate, hlater])
        cases hstate.symm.trans hd'
        exact Nat.not_lt.mp hlater
    | active _ _ => exact hbehind (fun d hd => by simp [hstate] at hd) (by simp [insertRequest, hstate])
    | ending _ => exact hbehind (fun d hd => by simp [hstate] at hd) (by simp [insertRequest, hstate])

theorem submitRequest_accepted {id start length power profile release : Nat} {s : State} {p : Profile}
    (hrun : s.device = .run) (hrange : submitInRange id start length power profile release = true)
    (hp : s.profiles[profile]? = some (some p)) (hid : ¬∃ r ∈ s.queue, r.id = id) (hroom : ¬4 ≤ s.queue.length)
    (hhorizon : ¬(startCountdown start s.clock < p.lead + 30 ∨ 43200 < startCountdown start s.clock))
    (hmeets : ¬ s.overlapsQueue ((startCountdown start s.clock : Int) - p.lead,
      (startCountdown start s.clock : Int) + length) = true) :
    let c := startCountdown start s.clock
    let a := s.evaluate (offerTerms id p power c length)
    submitRequest id start length power profile release s = .ok ({ s with
      queue := insertRequest (newRequest id length power profile c (release == 1) a) c s.queue },
      le1 id ++ le2 a.grant ++ le2 c ++ le1 a.list.length) := by
  simp [submitRequest, hrun, hrange, hp, mt (s.isSome_request? id).mp hid, hroom, hhorizon, hmeets]

end Sys2Proof.Machine

namespace Sys2Proof.Proofs

open Sys2Proof.Machine

/-- Settles O39: the soft reset's values over the part a TRIP leaves. -/
theorem softResetKeepsAndSets : Obligations.SoftResetKeepsAndSets := by
  unfold Obligations.SoftResetKeepsAndSets
  intro s h
  have hexec : exec .resetDevice s = .next (s.doTrip.softReset.answer .fleet [0, 0]) := by
    rw [exec_resetDevice, carryOut_ok h (resetDevice_ok s)]
  have hroster : s.doTrip.roster = s.roster := s.doTrip_frame.roster (by decide)
  have hrated := s.ratedCap_doTrip
  obtain ⟨hgrid, hfleet⟩ := s.ports_doTrip
  have hframe : s.sameBut s.doTrip.softReset _ := (s.doTrip_frame.mono (by decide)).trans s.doTrip.softReset_frame
  refine ⟨s.doTrip.softReset, hexec, ?_⟩
  generalize s.doTrip = u at hroster hrated hgrid hfleet hframe
  refine ⟨rfl, rfl, ?_, fun b => ?_, fun b => ?_, fun b => u.order_softReset b, rfl, rfl, rfl, fun b => ?_, rfl, rfl,
    rfl, u.fleet_softReset hfleet, u.grid_softReset hgrid, hframe⟩
  · rw [← hroster]
    rfl
  · rw [State.bay_softReset, BayRecord.softReset, hrated]
    rfl
  · simp [State.softReset, State.faultSet]
    rfl
  · simp [State.softReset, State.line]
    rfl

/-- Settles O20: the checks passed one after the other, then the record's place by its countdown. -/
theorem submitStoresOffer : Obligations.SubmitStoresOffer := by
  unfold Obligations.SubmitStoresOffer
  intro id start length power profile release i e s h hrun hid hstart hshort hlong hweak hstrong hindex hrelease hloaded
    hfree hroom c hc hearly hlate hapart a
  have hcount : startCountdown start.toNat s.clock = c := by
    have hcast := natCast_startCountdown start.toNat s.clock
    omega
  have hpower : power ≠ 0 := by
    rintro rfl
    simp at hweak
  have hrange := (submitInRange_iff id start length power profile release).mpr (by
    simp only [hid, hpower, false_or]
    omega)
  have hprofile := (s.profiles_getElem?_fin hindex).trans (congrArg some hloaded)
  have hmeets : ¬ s.overlapsQueue ((c : Int) - e.lead, (c : Int) + length.toNat) = true := by
    rw [State.overlapsQueue_iff]
    rintro ⟨r, hr, q, hq, hbefore, hafter⟩
    have := hapart r hr q hq
    omega
  have haccepted := submitRequest_accepted (power := power.toNat) (release := release.toNat) hrun hrange hprofile
    (by rintro ⟨r, hr, hsame⟩; exact hfree r hr hsame) (by omega) (by rw [hcount]; omega) (by rw [hcount]; exact hmeets)
  simp only [hcount] at haccepted
  have hrecord : newRequest id.toNat length.toNat power.toNat profile.toNat c (release.toNat == 1) a =
      ⟨id.toNat, .held c, length.toNat, power.toNat, a.grant, a.grant, i.val, decide (release = 1), a.list, 0⟩ := by
    have hflag : (release.toNat == 1) = decide (release = 1) := by
      rw [beq_eq_decide]
      exact decide_eq_decide.mpr (BitVec.toNat_inj (y := 1))
    rw [newRequest, hflag, hindex]
  obtain ⟨front, back, hinsert, hsplit, hfront, hback⟩ := insertRequest_split
    (newRequest id.toNat length.toNat power.toNat profile.toNat c (release.toNat == 1) a) c s.queue
  refine ⟨front, back, ?_, hsplit, hfront, hback⟩
  rw [exec_submitRequest, carryOut_ok h haccepted, le1_eq_singleton rfl, ← hrecord, ← hinsert]
  rfl

end Sys2Proof.Proofs
end

section

/-!
SUPPORT. The orders of a request brought into line with a participant list (R83, R94, R103, R108), bay by bay: target
changes, orders that drop out, new orders; and the orders of a request that take a cause (R73, R77, R78).
-/

namespace Sys2Proof.Machine

/-! ### What the queue tells an order -/

theorem State.sameBut.request? {s t : State} {ps : List Part} (h : s.sameBut t ps) (hq : .queue ∉ ps) (id : Nat) :
    t.request? id = s.request? id := by
  rw [State.request?, State.request?, h.queue hq]

theorem State.sameBut.releaseOnEnd {s t : State} {ps : List Part} (h : s.sameBut t ps) (hq : .queue ∉ ps) (id : Nat) :
    t.releaseOnEnd id = s.releaseOnEnd id := by
  rw [State.releaseOnEnd, State.releaseOnEnd, h.request? hq]

theorem State.sameBut.profileOf {s t : State} {ps : List Part} (h : s.sameBut t ps) (hq : .queue ∉ ps)
    (hp : .profiles ∉ ps) (id : Nat) : t.profileOf id = s.profileOf id := by
  rw [State.profileOf, State.profileOf, h.request? hq]
  cases s.request? id with
  | none => rfl
  | some r => exact congrArg (fun profiles => State.profileAt { s with profiles := profiles } r.profile) (h.profiles hp)

theorem State.setPoint_of_view {s t : State} {b : BayNo} (h : t.view b = s.view b) : t.setPoint b = s.setPoint b :=
  State.setPoint_congr (congrArg BayRecord.state (State.bay_of_view h)) (State.order_of_view h)

/-! ### New orders (R94, R97) -/

section
variable {s : State} {b : BayNo}

theorem State.createEntry_onlyAt (id remaining : Nat) (s : State) (e : Participant) :
    s.onlyAt (State.createEntry id remaining s e) e.bay := by
  unfold State.createEntry
  split
  · exact s.onlyAt_refl _
  · exact s.createOrder_onlyAt _ _ _ _

theorem newOrder_eq (id target quota : Nat) :
    newOrder id target quota = ⟨id, target, min 16777215 quota, 0, 0, .waitBind, none, false, none, false⟩ := by
  simp [newOrder, saturate, Nat.min_comm]

theorem State.createOrder_parked (h : (s.bay b).state = .parked) (id target quota : Nat) :
    ((s.createOrder id b target quota).bay b
      = { s.bay b with state := .binding, candidate := none, stateTimer := some 20 })
    ∧ (s.createOrder id b target quota).order b = some (newOrder id target quota)
    ∧ b ∈ (s.createOrder id b target quota).pollQueue := by
  have hcreate : s.createOrder id b target quota = (((s.setOrder b (some (newOrder id target quota))).modBay b
      fun r => { r with stateTimer := some bindingTime }).setBayState b .binding).join b := by
    simp only [State.createOrder, h]
  rw [hcreate]
  exact ⟨by simp [State.bay_setBayState, h, BayRecord.toState, bindingTime], by simp, State.mem_join _ b⟩

theorem State.createOrder_settling (h : (s.bay b).state = .bound) (hsettle : (s.bay b).settleTimer ≠ none)
    (id target quota : Nat) : s.createOrder id b target quota = s.setOrder b (some (newOrder id target quota)) := by
  simp only [State.createOrder, h, Option.isSome_iff_ne_none, if_pos hsettle]

theorem State.createOrder_settled (h : (s.bay b).state = .bound) (hsettle : (s.bay b).settleTimer = none)
    (id target quota : Nat) : s.createOrder id b target quota = s.firstStep b (newOrder id target quota) := by
  simp [State.createOrder, h, hsettle]

end

/-- A new order, in the state its own creation reads (R25, R94, R97). -/
theorem State.orderCreated_createOrder {s m t : State} {b : BayNo} {id target quota ps : Nat} {earlier : List BayNo}
    (hturn : t.view b = (m.createOrder id b target quota).view b) (hbay : m.bay b = s.bay b)
    (hps : (m.profileOf id).ps = ps) (hlimit : m.site.limit = s.site.limit)
    (hpoints : ∀ c, c ≠ b → m.setPoint c = if c ∈ earlier then t.setPoint c else s.setPoint c) :
    s.orderCreated t b id target quota ps earlier := by
  unfold State.orderCreated
  refine ⟨fun hstate => ?_, fun hstate hsettle => ?_, fun hstate hsettle => ?_⟩
  all_goals rw [State.bay_of_view hturn, State.order_of_view hturn]
  · obtain ⟨hrecord, horder, hwaits⟩ := State.createOrder_parked (s := m) (b := b) (by rw [hbay]; exact hstate) id target quota
    exact ⟨hrecord.trans (by rw [hbay]), horder.trans (by rw [newOrder_eq]), (State.waits_of_view hturn).mpr hwaits⟩
  · rw [State.createOrder_settling (by rw [hbay]; exact hstate) (by rw [hbay]; exact hsettle)]
    exact ⟨hbay, (State.order_setOrder ..).trans (by rw [newOrder_eq])⟩
  · have hcreate := State.createOrder_settled (s := m) (b := b) (by rw [hbay]; exact hstate) (by rw [hbay]; exact hsettle)
      id target quota
    have hothers : (allBays.filter (· ≠ b)).map m.setPoint
        = (allBays.filter (· ≠ b)).map fun c => if c ∈ earlier then t.setPoint c else s.setPoint c :=
      List.map_congr_left fun c hc => hpoints c (by simpa using (List.mem_filter.mp hc).2)
    have hsp : m.firstSetPoint b (newOrder id target quota) = min ps (min (s.bay b).capEff (min (min Config.energyMax quota)
        (s.site.limit - ((allBays.filter (· ≠ b)).map fun c => if c ∈ earlier then t.setPoint c else s.setPoint c).sum))) := by
      rw [State.firstSetPoint, hothers, hbay, hlimit]
      have hrequest : (newOrder id target quota).request = id := rfl
      rw [hrequest, hps]
      simp [newOrder, saturate, Nat.min_comm]
    rw [hcreate, State.bay_firstStep (by simp [hbay, hstate]), State.order_firstStep, hsp, hbay]
    refine ⟨rfl, ?_, ?_⟩
    · rw [State.waits_of_view hturn, hcreate]
      exact State.mem_firstStep m b _
    · simp [newOrder, saturate, Nat.min_comm]

/-- The new orders of a participant list are created in its order, each reading the set-points of those before it. -/
theorem State.orderCreated_foldl {s u : State} {id remaining ps : Nat} {front back : List Participant} {e : Participant}
    (hnodup : ((front ++ e :: back).map (·.bay)).Nodup) (horder : u.order e.bay = none)
    (hbay : u.bay e.bay = s.bay e.bay) (hps : (u.profileOf id).ps = ps) (hlimit : u.site.limit = s.site.limit)
    (hpoints : ∀ c, u.setPoint c = s.setPoint c) :
    s.orderCreated ((front ++ e :: back).foldl (State.createEntry id remaining) u) e.bay id e.target
      (e.target * remaining) ps (front.map (·.bay)) := by
  have hturns := State.createEntry_onlyAt id remaining
  obtain ⟨hfront, hturn⟩ := view_foldl_split (place := Participant.bay) hturns hnodup u
  have hframe : u.sameBut (front.foldl (State.createEntry id remaining) u) orderEndParts :=
    State.sameBut_foldl _ (State.createEntry_frame id remaining) front u
  have hcreate : State.createEntry id remaining (front.foldl (State.createEntry id remaining) u) e
      = (front.foldl (State.createEntry id remaining) u).createOrder id e.bay e.target (e.target * remaining) := by
    simp only [State.createEntry, State.order_of_view hfront, horder]
  refine State.orderCreated_createOrder (hturn.trans (by rw [hcreate])) ((State.bay_of_view hfront).trans hbay)
    ((congrArg Profile.ps (hframe.profileOf (by decide) (by decide) id)).trans hps)
    ((congrArg Site.limit (hframe.site (by decide))).trans hlimit) fun c hc => ?_
  by_cases hearlier : c ∈ front.map (·.bay)
  · rw [if_pos hearlier, List.foldl_append]
    refine (State.setPoint_of_view (view_foldl_not_mem (place := Participant.bay) hturns (fun a ha he => ?_) _)).symm
    rw [List.map_append, List.map_cons] at hnodup
    obtain ⟨-, -, hdisjoint⟩ := List.nodup_append.mp hnodup
    exact hdisjoint c hearlier a.bay (List.mem_map_of_mem (f := (·.bay)) ha) he.symm
  · rw [if_neg hearlier, ← hpoints c]
    refine State.setPoint_of_view (view_foldl_not_mem (place := Participant.bay) hturns (fun a ha he => ?_) u)
    exact hearlier (he ▸ List.mem_map_of_mem (f := (·.bay)) ha)

/-! ### Causes of the Request Queue (R104, R108) -/

theorem State.view_setOrder (s : State) (b : BayNo) (o : Option Order) :
    (s.setOrder b o).view b = { s.view b with order := o } := by
  rw [State.view, State.order_setOrder]
  rfl

/-- The causes that only make an order decline (R104). -/
def EndCause.plain (cause : EndCause) : Bool :=
  cause != .departureGuard && cause != .withdrawn && cause != .isolationDue

theorem Order.declineFor_plain (o : Order) {cause : EndCause} (h : cause.plain = true) : o.declineFor cause = { o with
    phase := .decline, endCause := if o.phase = .decline then o.endCause else some cause } := by
  simp only [EndCause.plain, Bool.and_eq_true, bne_iff_ne] at h
  obtain ⟨⟨hguard, hwithdrawn⟩, hisolation⟩ := h
  simp [Order.declineFor, hguard, hwithdrawn, hisolation, beq_eq_false_iff_ne.mpr]

section
variable {s : State} {b : BayNo} {o : Order}

theorem State.endFor_running (hphase : o.phase ≠ .waitBind) (cause : EndCause) :
    s.endFor b o cause = s.setOrder b (some (o.declineFor cause)) := if_neg hphase

theorem State.endFor_waiting (hphase : o.phase = .waitBind) (cause : EndCause) :
    s.endFor b o cause = s.removeWaitBind b o cause := if_pos hphase

/-- A removed WAIT_BIND order leaves its bay released or as it was (R108). -/
theorem State.removeWaitBind_cases (s : State) (b : BayNo) (o : Order) (cause : EndCause) :
    let released : Prop := (s.bay b).state = .binding
      ∨ (s.bay b).state = .bound ∧ ((s.bay b).link = none ∨ s.releaseOnEnd o.request = true)
    (released → s.removeWaitBind b o cause = (s.abortOrder b cause false).release b)
    ∧ (¬released → s.removeWaitBind b o cause = s.abortOrder b cause false) := by
  unfold State.removeWaitBind State.afterRemoval
  simp only [State.bay_abortOrder, State.releaseOnEnd_abortOrder]
  cases hstate : (s.bay b).state
  case bound =>
    by_cases hreleases : (s.bay b).link = none ∨ s.releaseOnEnd o.request = true <;> simp [hreleases]
  all_goals simp

theorem State.order_removeWaitBind (s : State) (b : BayNo) (o : Order) (cause : EndCause) :
    (s.removeWaitBind b o cause).order b = none := by
  obtain ⟨hreleased, hkept⟩ := s.removeWaitBind_cases b o cause
  by_cases h : (s.bay b).state = .binding
      ∨ (s.bay b).state = .bound ∧ ((s.bay b).link = none ∨ s.releaseOnEnd o.request = true)
  · rw [hreleased h, State.order_release, State.order_abortOrder]
  · rw [hkept h, State.order_abortOrder]

theorem State.notices_removeWaitBind (ho : s.order b = some o) (cause : EndCause) :
    (s.removeWaitBind b o cause).notices = s.notices ++ [.orderEnd o.request b (some cause) o.delivered false] := by
  obtain ⟨hreleased, hkept⟩ := s.removeWaitBind_cases b o cause
  by_cases h : (s.bay b).state = .binding
      ∨ (s.bay b).state = .bound ∧ ((s.bay b).link = none ∨ s.releaseOnEnd o.request = true)
  · rw [hreleased h, State.release_notices, State.notices_abortOrder _ _ _ _ _ ho]
  · rw [hkept h, State.notices_abortOrder _ _ _ _ _ ho]

theorem State.mem_abortOrder (ho : s.order b = some o) (cause : EndCause) (m : Bool) :
    b ∈ (s.abortOrder b cause m).pollQueue := by
  simp only [State.abortOrder, ho]
  exact State.mem_join _ b

theorem State.mem_removeWaitBind (ho : s.order b = some o) (cause : EndCause) :
    b ∈ (s.removeWaitBind b o cause).pollQueue := by
  obtain ⟨hreleased, hkept⟩ := s.removeWaitBind_cases b o cause
  by_cases h : (s.bay b).state = .binding
      ∨ (s.bay b).state = .bound ∧ ((s.bay b).link = none ∨ s.releaseOnEnd o.request = true)
  · rw [hreleased h]
    exact State.mem_startRelease _ b
  · rw [hkept h]
    exact State.mem_abortOrder ho cause false

theorem State.bay_removeWaitBind (s : State) (b : BayNo) (o : Order) (cause : EndCause) :
    (s.removeWaitBind b o cause).bay b = if (s.bay b).state = .binding
      ∨ (s.bay b).state = .bound ∧ ((s.bay b).link = none ∨ s.releaseOnEnd o.request = true)
      then (s.bay b).released else s.bay b := by
  obtain ⟨hreleased, hkept⟩ := s.removeWaitBind_cases b o cause
  split
  next h =>
    have hstate : (s.bay b).state ≠ .releasing := by
      rintro he
      simp [he] at h
    rw [hreleased h, (State.bayReleased_abort hstate cause false).1]
    rfl
  next h => rw [hkept h, State.bay_abortOrder]

end

/-! ### Target changes (R103) -/

section
variable (id remaining : Nat)

theorem State.retargetEntry_onlyAt (s : State) (e : Participant) :
    s.onlyAt (State.retargetEntry id remaining s e) e.bay := by
  unfold State.retargetEntry
  split
  · split
    · exact s.setOrder_onlyAt _ _
    · exact s.onlyAt_refl _
  · exact s.onlyAt_refl _

theorem State.retargetEntry_same {s : State} {e : Participant} (h : ∀ o, s.order e.bay = some o → o.request ≠ id) :
    State.retargetEntry id remaining s e = s := by
  unfold State.retargetEntry
  split
  next o ho => exact if_neg (h o ho)
  next => rfl

theorem State.retargetEntry_order {s : State} {e : Participant} {o : Order} (ho : s.order e.bay = some o)
    (hid : o.request = id) :
    State.retargetEntry id remaining s e = s.setOrder e.bay (some (o.retarget e.target remaining)) := by
  simp only [State.retargetEntry, ho, if_pos hid]

/-- A bay without an order of the request takes no new target. -/
theorem State.view_retarget_same {list : List Participant} {s : State} {b : BayNo}
    (hnodup : (list.map (·.bay)).Nodup) (h : ∀ o, s.order b = some o → o.request ≠ id) :
    (list.foldl (State.retargetEntry id remaining) s).view b = s.view b := by
  have hturns := State.retargetEntry_onlyAt id remaining
  by_cases hmem : b ∈ list.map (·.bay)
  · obtain ⟨e, he, rfl⟩ := List.mem_map.mp hmem
    obtain ⟨front, back, rfl⟩ := List.append_of_mem he
    obtain ⟨hfront, hturn⟩ := view_foldl_split (place := Participant.bay) hturns hnodup s
    rw [hturn, State.retargetEntry_same id remaining (by rw [State.order_of_view hfront]; exact h), hfront]
  · refine view_foldl_not_mem (place := Participant.bay) hturns (fun a ha he => ?_) s
    exact hmem (he ▸ List.mem_map_of_mem (f := (·.bay)) ha)

/-- A participant's order of the request takes its new target. -/
theorem State.view_retarget_order {list : List Participant} {s : State} {e : Participant} {o : Order}
    (hnodup : (list.map (·.bay)).Nodup) (he : e ∈ list) (ho : s.order e.bay = some o) (hid : o.request = id) :
    (list.foldl (State.retargetEntry id remaining) s).view e.bay
      = { s.view e.bay with order := some (o.retarget e.target remaining) } := by
  obtain ⟨front, back, rfl⟩ := List.append_of_mem he
  obtain ⟨hfront, hturn⟩ := view_foldl_split (place := Participant.bay) (State.retargetEntry_onlyAt id remaining) hnodup s
  rw [hturn, State.retargetEntry_order id remaining (by rw [State.order_of_view hfront]; exact ho) hid,
    State.view_setOrder, hfront]

end

end Sys2Proof.Machine
end

section

/-!
SUPPORT. The orders of a request after a re-split (R83): drop-outs, the notices they hand, and the whole alignment; and
after a cause that ends the request (R73, R77, R78).
-/

namespace Sys2Proof.Machine

/-- The notices of turns that each hand what they find at their bay. -/
theorem notices_foldl {f : State → BayNo → State} (handed : BayNo → BayView → Option Notice)
    (hf : ∀ s b, State.onlyAt s (f s b) b)
    (hturn : ∀ s b, (f s b).notices = s.notices ++ (handed b (s.view b)).toList)
    {l : List BayNo} (hl : l.Nodup) (s : State) :
    (l.foldl f s).notices = s.notices ++ l.filterMap fun b => handed b (s.view b) := by
  induction l generalizing s with
  | nil => simp
  | cons b rest ih =>
    obtain ⟨hb, hrest⟩ := List.nodup_cons.mp hl
    have hlater : rest.filterMap (fun c => handed c ((f s b).view c)) = rest.filterMap fun c => handed c (s.view c) :=
      List.filterMap_congr fun c hc => by rw [hf s b c (fun he => hb (he ▸ hc))]
    rw [List.foldl_cons, ih hrest, hlater, hturn, List.filterMap_cons, List.append_assoc]
    cases handed b (s.view b) <;> rfl

/-- The notice of a removed WAIT_BIND order of a request, at a bay outside a participant list (R74, R108). -/
def removalNotice (id : Nat) (list : List Participant) (cause : EndCause) (b : BayNo) (v : BayView) : Option Notice :=
  match v.order with
  | some o =>
    if o.request = id ∧ o.phase = .waitBind ∧ ∀ e ∈ list, e.bay ≠ b then
      some (.orderEnd id b (some cause) o.delivered false)
    else none
  | none => none

theorem State.removalNotices_eq (s : State) (id : Nat) (list : List Participant) (cause : EndCause) :
    s.removalNotices id list cause = allBays.filterMap fun b => removalNotice id list cause b (s.view b) := rfl

/-! ### Drop-outs (R83) -/

section
variable {s : State} {b : BayNo} {o : Order} {id : Nat} {list : List Participant}

theorem State.dropOutEntry_onlyAt (id : Nat) (list : List Participant) (s : State) (b : BayNo) :
    s.onlyAt (State.dropOutEntry id list s b) b := by
  unfold State.dropOutEntry
  split
  · split
    · exact s.endFor_onlyAt b _ _
    · exact s.onlyAt_refl b
  · exact s.onlyAt_refl b

theorem all_bay_ne {list : List Participant} {b : BayNo} :
    (list.all fun e => e.bay != b) = true ↔ ∀ e ∈ list, e.bay ≠ b := by
  simp

/-- An order stays where it is of another request, declines already or has a place in the list. -/
theorem State.dropOutEntry_same
    (h : ∀ o, s.order b = some o → ¬(o.request = id ∧ o.phase ≠ .decline ∧ ∀ e ∈ list, e.bay ≠ b)) :
    State.dropOutEntry id list s b = s := by
  unfold State.dropOutEntry
  split
  next o ho => exact if_neg fun hdrops => h o ho (by rwa [all_bay_ne] at hdrops)
  next => rfl

theorem State.dropOutEntry_order (ho : s.order b = some o) (hid : o.request = id) (hphase : o.phase ≠ .decline)
    (hlist : ∀ e ∈ list, e.bay ≠ b) : State.dropOutEntry id list s b = s.endFor b o .resplit := by
  simp only [State.dropOutEntry, ho, if_pos (And.intro hid (And.intro hphase (all_bay_ne.mpr hlist)))]

/-- What the end of an order for a cause of the Request Queue hands (R74, R108). -/
theorem State.notices_endFor (ho : s.order b = some o) (cause : EndCause) : (s.endFor b o cause).notices =
    s.notices ++ if o.phase = .waitBind then [.orderEnd o.request b (some cause) o.delivered false] else [] := by
  by_cases hphase : o.phase = .waitBind
  · rw [State.endFor_waiting hphase, State.notices_removeWaitBind ho, if_pos hphase]
  · rw [State.endFor_running hphase, if_neg hphase, List.append_nil]
    rfl

theorem State.notices_dropOutEntry (id : Nat) (list : List Participant) (s : State) (b : BayNo) :
    (State.dropOutEntry id list s b).notices = s.notices ++ (removalNotice id list .resplit b (s.view b)).toList := by
  cases ho : s.order b with
  | none =>
    have hslot : (s.view b).order = none := ho
    rw [State.dropOutEntry_same (by simp [ho]), removalNotice, hslot]
    simp
  | some o =>
    have hslot : (s.view b).order = some o := ho
    simp only [removalNotice, hslot]
    by_cases hdrops : o.request = id ∧ o.phase ≠ .decline ∧ ∀ e ∈ list, e.bay ≠ b
    · obtain ⟨hid, hphase, hlist⟩ := hdrops
      rw [State.dropOutEntry_order ho hid hphase hlist, State.notices_endFor ho]
      by_cases hwaits : o.phase = .waitBind
      · rw [if_pos hwaits, if_pos ⟨hid, hwaits, hlist⟩, hid]
        rfl
      · rw [if_neg hwaits, if_neg (fun h => hwaits h.2.1)]
        rfl
    · rw [State.dropOutEntry_same (by rintro o' ho'; cases ho.symm.trans ho'; exact hdrops), if_neg]
      · simp
      · rintro ⟨hid, hwaits, hlist⟩
        exact hdrops ⟨hid, by simp [hwaits], hlist⟩

end

/-! ### The alignment, stage by stage (R83) -/

/-- The part after the target changes of a re-split. -/
def State.retargeted (s : State) (id remaining : Nat) (list : List Participant) : State :=
  list.foldl (State.retargetEntry id remaining) s

/-- The part after the target changes and the drop-outs of a re-split. -/
def State.trimmed (s : State) (id remaining : Nat) (list : List Participant) : State :=
  allBays.foldl (State.dropOutEntry id list) (s.retargeted id remaining list)

theorem State.alignOrders_eq (s : State) (id remaining : Nat) (list : List Participant) :
    s.alignOrders id remaining list = list.foldl (State.createEntry id remaining) (s.trimmed id remaining list) := rfl

theorem State.retargeted_frame (s : State) (id remaining : Nat) (list : List Participant) :
    s.sameBut (s.retargeted id remaining list) orderEndParts :=
  State.sameBut_foldl _ (fun s e => (State.retargetEntry_frame id remaining s e).mono (by decide)) list s

theorem State.trimmed_frame (s : State) (id remaining : Nat) (list : List Participant) :
    s.sameBut (s.trimmed id remaining list) orderEndParts :=
  (s.retargeted_frame id remaining list).trans
    (State.sameBut_foldl _ (fun s b => (State.dropOutEntry_frame id list s b).mono (by decide)) allBays _)

section
variable {s : State} {b : BayNo} {o : Order} (id remaining : Nat) {list : List Participant}

theorem State.notices_retargetEntry (s : State) (e : Participant) :
    (State.retargetEntry id remaining s e).notices = s.notices := by
  unfold State.retargetEntry
  split
  · split <;> rfl
  · rfl

theorem State.notices_createEntry (s : State) (e : Participant) :
    (State.createEntry id remaining s e).notices = s.notices := by
  unfold State.createEntry State.createOrder
  dsimp only
  split
  · rfl
  · split
    · simp
    · split
      · rfl
      · simp [State.firstStep]
    · rfl

theorem foldl_keeps {α β : Type} {f : State → α → State} (g : State → β) (h : ∀ s a, g (f s a) = g s) (l : List α)
    (s : State) : g (l.foldl f s) = g s := by
  induction l generalizing s with
  | nil => rfl
  | cons a rest ih => rw [List.foldl_cons, ih, h]

/-- A bay's turn at the drop-outs, taken in a state that has the bay and the queue as the first has them. -/
theorem State.view_trimmed (s : State) (b : BayNo) (list : List Participant) : ∃ m : State,
    m.view b = (s.retargeted id remaining list).view b ∧ (∀ n, m.releaseOnEnd n = s.releaseOnEnd n)
    ∧ (s.trimmed id remaining list).view b = (State.dropOutEntry id list m b).view b := by
  obtain ⟨front, back, -, hfront, hturn⟩ :=
    view_foldl_allBays (State.dropOutEntry_onlyAt id list) (s.retargeted id remaining list) b
  have hframe : s.sameBut (front.foldl (State.dropOutEntry id list) (s.retargeted id remaining list)) orderEndParts :=
    (s.retargeted_frame id remaining list).trans
      (State.sameBut_foldl _ (fun s b => (State.dropOutEntry_frame id list s b).mono (by decide)) front _)
  exact ⟨_, hfront, fun n => hframe.releaseOnEnd (by decide) n, hturn⟩

/-- A bay without an order of the request is as it was up to the new orders. -/
theorem State.view_trimmed_foreign (hnodup : (list.map (·.bay)).Nodup) (h : ∀ o, s.order b = some o → o.request ≠ id) :
    (s.trimmed id remaining list).view b = s.view b := by
  obtain ⟨m, hm, -, hturn⟩ := s.view_trimmed id remaining b list
  have hsame : m.view b = s.view b := hm.trans (State.view_retarget_same id remaining hnodup h)
  rw [hturn, State.dropOutEntry_same, hsame]
  rintro o ho ⟨hid, -, -⟩
  rw [State.order_of_view hsame] at ho
  exact h o ho hid

/-- A participant's order of the request has its new target. -/
theorem State.view_trimmed_listed {e : Participant} (hnodup : (list.map (·.bay)).Nodup) (he : e ∈ list)
    (ho : s.order e.bay = some o) (hid : o.request = id) : (s.trimmed id remaining list).view e.bay
      = { s.view e.bay with order := some (o.retarget e.target remaining) } := by
  obtain ⟨m, hm, -, hturn⟩ := s.view_trimmed id remaining e.bay list
  rw [hturn, State.dropOutEntry_same, hm]
  · exact State.view_retarget_order id remaining hnodup he ho hid
  · rintro o' - ⟨-, -, hlist⟩
    exact hlist e he rfl

/-- A bay outside the list keeps its order, whatever it is, up to the drop-outs. -/
theorem State.view_retargeted_unlisted (hlist : ∀ e ∈ list, e.bay ≠ b) :
    (s.retargeted id remaining list).view b = s.view b :=
  view_foldl_not_mem (place := Participant.bay) (State.retargetEntry_onlyAt id remaining) hlist s

theorem State.view_trimmed_declining (hlist : ∀ e ∈ list, e.bay ≠ b) (ho : s.order b = some o)
    (hphase : o.phase = .decline) : (s.trimmed id remaining list).view b = s.view b := by
  obtain ⟨m, hm, -, hturn⟩ := s.view_trimmed id remaining b list
  have hsame := hm.trans (State.view_retargeted_unlisted id remaining hlist)
  rw [hturn, State.dropOutEntry_same, hsame]
  rintro o' ho' ⟨-, hnot, -⟩
  rw [State.order_of_view hsame, ho] at ho'
  cases ho'
  exact hnot hphase

/-- An order of the request outside the list ends for RESPLIT. -/
theorem State.view_trimmed_dropped (hlist : ∀ e ∈ list, e.bay ≠ b) (ho : s.order b = some o) (hid : o.request = id)
    (hphase : o.phase ≠ .decline) : ∃ m : State, m.view b = s.view b ∧ (∀ n, m.releaseOnEnd n = s.releaseOnEnd n)
    ∧ (s.trimmed id remaining list).view b = (m.endFor b o .resplit).view b := by
  obtain ⟨m, hm, hends, hturn⟩ := s.view_trimmed id remaining b list
  have hsame := hm.trans (State.view_retargeted_unlisted id remaining hlist)
  refine ⟨m, hsame, hends, ?_⟩
  rw [hturn, State.dropOutEntry_order (by rw [State.order_of_view hsame]; exact ho) hid hphase hlist]

/-- The new orders leave a bay that has an order, and one outside the list. -/
theorem State.view_created_same {u : State} (h : (∃ o, u.order b = some o) ∨ ∀ e ∈ list, e.bay ≠ b)
    (hnodup : (list.map (·.bay)).Nodup) : (list.foldl (State.createEntry id remaining) u).view b = u.view b := by
  have hturns := State.createEntry_onlyAt id remaining
  by_cases hmem : b ∈ list.map (·.bay)
  · obtain ⟨e, he, rfl⟩ := List.mem_map.mp hmem
    obtain ⟨o, ho⟩ := h.resolve_right fun hlist => hlist e he rfl
    obtain ⟨front, back, rfl⟩ := List.append_of_mem he
    obtain ⟨hfront, hturn⟩ := view_foldl_split (place := Participant.bay) hturns hnodup u
    have hkept : State.createEntry id remaining (front.foldl (State.createEntry id remaining) u) e
        = front.foldl (State.createEntry id remaining) u := by
      simp only [State.createEntry, State.order_of_view hfront, ho]
    rw [hturn, hkept, hfront]
  · refine view_foldl_not_mem (place := Participant.bay) hturns (fun a ha he => ?_) u
    exact hmem (he ▸ List.mem_map_of_mem (f := (·.bay)) ha)

theorem State.fields_of_view_order {s t : State} {b : BayNo} {x : Option Order}
    (h : t.view b = { s.view b with order := x }) : t.bay b = s.bay b ∧ t.order b = x :=
  ⟨congrArg BayView.bay h, congrArg BayView.order h⟩

/-- Neither target changes nor drop-outs move a set-point, with the orders in their places. -/
theorem State.setPoint_trimmed (hplaced : s.ordersPlaced) (hnodup : (list.map (·.bay)).Nodup) (b : BayNo) :
    (s.trimmed id remaining list).setPoint b = s.setPoint b := by
  by_cases hforeign : ∀ o, s.order b = some o → o.request ≠ id
  · exact State.setPoint_of_view (State.view_trimmed_foreign id remaining hnodup hforeign)
  push Not at hforeign
  obtain ⟨o, ho, hid⟩ := hforeign
  by_cases hlist : ∀ e ∈ list, e.bay ≠ b
  · by_cases hphase : o.phase = .decline
    · exact State.setPoint_of_view (State.view_trimmed_declining id remaining hlist ho hphase)
    obtain ⟨m, hm, -, hview⟩ := State.view_trimmed_dropped id remaining hlist ho hid hphase
    rw [State.setPoint_of_view hview, ← State.setPoint_of_view hm]
    have hmo : m.order b = some o := (State.order_of_view hm).trans ho
    by_cases hwaits : o.phase = .waitBind
    · have hstate : (m.bay b).state ≠ .transfer := by
        rw [State.bay_of_view hm]
        intro htransfer
        obtain ⟨o', ho', hrunning⟩ := (hplaced b).2.2.1 htransfer
        cases ho.symm.trans ho'
        exact hrunning hwaits
      rw [State.endFor_waiting hwaits, State.setPoint_of_none (State.order_removeWaitBind ..),
        State.setPoint_of_ne_transfer hstate]
    · rw [State.endFor_running hwaits]
      simp [State.setPoint, hmo, Order.declineFor]
  · push Not at hlist
    obtain ⟨e, he, rfl⟩ := hlist
    have hview := State.view_trimmed_listed id remaining hnodup he ho hid
    generalize s.trimmed id remaining list = t at hview ⊢
    obtain ⟨hbay, horder⟩ := State.fields_of_view_order hview
    simp [State.setPoint, hbay, horder, ho, Order.level_retarget]

end

end Sys2Proof.Machine
end

section

/-!
SUPPORT. The alignment of a request's orders with a participant list (R83), as the statements put it.
-/

namespace Sys2Proof.Machine

section
variable {s : State} {b : BayNo} {o : Order} {id remaining : Nat} {list : List Participant}

/-- A bay that the new orders leave stands as the drop-outs left it. -/
theorem State.view_alignOrders (hnodup : (list.map (·.bay)).Nodup)
    (h : (∃ o, (s.trimmed id remaining list).order b = some o) ∨ ∀ e ∈ list, e.bay ≠ b) :
    (s.alignOrders id remaining list).view b = (s.trimmed id remaining list).view b := by
  rw [State.alignOrders_eq]
  exact State.view_created_same id remaining h hnodup

/-- A bay without an order of the request, or with an order that declines and no place in the list, stays. -/
theorem State.view_alignOrders_kept (hnodup : (list.map (·.bay)).Nodup)
    (h : (s.trimmed id remaining list).view b = s.view b)
    (hstays : (∃ o, s.order b = some o) ∨ ∀ e ∈ list, e.bay ≠ b) :
    (s.alignOrders id remaining list).order b = s.order b ∧ (s.alignOrders id remaining list).bay b = s.bay b := by
  have hview := (State.view_alignOrders hnodup (by rwa [State.order_of_view h])).trans h
  exact ⟨State.order_of_view hview, State.bay_of_view hview⟩

theorem Order.retarget_decline (h : o.phase = .decline) (target remaining : Nat) : o.retarget target remaining = o := by
  simp [Order.retarget, h]

theorem Order.retarget_running (h : o.phase ≠ .decline) (target remaining : Nat) :
    o.retarget target remaining = { o with
      target := target
      quota := min 16777215 (o.delivered + target * remaining)
      phase := if o.phase = .waitBind then .waitBind
        else if o.level < target then .rise else if o.level = target then .hold else .lower } := by
  unfold Order.retarget phaseFor saturate
  cases hphase : o.phase
  case decline => exact absurd hphase h
  case waitBind => simp [Nat.min_comm, Config.energyMax]
  all_goals simp [Nat.min_comm, Config.energyMax, eq_comm (a := target)]

theorem State.notices_trimmed (s : State) (id remaining : Nat) (list : List Participant) :
    (s.trimmed id remaining list).notices = s.notices ++ s.removalNotices id list .resplit := by
  rw [State.trimmed, notices_foldl (removalNotice id list .resplit) (State.dropOutEntry_onlyAt id list)
    (State.notices_dropOutEntry id list) nodup_allBays, State.removalNotices_eq]
  congr 1
  · exact foldl_keeps State.notices (State.notices_retargetEntry id remaining) list s
  · refine List.filterMap_congr fun b _ => ?_
    by_cases hlist : ∀ e ∈ list, e.bay ≠ b
    · rw [State.view_retargeted_unlisted id remaining hlist]
    · have hnone (v : BayView) : removalNotice id list .resplit b v = none := by
        unfold removalNotice
        split
        · exact if_neg fun h => hlist h.2.2
        · rfl
      rw [hnone, hnone]

end

/-- A re-split brings the orders into line with its list, when no bay stands in it twice (R83). -/
theorem State.ordersAligned_alignOrders {s : State} {id remaining ps : Nat} {list : List Participant}
    (hplaced : s.ordersPlaced) (hnodup : (list.map (·.bay)).Nodup) (hps : (s.profileOf id).ps = ps) :
    s.ordersAligned (s.alignOrders id remaining list) id remaining ps list := by
  have hnotices : (s.alignOrders id remaining list).notices = s.notices ++ s.removalNotices id list .resplit := by
    rw [State.alignOrders_eq, foldl_keeps State.notices (State.notices_createEntry id remaining),
      s.notices_trimmed id remaining list]
  refine ⟨hnotices, fun b => ⟨fun ho hlist => ?_, ?_, fun o ho => ⟨?_, ?_, ?_, ?_⟩⟩⟩
  · have hview := State.view_trimmed_foreign id remaining hnodup (s := s) (b := b) (by simp [ho])
    rw [← ho]
    exact State.view_alignOrders_kept hnodup hview (.inr hlist)
  · rintro ho front e back rfl rfl
    have hview := State.view_trimmed_foreign id remaining hnodup (s := s) (b := e.bay) (by simp [ho])
    have hframe := s.trimmed_frame id remaining (front ++ e :: back)
    rw [State.alignOrders_eq]
    exact State.orderCreated_foldl hnodup ((State.order_of_view hview).trans ho) (State.bay_of_view hview)
      ((congrArg Profile.ps (hframe.profileOf (by decide) (by decide) id)).trans hps)
      (congrArg Site.limit (hframe.site (by decide)))
      (fun c => State.setPoint_trimmed id remaining hplaced hnodup c)
  · intro hstays
    have hview : (s.trimmed id remaining list).view b = s.view b := by
      by_cases hid : o.request = id
      · have hphase := hstays.resolve_left (not_not_intro hid)
        by_cases hlist : ∀ e ∈ list, e.bay ≠ b
        · exact State.view_trimmed_declining id remaining hlist ho hphase
        · push Not at hlist
          obtain ⟨e, he, rfl⟩ := hlist
          rw [State.view_trimmed_listed id remaining hnodup he ho hid, Order.retarget_decline hphase, ← ho]
          rfl
      · exact State.view_trimmed_foreign id remaining hnodup (by rintro o' ho'; cases ho.symm.trans ho'; exact hid)
    rw [← ho]
    exact State.view_alignOrders_kept hnodup hview (.inl ⟨o, ho⟩)
  · rintro hid hphase e he rfl
    have hview := State.view_trimmed_listed id remaining hnodup he ho hid
    obtain ⟨-, horder⟩ := State.fields_of_view_order hview
    obtain ⟨hbay, horder⟩ := State.fields_of_view_order
      ((State.view_alignOrders hnodup (.inl ⟨_, horder⟩)).trans hview)
    exact ⟨hbay, horder.trans (by rw [Order.retarget_running hphase])⟩
  · intro hid hphase hwaits hlist
    obtain ⟨m, hm, -, hview⟩ := State.view_trimmed_dropped id remaining hlist ho hid hphase
    rw [State.endFor_running hwaits, State.view_setOrder, hm] at hview
    obtain ⟨hbay, horder⟩ := State.fields_of_view_order ((State.view_alignOrders hnodup (.inr hlist)).trans hview)
    refine ⟨hbay, horder.trans ?_⟩
    rw [Order.declineFor_plain o rfl, if_neg hphase]
  · intro hid hphase hlist
    obtain ⟨m, hm, hends, hview⟩ := State.view_trimmed_dropped id remaining hlist ho hid (by simp [hphase])
    have hmo : m.order b = some o := (State.order_of_view hm).trans ho
    replace hview := (State.view_alignOrders hnodup (.inr hlist)).trans hview
    rw [State.endFor_waiting hphase] at hview
    have hbay := State.bay_of_view hview
    rw [State.bay_removeWaitBind, State.bay_of_view hm, hends, hid] at hbay
    refine ⟨(State.order_of_view hview).trans (State.order_removeWaitBind ..),
      (State.waits_of_view hview).mpr (State.mem_removeWaitBind hmo _), ?_, fun hstate => ⟨fun hreleased => ?_, fun h => ?_⟩⟩
    · rw [hnotices, List.mem_append, State.removalNotices_eq, List.mem_filterMap]
      refine .inr ⟨b, mem_allBays b, ?_⟩
      have hslot : (s.view b).order = some o := ho
      simp only [removalNotice, hslot, if_pos (And.intro hid (And.intro hphase hlist))]
    · rw [if_pos (by tauto)] at hbay
      rw [hbay]
      exact ⟨rfl, rfl, rfl⟩
    · rw [if_neg (by tauto)] at hbay
      exact hbay

end Sys2Proof.Machine
end

section

/-!
SUPPORT. The split of an evaluation in split order (R58 to R61): the order itself, and what the bays before one leave it.
-/

namespace Sys2Proof.Machine

/-! ### Split order (R59) -/

/-- One bay comes before another in split order: by its sustainable power, and by its number among equals. -/
def ranked (x y : BayNo × Nat) : Prop := y.2 < x.2 ∨ (x.2 = y.2 ∧ x.1 < y.1)

theorem ranked_iff {x y : BayNo × Nat} : ranked x y ↔ y.2 < x.2 ∨ (x.2 = y.2 ∧ x.1.val < y.1.val) := Iff.rfl

theorem ranked_trans {x y z : BayNo × Nat} (h : ranked x y) (h' : ranked y z) : ranked x z := by
  rw [ranked_iff] at *
  omega

theorem pairwise_insertRanked {x : BayNo × Nat} {l : List (BayNo × Nat)} (hl : l.Pairwise ranked)
    (hx : ∀ y ∈ l, y.1 < x.1) : (insertRanked x l).Pairwise ranked := by
  induction l with
  | nil => exact List.pairwise_singleton _ x
  | cons y rest ih =>
    obtain ⟨hy, hrest⟩ := List.pairwise_cons.mp hl
    unfold insertRanked
    split
    next hless =>
      refine List.pairwise_cons.mpr ⟨fun z hz => ?_, hl⟩
      rcases List.mem_cons.mp hz with rfl | hz
      · exact .inl hless
      · exact ranked_trans (.inl hless) (hy z hz)
    next hless =>
      refine List.pairwise_cons.mpr ⟨fun z hz => ?_, ih hrest fun z hz => hx z (List.mem_cons_of_mem y hz)⟩
      rcases List.mem_cons.mp ((insertRanked_perm x rest).mem_iff.mp hz) with rfl | hz
      · have hbay : y.1.val < _ := hx y List.mem_cons_self
        rw [ranked_iff]
        omega
      · exact hy z hz

theorem pairwise_foldl_insertRanked {l acc : List (BayNo × Nat)} (hl : (l.map (·.1)).Pairwise (· < ·))
    (hacc : acc.Pairwise ranked) (hlater : ∀ x ∈ l, ∀ y ∈ acc, y.1 < x.1) :
    (l.foldl (fun acc x => insertRanked x acc) acc).Pairwise ranked := by
  induction l generalizing acc with
  | nil => exact hacc
  | cons x rest ih =>
    rw [List.map_cons, List.pairwise_cons] at hl
    refine ih hl.2 (pairwise_insertRanked hacc (hlater x List.mem_cons_self)) fun z hz y hy => ?_
    rcases List.mem_cons.mp ((insertRanked_perm x acc).mem_iff.mp hy) with rfl | hy
    · exact hl.1 z.1 (List.mem_map_of_mem hz)
    · exact hlater z (List.mem_cons_of_mem x hz) y hy

theorem pairwise_rank {l : List (BayNo × Nat)} (hl : (l.map (·.1)).Pairwise (· < ·)) : (rank l).Pairwise ranked :=
  pairwise_foldl_insertRanked hl List.Pairwise.nil (by simp)

/-! ### What each bay is offered (R60, R61) -/

theorem split_append (ps span power : Nat) (front back : List (BayNo × Nat)) :
    split ps span power (front ++ back)
      = split ps span power front ++ split ps span (power - targetSum (split ps span power front)) back := by
  induction front generalizing power with
  | nil => simp [split, targetSum]
  | cons x rest ih =>
    rw [List.cons_append, split_cons, split_cons]
    split
    · exact ih power
    · rw [ih, List.cons_append]
      simp only [targetSum, List.map_cons, List.sum_cons, Nat.sub_sub]

theorem bay_of_mem_split {ps span power : Nat} {l : List (BayNo × Nat)} {e : Participant}
    (h : e ∈ split ps span power l) : ∃ x ∈ l, e.bay = x.1 := by
  obtain ⟨x, hx, hbay, -⟩ := mem_split h
  exact ⟨x, hx, hbay⟩

section
variable {s : State} {t : Terms}

/-- The eligible bays with their sustainable powers, in split order. -/
def State.offered (s : State) (t : Terms) : List (BayNo × Nat) :=
  rank ((allBays.filter (s.eligible t)).map fun b => (b, s.sustainable t b))

theorem State.list_evaluate (s : State) (t : Terms) :
    (s.evaluate t).list = split t.profile.ps t.span (min t.power s.site.limit) (s.offered t) := rfl

theorem State.mem_offered {x : BayNo × Nat} :
    x ∈ s.offered t ↔ s.eligible t x.1 = true ∧ x.2 = s.sustainable t x.1 := by
  rw [State.offered, (rank_perm _).mem_iff, List.mem_map]
  constructor
  · rintro ⟨b, hb, rfl⟩
    exact ⟨(List.mem_filter.mp hb).2, rfl⟩
  · rintro ⟨heligible, hpower⟩
    exact ⟨x.1, List.mem_filter.mpr ⟨mem_allBays x.1, heligible⟩, by rw [← hpower]⟩

theorem State.pairwise_offered (s : State) (t : Terms) : (s.offered t).Pairwise ranked := by
  refine pairwise_rank ?_
  have hbays : ((allBays.filter (s.eligible t)).map fun b => (b, s.sustainable t b)).map (·.1)
      = allBays.filter (s.eligible t) := by simp [List.map_map, Function.comp_def]
  rw [hbays]
  have hascending : allBays.Pairwise (· < ·) := by decide
  exact hascending.filter (s.eligible t)

theorem State.nodup_offered (s : State) (t : Terms) : ((s.offered t).map (·.1)).Nodup := by
  refine (((rank_perm _).map (·.1)).nodup_iff).mpr ?_
  simpa [List.map_map, Function.comp_def] using nodup_allBays.filter (s.eligible t)

/-- No bay stands twice in a participant list (R62). -/
theorem State.nodup_evaluate (s : State) (t : Terms) : ((s.evaluate t).list.map (·.bay)).Nodup :=
  (s.nodup_offered t).sublist (split_sublist ..)

/-- A bay's turn in the split: it is offered what the bays before it left. -/
theorem State.evaluate_turn {b : BayNo} (heligible : s.eligible t b = true) {before : BayNo → Prop}
    (hbefore : ∀ c, before c ↔ ranked (c, s.sustainable t c) (b, s.sustainable t b)) (p : Participant → Bool)
    (hp : ∀ e, p e = true ↔ before e.bay) :
    let left := min t.power s.site.limit - (((s.evaluate t).list.filter p).map (·.target)).sum
    let g := min (s.sustainable t b) left
    (t.profile.ps ≤ g → ⟨b, g, g * t.span⟩ ∈ (s.evaluate t).list)
    ∧ (g < t.profile.ps → ∀ e ∈ (s.evaluate t).list, e.bay ≠ b) := by
  obtain ⟨front, back, hoffered⟩ := List.append_of_mem (State.mem_offered.mpr ⟨heligible, rfl⟩ :
    (b, s.sustainable t b) ∈ s.offered t)
  have hpairwise := s.pairwise_offered t
  have hnodup := s.nodup_offered t
  have hpowers (x : BayNo × Nat) (hx : x ∈ s.offered t) : x.2 = s.sustainable t x.1 := (State.mem_offered.mp hx).2
  rw [State.list_evaluate]
  rw [hoffered] at hpairwise hnodup hpowers ⊢
  obtain ⟨-, hback, hfront⟩ := List.pairwise_append.mp hpairwise
  rw [split_append]
  generalize hpower : min t.power s.site.limit = power
  have hahead : (split t.profile.ps t.span power front).filter p = split t.profile.ps t.span power front := by
    refine List.filter_eq_self.mpr fun e he => ?_
    obtain ⟨x, hx, hbay⟩ := bay_of_mem_split he
    rw [hp, hbefore, hbay, ← hpowers x (by simp [hx])]
    exact hfront x hx _ List.mem_cons_self
  have hafter (left : Nat) :
      (split t.profile.ps t.span left ((b, s.sustainable t b) :: back)).filter p = [] := by
    refine List.filter_eq_nil_iff.mpr fun e he => ?_
    obtain ⟨x, hx, hbay⟩ := bay_of_mem_split he
    rw [hp, hbefore, hbay, ← hpowers x (List.mem_append_right front hx)]
    rcases List.mem_cons.mp hx with rfl | hx
    · simp only [ranked_iff]
      omega
    · have hlater := (List.pairwise_cons.mp hback).1 x hx
      simp only [ranked_iff] at hlater ⊢
      omega
  rw [List.filter_append, hahead, hafter, List.append_nil]
  have hsum : ((split t.profile.ps t.span power front).map (·.target)).sum
      = targetSum (split t.profile.ps t.span power front) := rfl
  dsimp only
  rw [hsum, split_cons]
  generalize power - targetSum (split t.profile.ps t.span power front) = left
  constructor
  · intro hleast
    rw [if_neg (by omega)]
    exact List.mem_append_right _ List.mem_cons_self
  · intro hless e he hbay
    rw [if_pos hless, List.mem_append] at he
    rw [List.map_append, List.map_cons] at hnodup
    obtain ⟨-, hlater, hdisjoint⟩ := List.nodup_append.mp hnodup
    rcases he with he | he
    · obtain ⟨x, hx, hx1⟩ := bay_of_mem_split he
      exact hdisjoint x.1 (List.mem_map_of_mem (f := (·.1)) hx) b List.mem_cons_self (hx1.symm.trans hbay)
    · obtain ⟨x, hx, hx1⟩ := bay_of_mem_split he
      exact (List.nodup_cons.mp hlater).1 ((hx1.symm.trans hbay) ▸ List.mem_map_of_mem (f := (·.1)) hx)

/-! ### Eligibility (R48 to R52) -/

theorem State.stateTest_iff (s : State) (t : Terms) (b : BayNo) : s.stateTest t b = true ↔
    (s.bay b).state = .parked ∨ ((s.bay b).state = .bound ∧ s.order b = none)
    ∨ (t.resplit = true ∧ ∃ o, s.order b = some o ∧ o.request = t.request
      ∧ ((((s.bay b).state = .binding ∨ (s.bay b).state = .bound) ∧ o.phase = .waitBind)
        ∨ ((s.bay b).state = .transfer ∧ (o.phase = .rise ∨ o.phase = .hold ∨ o.phase = .lower)))) := by
  unfold State.stateTest
  cases (s.bay b).state <;> cases s.order b <;> simp [and_assoc, or_assoc]

theorem State.departureTest_iff (s : State) (t : Terms) (v : Vehicle) : s.departureTest t v = true ↔
    ∀ d, v.departure = some d →
      (t.windowEnd : Int) + s.site.guard ≤ ((d.minute : Int) * 60 - (s.clock : Int)) % 86400 := by
  unfold State.departureTest
  cases v.departure with
  | none => simp
  | some d =>
    simp only [decide_eq_true_eq, Option.some.injEq, forall_eq', ← natCast_timeToDeparture]
    omega

theorem State.eligible_iff (s : State) (t : Terms) (b : BayNo) : s.eligible t b = true ↔ s.stateTest t b = true
    ∧ ∃ v, s.linkedVehicle? b = some v ∧ v.consent = true ∧ t.profile.ps ≤ (s.bay b).capEff
      ∧ s.departureTest t v = true := by
  unfold State.eligible
  cases s.linkedVehicle? b <;> simp [and_assoc]

/-! ### Allowance (R55, R56) -/

/-- What a queued request holds from a bay, as the statement puts it. -/
theorem State.heldEnergy_eq (s : State) (b : BayNo) (r : Request) : s.heldEnergy b r = match r.state with
    | .held _ => ((r.list.find? fun e => decide (e.bay = b)).map (·.committed)).getD 0
    | .active _ _ | .ending _ => match s.order b with
      | some o => if o.request = r.id then o.quota - o.delivered else 0
      | none => 0 := by
  unfold State.heldEnergy
  cases r.state with
  | held countdown =>
    simp only [beq_eq_decide]
    cases List.find? (fun e => decide (e.bay = b)) r.list <;> rfl
  | active remaining eligible => cases s.order b <;> simp
  | ending cause => cases s.order b <;> simp

theorem State.allowance_linked {b : BayNo} {v : Vehicle} (hv : s.linkedVehicle? b = some v) : s.allowance t b
    = (s.bay b).tele.energy - (reserveNeed v s.site.eta s.clock t.windowEnd + s.otherCommitments t.request b) := by
  simp only [State.allowance, hv]

end

/-! ### The evaluation as a whole (R45) -/

/-- What O21 says of an evaluation, with the commitments of the other requests counted as the model counts them: an
order that has nothing of its quota left holds no energy (R56). -/
theorem State.evaluate_shares (s : State) (t : Terms) :
    let a := s.evaluate t
    a.grant = (a.list.map (·.target)).sum
    ∧ a.grant ≤ min t.power s.site.limit
    ∧ (a.list.map (·.bay)).Nodup
    ∧ (∀ e ∈ a.list, s.eligible t e.bay = true ∧ t.profile.ps ≤ e.target ∧ e.target ≤ s.sustainable t e.bay
        ∧ e.committed = e.target * t.span ∧ e.committed ≤ s.allowance t e.bay)
    ∧ a.list.Pairwise (fun x y => s.sustainable t y.bay < s.sustainable t x.bay
        ∨ (s.sustainable t y.bay = s.sustainable t x.bay ∧ x.bay < y.bay))
    ∧ (∀ b, b ∈ a.eligible ↔ s.eligible t b = true)
    ∧ (∀ b, s.eligible t b = true →
      let before (c : BayNo) : Prop := s.sustainable t b < s.sustainable t c
        ∨ (s.sustainable t c = s.sustainable t b ∧ c < b)
      let left := min t.power s.site.limit - ((a.list.filter fun e => decide (before e.bay)).map (·.target)).sum
      let g := min (s.sustainable t b) left
      (t.profile.ps ≤ g → ⟨b, g, g * t.span⟩ ∈ a.list) ∧ (g < t.profile.ps → ∀ e ∈ a.list, e.bay ≠ b))
    ∧ (∀ b, s.eligible t b = true ↔
      ((s.bay b).state = .parked ∨ ((s.bay b).state = .bound ∧ s.order b = none)
        ∨ (t.resplit = true ∧ ∃ o, s.order b = some o ∧ o.request = t.request
          ∧ ((((s.bay b).state = .binding ∨ (s.bay b).state = .bound) ∧ o.phase = .waitBind)
            ∨ ((s.bay b).state = .transfer ∧ (o.phase = .rise ∨ o.phase = .hold ∨ o.phase = .lower)))))
      ∧ ∃ v, s.linkedVehicle? b = some v ∧ v.consent = true ∧ t.profile.ps ≤ (s.bay b).capEff
        ∧ ∀ d, v.departure = some d →
          (t.windowEnd : Int) + s.site.guard ≤ ((d.minute : Int) * 60 - (s.clock : Int)) % 86400)
    ∧ ∀ b v, s.linkedVehicle? b = some v →
      let other : Nat := ((s.queue.filter fun r => decide (r.id ≠ t.request)).map fun r => match r.state with
        | .held _ => ((r.list.find? fun e => decide (e.bay = b)).map (·.committed)).getD 0
        | .active _ _ | .ending _ => match s.order b with
          | some o => if o.request = r.id then o.quota - o.delivered else 0
          | none => 0).sum
      (s.allowance t b : Int)
        = max 0 ((s.bay b).tele.energy - (reserveNeed v s.site.eta s.clock t.windowEnd : Int) - (other : Int))
      ∧ s.sustainable t b = min (s.bay b).capEff (s.allowance t b / t.span) := by
  refine ⟨rfl, targetSum_split_le .., s.nodup_evaluate t, fun e he => ?_, ?_, fun b => ?_, fun b heligible => ?_,
    fun b => ?_, fun b v hv => ?_⟩
  · rw [State.list_evaluate] at he
    obtain ⟨x, hx, hbay, hleast, hmost, hcommitted⟩ := mem_split he
    obtain ⟨heligible, hpower⟩ := State.mem_offered.mp hx
    rw [hpower, ← hbay] at hmost
    rw [← hbay] at heligible
    refine ⟨heligible, hleast, hmost, hcommitted, ?_⟩
    rw [hcommitted]
    calc e.target * t.span ≤ s.allowance t e.bay / t.span * t.span :=
          Nat.mul_le_mul_right _ (hmost.trans (Nat.min_le_right ..))
      _ ≤ s.allowance t e.bay := Nat.div_mul_le_self ..
  · have hpairs := s.pairwise_offered t
    have hpowers (x : BayNo × Nat) (hx : x ∈ s.offered t) : x.2 = s.sustainable t x.1 := (State.mem_offered.mp hx).2
    have hbays : ((s.offered t).map (·.1)).Pairwise fun b c => s.sustainable t c < s.sustainable t b
        ∨ (s.sustainable t c = s.sustainable t b ∧ b < c) := by
      rw [List.pairwise_map]
      refine hpairs.imp_of_mem fun hx hy hxy => ?_
      rw [← hpowers _ hx, ← hpowers _ hy]
      exact hxy.imp id fun h => ⟨h.1.symm, h.2⟩
    exact List.pairwise_map.mp (hbays.sublist (split_sublist ..))
  · exact ⟨fun hb => (List.mem_filter.mp hb).2, fun hb => List.mem_filter.mpr ⟨mem_allBays b, hb⟩⟩
  · exact State.evaluate_turn heligible (fun c => Iff.rfl) _ (fun e => by rw [decide_eq_true_iff]; rfl)
  · rw [State.eligible_iff, State.stateTest_iff]
    simp only [State.departureTest_iff]
  · have hother : s.otherCommitments t.request b
        = ((s.queue.filter fun r => decide (r.id ≠ t.request)).map (s.heldEnergy b)).sum := by
      rw [State.otherCommitments]
      congr 2
      exact List.filter_congr fun r _ => by simp [bne, beq_eq_decide]
    refine ⟨?_, rfl⟩
    have hheld : s.heldEnergy b = _ := funext (s.heldEnergy_eq b)
    rw [State.allowance_linked hv, hother, hheld]
    omega

/-- A part whose bay 0 has an order that has delivered 5 beyond its quota of 0; no run reaches it (R102). -/
def overdrawn : State :=
  { ((State.reset.modBay 0 fun r => { r with link := some 1, tele := { r.tele with energy := 10 } }).setOrder 0
      (some { newOrder 2 0 0 with delivered := 5 })) with
    roster := [⟨1, 100, 0, 0, 0, true, none, some 0⟩]
    queue := [⟨2, .active 60 [], 60, 1, 1, 1, 0, false, [], 0⟩] }

/-- The offer of request 1 over one second. -/
def overdrawnTerms : Terms := ⟨1, ⟨50, 0, []⟩, 100, 1, 1, false⟩

theorem allowance_overdrawn : overdrawn.allowance overdrawnTerms 0 = 10 := by decide +kernel

end Sys2Proof.Machine

namespace Sys2Proof.Proofs

open Sys2Proof.Machine

/-- Refutes O21: its commitment sum is of integers, so an order that has delivered more than its quota, which
`Obligations.SetPointsStayWithinLimits` keeps out and O21 does not, adds to the allowance: 15 here for the model's 10.
What O21 says otherwise holds of every evaluation (`State.evaluate_shares`). -/
theorem not_splitSharesPower : ¬ Obligations.SplitSharesPower := by
  unfold Obligations.SplitSharesPower
  intro h
  obtain ⟨-, -, -, -, -, -, -, -, hallowance⟩ := h overdrawn overdrawnTerms (by decide)
  have hsum := (hallowance 0 ⟨1, 100, 0, 0, 0, true, none, some 0⟩ rfl).1
  rw [allowance_overdrawn] at hsum
  exact absurd hsum (by decide +kernel)

end Sys2Proof.Proofs
end

section

/-!
SUPPORT. Requests of the queue and their orders: what a written request keeps, what an evaluation reads, the alignment of
a re-split's orders (R83), and the orders of a request that take a cause of the Request Queue (R73, R77, R78).
-/

namespace Sys2Proof.Machine

theorem State.sameBut.bayAt {s t : State} {ps : List Part} (h : s.sameBut t ps) (hb : .bays ∉ ps) (b : BayNo) :
    t.bay b = s.bay b := by
  rw [State.bay, State.bay, h.bays hb]

theorem State.sameBut.orderAt {s t : State} {ps : List Part} (h : s.sameBut t ps) (ho : .orders ∉ ps) (b : BayNo) :
    t.order b = s.order b := by
  rw [State.order, State.order, h.orders ho]

theorem State.sameBut.linkedVehicle? {s t : State} {ps : List Part} (h : s.sameBut t ps) (hb : .bays ∉ ps)
    (hr : .roster ∉ ps) (b : BayNo) : t.linkedVehicle? b = s.linkedVehicle? b := by
  have hroster (n : Nat) : t.vehicle? n = s.vehicle? n := by rw [State.vehicle?, State.vehicle?, h.roster hr]
  rw [State.linkedVehicle?, State.linkedVehicle?, h.bayAt hb, funext hroster]

section
variable {s : State} {id : Nat} {f : Request → Request}

/-! ### A written request -/

theorem State.id_of_request? {r : Request} (h : s.request? id = some r) : r.id = id :=
  (State.mem_of_request? h).2

theorem find?_map_id {l : List Request} {g : Request → Request} (hg : ∀ q, (g q).id = q.id) :
    (l.map g).find? (fun q => q.id == id) = (l.find? fun q => q.id == id).map g := by
  rw [List.find?_map]
  exact congrArg (Option.map g) (congrArg (l.find? ·) (funext fun q => by simp [hg]))

theorem State.request?_modRequest (hf : ∀ q, (f q).id = q.id) : (s.modRequest id f).request? id
    = (s.request? id).map f := by
  rw [State.request?, State.modRequest_queue, find?_map_id (by intro q; split <;> simp [hf]), State.request?]
  cases h : s.queue.find? fun q => q.id == id with
  | none => rfl
  | some r =>
    have hid : (r.id == id) = true := List.find?_some (p := fun q : Request => q.id == id) h
    simp only [Option.map_some, if_pos hid]

theorem State.request?_modRequest_ne {n : Nat} (hf : ∀ q, (f q).id = q.id) (hn : n ≠ id) :
    (s.modRequest id f).request? n = s.request? n := by
  rw [State.request?, State.modRequest_queue, find?_map_id (by intro q; split <;> simp [hf]), State.request?]
  cases h : s.queue.find? fun q => q.id == n with
  | none => rfl
  | some r =>
    have hr : r.id = n := State.id_of_request? h
    simp [hr, hn]

theorem State.releaseOnEnd_modRequest (hid : ∀ q, (f q).id = q.id) (hf : ∀ q, (f q).releaseOnEnd = q.releaseOnEnd)
    (n : Nat) : (s.modRequest id f).releaseOnEnd n = s.releaseOnEnd n := by
  unfold State.releaseOnEnd
  by_cases hn : n = id
  · subst hn
    rw [State.request?_modRequest hid]
    cases s.request? n with
    | none => rfl
    | some r => exact hf r
  · rw [State.request?_modRequest_ne hid hn]

theorem State.profileOf_modRequest (hid : ∀ q, (f q).id = q.id) (hf : ∀ q, (f q).profile = q.profile) {r : Request}
    (hr : s.request? id = some r) : (s.modRequest id f).profileOf id = s.profileAt r.profile := by
  rw [State.profileOf, State.request?_modRequest hid, hr]
  exact congrArg s.profileAt (hf r)

/-! ### What an evaluation reads (R45, R56) -/

theorem State.otherCommitments_modRequest (hf : ∀ q, (f q).id = q.id) (b : BayNo) :
    (s.modRequest id f).otherCommitments id b = s.otherCommitments id b := by
  unfold State.otherCommitments
  rw [State.modRequest_queue, List.filter_map]
  have hfilter : (s.queue.filter ((fun r => r.id != id) ∘ fun r => if (r.id == id) = true then f r else r))
      = s.queue.filter fun r => r.id != id :=
    List.filter_congr fun q _ => by
      by_cases hq : q.id = id <;> simp [hq, hf]
  rw [hfilter, List.map_map]
  congr 1
  refine List.map_congr_left fun q hq => ?_
  have hne : q.id ≠ id := by simpa using (List.mem_filter.mp hq).2
  simp [hne, State.heldEnergy]

/-- Two states that agree on all that an evaluation reads share alike. -/
theorem State.evaluate_congr {s s' : State} {t : Terms} {parts : List Part} (h : s.sameBut s' parts)
    (hbays : .bays ∉ parts) (horders : .orders ∉ parts) (hroster : .roster ∉ parts) (hsite : .site ∉ parts)
    (hclock : .clock ∉ parts) (hother : ∀ b, s'.otherCommitments t.request b = s.otherCommitments t.request b) :
    s'.evaluate t = s.evaluate t := by
  have hbay (b : BayNo) : s'.bay b = s.bay b := h.bayAt hbays b
  have horder (b : BayNo) : s'.order b = s.order b := h.orderAt horders b
  have hlinked := h.linkedVehicle? hbays hroster
  have heligible : s'.eligible t = s.eligible t := funext fun b => by
    unfold State.eligible State.stateTest State.departureTest
    rw [hbay, horder, hlinked, h.site hsite, h.clock hclock]
  have hsustainable : s'.sustainable t = s.sustainable t := funext fun b => by
    unfold State.sustainable State.allowance
    rw [hbay, hlinked, h.site hsite, h.clock hclock, hother]
  unfold State.evaluate
  rw [heligible, hsustainable, h.site hsite]

end

/-! ### The alignment read from the state before the request was written -/

theorem State.ordersAligned.congr {s s' t : State} {id remaining ps : Nat} {list : List Participant}
    (h : s'.ordersAligned t id remaining ps list) {parts : List Part} (hframe : s.sameBut s' parts)
    (hbays : .bays ∉ parts) (horders : .orders ∉ parts) (hnotices : .notices ∉ parts) (hsite : .site ∉ parts)
    (hends : s'.releaseOnEnd id = s.releaseOnEnd id) : s.ordersAligned t id remaining ps list := by
  have hbay (b : BayNo) : s'.bay b = s.bay b := hframe.bayAt hbays b
  have horder (b : BayNo) : s'.order b = s.order b := hframe.orderAt horders b
  have hpoint (b : BayNo) : s'.setPoint b = s.setPoint b := by rw [State.setPoint, State.setPoint, hbay, horder]
  have hremoved : s'.removalNotices id list .resplit = s.removalNotices id list .resplit := by
    unfold State.removalNotices
    simp only [horder]
  simpa only [State.ordersAligned, State.orderCreated, hbay, horder, hpoint, hremoved, hends, hframe.notices hnotices,
    hframe.site hsite] using h

theorem State.applyResplit_aligned {s : State} {id remaining ps : Nat} {a : Allocation} {setGrant : Bool} {r : Request}
    (hplaced : s.ordersPlaced) (hr : s.request? id = some r) (hps : (s.profileAt r.profile).ps = ps)
    (hnodup : (a.list.map (·.bay)).Nodup) :
    s.ordersAligned (s.applyResplit id remaining a setGrant) id remaining ps a.list := by
  refine (State.ordersAligned_alignOrders (hplaced.modRequest id _) hnodup ?_).congr (s.modRequest_frame id _)
    (by decide) (by decide) (by decide) (by decide) (State.releaseOnEnd_modRequest (f := (·.resplit remaining a setGrant))
      (fun _ => rfl) (fun _ => rfl) id)
  rw [State.profileOf_modRequest (f := (·.resplit remaining a setGrant)) (fun _ => rfl) (fun _ => rfl) hr, hps]

theorem State.request?_applyResplit {s : State} {id remaining : Nat} {a : Allocation} {setGrant : Bool} {r : Request}
    (hr : s.request? id = some r) :
    (s.applyResplit id remaining a setGrant).request? id = some (r.resplit remaining a setGrant) := by
  have hframe := (s.modRequest id (·.resplit remaining a setGrant)).alignOrders_frame id remaining a.list
  rw [State.applyResplit, hframe.request? (by decide),
    State.request?_modRequest (f := (·.resplit remaining a setGrant)) (fun _ => rfl), hr]
  rfl

/-! ### A cause for every order of a request (R73, R77, R78) -/

section
variable {s : State} {b : BayNo} {o : Order} {id : Nat} {cause : EndCause}

theorem State.endEntry_onlyAt (id : Nat) (cause : EndCause) (s : State) (b : BayNo) :
    s.onlyAt (State.endEntry id cause s b) b := by
  unfold State.endEntry
  split
  · split
    · exact s.endFor_onlyAt b _ _
    · exact s.onlyAt_refl b
  · exact s.onlyAt_refl b

theorem State.endEntry_same (h : ∀ o, s.order b = some o → o.request ≠ id) : State.endEntry id cause s b = s := by
  unfold State.endEntry
  split
  next o ho => exact if_neg (h o ho)
  next => rfl

theorem State.endEntry_order (ho : s.order b = some o) (hid : o.request = id) :
    State.endEntry id cause s b = s.endFor b o cause := by
  simp only [State.endEntry, ho, if_pos hid]

theorem State.notices_endEntry (id : Nat) (cause : EndCause) (s : State) (b : BayNo) :
    (State.endEntry id cause s b).notices = s.notices ++ (removalNotice id [] cause b (s.view b)).toList := by
  cases ho : s.order b with
  | none =>
    have hslot : (s.view b).order = none := ho
    rw [State.endEntry_same (by simp [ho]), removalNotice, hslot]
    simp
  | some o =>
    have hslot : (s.view b).order = some o := ho
    simp only [removalNotice, hslot]
    by_cases hid : o.request = id
    · rw [State.endEntry_order ho hid, State.notices_endFor ho]
      by_cases hwaits : o.phase = .waitBind <;> simp [hwaits, hid]
    · rw [State.endEntry_same (by rintro o' ho'; cases ho.symm.trans ho'; exact hid)]
      simp [hid]

theorem State.notices_endAllFor (s : State) (id : Nat) (cause : EndCause) :
    (s.endAllFor id cause).notices = s.notices ++ s.removalNotices id [] cause :=
  notices_foldl (removalNotice id [] cause) (State.endEntry_onlyAt id cause) (State.notices_endEntry id cause)
    nodup_allBays s

/-- A bay's turn, taken in a state that has the bay and the queue as the first has them. -/
theorem State.view_endAllFor (s : State) (id : Nat) (cause : EndCause) (b : BayNo) : ∃ m : State,
    m.view b = s.view b ∧ (∀ n, m.releaseOnEnd n = s.releaseOnEnd n)
    ∧ (s.endAllFor id cause).view b = (State.endEntry id cause m b).view b := by
  obtain ⟨front, back, -, hfront, hturn⟩ := view_foldl_allBays (State.endEntry_onlyAt id cause) s b
  have hframe : s.sameBut (front.foldl (State.endEntry id cause) s) orderEndParts :=
    State.sameBut_foldl _ (fun s b => (State.endEntry_frame id cause s b).mono (by decide)) front _
  exact ⟨_, hfront, fun n => hframe.releaseOnEnd (by decide) n, hturn⟩

theorem State.ordersTakeCause_endAllFor (hcause : cause.plain = true) :
    s.ordersTakeCause (s.endAllFor id cause) id cause := by
  intro b
  obtain ⟨m, hm, hends, hview⟩ := s.view_endAllFor id cause b
  generalize s.endAllFor id cause = t at hview ⊢
  have hbay := State.bay_of_view hm
  refine ⟨fun ho => ?_, fun o ho => ⟨fun hid => ?_, fun hid hphase => ?_, fun hid hphase => ?_⟩⟩
  · rw [State.endEntry_same (by rw [State.order_of_view hm, ho]; simp), hm] at hview
    exact ⟨(State.order_of_view hview).trans ho, State.bay_of_view hview⟩
  · rw [State.endEntry_same (by rw [State.order_of_view hm, ho]; simpa using hid), hm] at hview
    exact ⟨(State.order_of_view hview).trans ho, State.bay_of_view hview⟩
  · rw [State.endEntry_order ((State.order_of_view hm).trans ho) hid, State.endFor_running hphase, State.view_setOrder,
      hm] at hview
    obtain ⟨hkept, horder⟩ := State.fields_of_view_order hview
    exact ⟨hkept, horder.trans (by rw [Order.declineFor_plain o hcause])⟩
  · have hmo := (State.order_of_view hm).trans ho
    rw [State.endEntry_order hmo hid, State.endFor_waiting hphase] at hview
    have hrecord := State.bay_of_view hview
    rw [State.bay_removeWaitBind, hbay, hends, hid] at hrecord
    refine ⟨(State.order_of_view hview).trans (State.order_removeWaitBind ..), fun hstate => ?_, fun hstate => ?_⟩
    · rw [if_pos (.inl hstate)] at hrecord
      exact ⟨congrArg BayRecord.state hrecord, (State.waits_of_view hview).mpr (State.mem_removeWaitBind hmo _)⟩
    · rw [hrecord]
      by_cases hreleases : (s.bay b).link = none ∨ s.releaseOnEnd id = true
      · rw [if_pos (.inr ⟨hstate, hreleases⟩), if_pos hreleases]
        rfl
      · rw [if_neg (by simp [hstate, hreleases]), if_neg hreleases, hstate]

/-- Only the bays, the slots and the poll queue say which cause the orders took. -/
theorem State.ordersTakeCause.of_frame {s t u : State} (h : s.ordersTakeCause t id cause) {parts : List Part}
    (hframe : t.sameBut u parts) (hbays : .bays ∉ parts) (horders : .orders ∉ parts) (hpoll : .pollQueue ∉ parts) :
    s.ordersTakeCause u id cause := by
  have hbay (b : BayNo) : u.bay b = t.bay b := hframe.bayAt hbays b
  have horder (b : BayNo) : u.order b = t.order b := hframe.orderAt horders b
  simpa only [State.ordersTakeCause, hbay, horder, hframe.pollQueue hpoll] using h

end

end Sys2Proof.Machine
end

section

/-!
SUPPORT. RETARGET, CURTAIL and the window end: requests of a sound queue, the request that leaves it (R68, R75), and the
orders of a request that becomes ENDING (R73, R78).
-/

namespace Sys2Proof.Machine

section
variable {s : State} {r : Request} {id : Nat}

/-! ### Requests of a sound queue (R65) -/

theorem State.request?_of_ids (h : (s.queue.map (·.id)).Nodup) (hr : r ∈ s.queue) : s.request? r.id = some r := by
  have hsome : (s.request? r.id).isSome := List.find?_isSome.mpr ⟨r, hr, beq_self_eq_true _⟩
  obtain ⟨q, hq⟩ := Option.isSome_iff_exists.mp hsome
  rw [hq, eq_of_id h (State.mem_of_request? hq).1 hr (State.id_of_request? hq)]

theorem State.request?_of_mem (h : s.queueSound) (hr : r ∈ s.queue) : s.request? r.id = some r :=
  State.request?_of_ids h.2.1 hr

theorem State.active?_of_mem (h : s.queueSound) (hr : r ∈ s.queue) (hactive : r.isActive = true) :
    s.active? = some r := by
  obtain ⟨-, -, hone⟩ := h
  have hsome : s.active?.isSome := List.find?_isSome.mpr ⟨r, hr, hactive⟩
  obtain ⟨q, hq⟩ := Option.isSome_iff_exists.mp hsome
  have hmem : q ∈ s.queue.filter Request.isActive := List.mem_filter.mpr (State.mem_of_active? hq)
  have hmem' : r ∈ s.queue.filter Request.isActive := List.mem_filter.mpr ⟨hr, hactive⟩
  obtain ⟨x, hx⟩ := List.length_eq_one_iff.mp (le_antisymm hone (List.length_pos_of_mem hmem))
  rw [hx, List.mem_singleton] at hmem hmem'
  rw [hq, hmem, hmem']

theorem State.active?_of_state {remaining : Nat} {eligible : List BayNo} (h : s.queueSound) (hr : r ∈ s.queue)
    (hstate : r.state = .active remaining eligible) : s.active? = some r :=
  State.active?_of_mem h hr (Request.isActive_of_state hstate)

/-! ### Leaving the queue (R68, R75) -/

theorem State.leave_ending {cause : RequestCause} (hr : s.request? id = some r) (hstate : r.state = .ending cause) :
    s.leave id = ({ s with lastResult := some (r.result cause) }.dropRequest id).raiseGrid .requestEnded := by
  simp only [State.leave, hr, hstate]

theorem filter_modRequest {f : Request → Request} (hf : ∀ q, (f q).id = q.id) :
    (s.modRequest id f).queue.filter (fun q => q.id != id) = s.queue.filter fun q => q.id != id := by
  rw [State.modRequest_queue, List.filter_map]
  have hfilter : (s.queue.filter ((fun r => r.id != id) ∘ fun r => if (r.id == id) = true then f r else r))
      = s.queue.filter fun r => r.id != id :=
    List.filter_congr fun q _ => by
      by_cases hq : q.id = id <;> simp [hq, hf]
  rw [hfilter]
  refine (List.map_congr_left fun q hq => ?_).trans (List.map_id _)
  have hne : q.id ≠ id := by simpa using (List.mem_filter.mp hq).2
  simp [hne]

/-- A request that is ENDING where it leaves left the queue of any state that differs in its record alone. -/
theorem State.requestLeft_leave {u : State} {q : Request} {cause : RequestCause} (hq : u.request? r.id = some q)
    (hstate : q.state = .ending cause) (hsubmitted : q.submitted = r.submitted) (hlength : q.length = r.length)
    (hqueue : u.queue.filter (fun q => q.id != r.id) = s.queue.filter fun q => q.id != r.id)
    (hgrid : u.grid.flags = s.grid.flags) : s.requestLeft (u.leave r.id) r cause q.delivered := by
  have hid := State.id_of_request? hq
  rw [State.leave_ending hq hstate]
  refine ⟨hqueue, ?_, ?_⟩
  · simp [State.dropRequest, State.raiseGrid, Request.result, hid, hsubmitted, hlength]
  · rw [← hgrid]
    rfl

/-! ### The cause read from the state before the request was written -/

theorem State.ordersTakeCause.congr {s' t : State} {cause : EndCause} (h : s'.ordersTakeCause t id cause)
    {parts : List Part} (hframe : s.sameBut s' parts) (hbays : .bays ∉ parts) (horders : .orders ∉ parts)
    (hends : s'.releaseOnEnd id = s.releaseOnEnd id) : s.ordersTakeCause t id cause := by
  have hbay (b : BayNo) : s'.bay b = s.bay b := hframe.bayAt hbays b
  have horder (b : BayNo) : s'.order b = s.order b := hframe.orderAt horders b
  simpa only [State.ordersTakeCause, hbay, horder, hends] using h

/-- The orders of a request that stay are those that run (R95). -/
theorem State.ordersTakeCause.hasOrderOf_iff {t : State} {cause : EndCause} (h : s.ordersTakeCause t id cause)
    (b : BayNo) : t.hasOrderOf id b = true ↔ ∃ o, s.order b = some o ∧ o.request = id ∧ o.phase ≠ .waitBind := by
  obtain ⟨hnone, hsome⟩ := h b
  unfold State.hasOrderOf
  cases ho : s.order b with
  | none => simp [(hnone ho).1]
  | some o =>
    obtain ⟨hother, hruns, hwaits⟩ := hsome o ho
    by_cases hid : o.request = id
    · by_cases hphase : o.phase = .waitBind
      · simp [(hwaits hid hphase).1, hphase]
      · simp [(hruns hid hphase).2, hid, hphase]
    · simp [(hother hid).1, hid]

theorem State.ordersTakeCause.orderCount_eq_zero {t : State} {cause : EndCause} (h : s.ordersTakeCause t id cause) :
    t.orderCount id = 0 ↔ ¬s.runs id := by
  rw [State.orderCount, List.length_eq_zero_iff, List.filter_eq_nil_iff]
  simp only [h.hasOrderOf_iff, State.runs, mem_allBays, forall_const, not_exists]

/-! ### A request that becomes ENDING (R73, R78) -/

/-- A request with its end cause written. -/
def Request.ended (cause : RequestCause) (r : Request) : Request := { r with state := .ending cause }

/-- The part with the request written as ENDING and its orders given their cause. -/
def State.causesGiven (s : State) (id : Nat) (cause : RequestCause) (orderCause : EndCause) : State :=
  (s.modRequest id (Request.ended cause)).endAllFor id orderCause

theorem State.endRequest_eq (s : State) (id : Nat) (cause : RequestCause) (orderCause : EndCause) :
    s.endRequest id cause orderCause = (s.causesGiven id cause orderCause).leaveIfDone id := rfl

section
variable {cause : RequestCause} {orderCause : EndCause}

theorem State.causesGiven_frame (s : State) (id : Nat) (cause : RequestCause) (orderCause : EndCause) :
    s.sameBut (s.causesGiven id cause orderCause) resplitParts :=
  ((s.modRequest_frame id _).mono (by simp)).then (State.endAllFor_frame _ _ _) (by simp)

theorem State.queue_causesGiven (s : State) (id : Nat) (cause : RequestCause) (orderCause : EndCause) :
    (s.causesGiven id cause orderCause).queue = (s.modRequest id (Request.ended cause)).queue :=
  (State.endAllFor_frame _ id orderCause).queue (by decide)

theorem State.request?_causesGiven (hr : s.request? id = some r) :
    (s.causesGiven id cause orderCause).request? id = some (r.ended cause) := by
  rw [State.causesGiven, (State.endAllFor_frame _ id orderCause).request? (by decide),
    State.request?_modRequest (f := Request.ended cause) (fun _ => rfl), hr]
  rfl

theorem State.ordersTakeCause_causesGiven (s : State) (id : Nat) (cause : RequestCause)
    (hplain : orderCause.plain = true) : s.ordersTakeCause (s.causesGiven id cause orderCause) id orderCause :=
  (State.ordersTakeCause_endAllFor hplain).congr (s.modRequest_frame id (Request.ended cause)) (by decide) (by decide)
    (State.releaseOnEnd_modRequest (f := Request.ended cause) (fun _ => rfl) (fun _ => rfl) id)

/-- The end of a request: its orders take the cause, and it leaves where none of them runs (R73, R78). -/
theorem State.endRequest_spec (hr : s.request? r.id = some r) (cause : RequestCause) (hplain : orderCause.plain = true) :
    s.sameBut (s.endRequest r.id cause orderCause) requestWrites
    ∧ s.ordersTakeCause (s.endRequest r.id cause orderCause) r.id orderCause
    ∧ (s.runs r.id → (s.endRequest r.id cause orderCause).request? r.id = some { r with state := .ending cause }
        ∧ (s.endRequest r.id cause orderCause).grid = s.grid
        ∧ (s.endRequest r.id cause orderCause).lastResult = s.lastResult)
    ∧ (¬s.runs r.id → s.requestLeft (s.endRequest r.id cause orderCause) r cause r.delivered) := by
  have hwrites := (s.endRequest_frame r.id cause orderCause).mono (qs := requestWrites) (by decide)
  have hcauses := s.ordersTakeCause_causesGiven r.id cause hplain
  have hframe := s.causesGiven_frame r.id cause orderCause
  have hrequest := State.request?_causesGiven (cause := cause) (orderCause := orderCause) hr
  have hqueue := s.queue_causesGiven r.id cause orderCause
  rw [State.endRequest_eq] at hwrites ⊢
  generalize s.causesGiven r.id cause orderCause = u at *
  refine ⟨hwrites, ?_, fun hruns => ?_, fun hdone => ?_⟩
  · exact hcauses.of_frame (State.leaveIfDone_frame _ _) (by decide) (by decide) (by decide)
  · rw [State.leaveIfDone, if_neg fun hzero => hcauses.orderCount_eq_zero.mp hzero hruns]
    exact ⟨hrequest, hframe.grid (by decide), hframe.lastResult (by decide)⟩
  · rw [State.leaveIfDone, if_pos (hcauses.orderCount_eq_zero.mpr hdone)]
    refine State.requestLeft_leave (r := r) (q := r.ended cause) hrequest rfl rfl rfl ?_ (congrArg PortState.flags (hframe.grid (by decide)))
    rw [hqueue, filter_modRequest (f := Request.ended cause) fun _ => rfl]

end

/-! ### CURTAIL (R78) -/

theorem exec_curtail (id : Byte) (s : State) :
    exec (.curtail id) s = carryOut .grid (.curtail id) (curtail id.toNat) s := rfl

theorem curtail_zero : curtail 0 s = .error .range := rfl

theorem curtail_absent (hid : id ≠ 0) (h : s.request? id = none) : curtail id s = .error .noSuchRequest := by
  simp [curtail, hid, h]

theorem curtail_notActive (hid : id ≠ 0) (h : s.request? id = some r)
    (hstate : ∀ remaining eligible, r.state ≠ .active remaining eligible) :
    curtail id s = .error .requestNotActive := by
  cases hr : r.state with
  | active remaining eligible => exact absurd hr (hstate remaining eligible)
  | held _ => simp [curtail, hid, h, hr]
  | ending _ => simp [curtail, hid, h, hr]

theorem curtail_active {remaining : Nat} {eligible : List BayNo} (hid : id ≠ 0) (h : s.request? id = some r)
    (hstate : r.state = .active remaining eligible) : curtail id s = .ok (s.endRequest id .curtail .curtail,
      le1 id ++ le1 ((s.endRequest id .curtail .curtail).orderCount id)) := by
  simp [curtail, hid, h, hstate, withReply]

/-! ### The window end (R73) -/

theorem exec_windowEnd_idle (h : ∀ r ∈ s.queue, ∀ eligible, r.state ≠ .active 0 eligible) :
    exec .windowEnd s = .next s := by
  have hexec : exec .windowEnd s = match s.active? with
    | some r => if s.windowOver then .next (s.endRequest r.id .window .windowEnd) else .next s
    | none => .next s := rfl
  rw [hexec]
  cases hr : s.active? with
  | none => rfl
  | some r =>
    refine if_neg ?_
    have hnot := h r (State.mem_of_active? hr).1
    unfold State.windowOver
    simp only [hr]
    cases hstate : r.state with
    | active remaining eligible =>
      have hremaining : remaining ≠ 0 := by
        rintro rfl
        exact hnot eligible hstate
      simpa using hremaining
    | held _ => simp
    | ending _ => simp

theorem exec_windowEnd {eligible : List BayNo} (h : s.queueSound) (hr : r ∈ s.queue)
    (hstate : r.state = .active 0 eligible) : exec .windowEnd s = .next (s.endRequest r.id .window .windowEnd) := by
  have hactive := State.active?_of_state h hr hstate
  have hover : s.windowOver = true := by simp [State.windowOver, hactive, hstate]
  have hexec : exec .windowEnd s = match s.active? with
    | some r => if s.windowOver then .next (s.endRequest r.id .window .windowEnd) else .next s
    | none => .next s := rfl
  rw [hexec, hactive]
  exact if_pos hover

/-! ### RETARGET (R77) -/

theorem exec_retarget (id : Byte) (power : BitVec 16) (s : State) :
    exec (.retarget id power) s = carryOut .grid (.retarget id power) (retarget id.toNat power.toNat) s := rfl

section
variable {power : Nat}

theorem retarget_range (h : id = 0 ∨ 19200 < power) : retarget id power s = .error .range := if_pos h

theorem retarget_absent (hrange : ¬(id = 0 ∨ 19200 < power)) (h : s.request? id = none) :
    retarget id power s = .error .noSuchRequest := by
  rw [retarget, if_neg hrange, h]

theorem retarget_notActive (hrange : ¬(id = 0 ∨ 19200 < power)) (h : s.request? id = some r)
    (hstate : ∀ remaining eligible, r.state ≠ .active remaining eligible) :
    retarget id power s = .error .requestNotActive := by
  rw [retarget, if_neg hrange, h]
  cases hr : r.state with
  | active remaining eligible => exact absurd hr (hstate remaining eligible)
  | held _ => simp [hr]
  | ending _ => simp [hr]

theorem retarget_active {remaining : Nat} {eligible : List BayNo} (hrange : ¬(id = 0 ∨ 19200 < power))
    (h : s.request? id = some r) (hstate : r.state = .active remaining eligible) : retarget id power s
      = .ok (retargetActive s r remaining power, retargetData (retargetActive s r remaining power) id) := by
  simp only [retarget, if_neg hrange, h, hstate, withReply]

end

end

/-- A request whose grant is taken back whole. -/
def Request.emptied (r : Request) : Request := { r with list := [], current := 0 }

/-- What RETARGET at power 0 leaves (R77). -/
def State.zeroed (s : State) (id : Nat) : State := (s.endAllFor id .curtail).modRequest id Request.emptied

theorem State.zeroed_frame (s : State) (id : Nat) : s.sameBut (s.zeroed id) resplitParts :=
  ((s.endAllFor_frame id .curtail).mono (by decide)).trans ((State.modRequest_frame _ id _).mono (by decide))

theorem State.request?_zeroed {s : State} {id : Nat} {r : Request} (hr : s.request? id = some r) :
    (s.zeroed id).request? id = some r.emptied := by
  rw [State.zeroed, State.request?_modRequest (f := Request.emptied) (fun _ => rfl),
    (s.endAllFor_frame id .curtail).request? (by decide), hr]
  rfl

theorem State.ordersTakeCause_zeroed (s : State) (id : Nat) : s.ordersTakeCause (s.zeroed id) id .curtail :=
  (State.ordersTakeCause_endAllFor rfl).of_frame (State.modRequest_frame _ id _) (by decide) (by decide) (by decide)

theorem State.notices_zeroed (s : State) (id : Nat) :
    (s.zeroed id).notices = s.notices ++ s.removalNotices id [] .curtail := by
  rw [State.zeroed, State.modRequest_notices, State.notices_endAllFor]

theorem retargetData_of_request? {s : State} {id : Byte} {n : Nat} {r : Request} (h : s.request? n = some r)
    (hid : id.toNat = n) : retargetData s n = [id] ++ le2 r.current ++ le1 r.list.length := by
  simp only [retargetData, h, le1_eq_singleton hid]

theorem retargetActive_zero {s : State} {r : Request} (remaining : Nat) :
    retargetActive s r remaining 0 = s.zeroed r.id := rfl

theorem retargetActive_pos {s : State} {r : Request} {remaining power : Nat} (h : power ≠ 0) :
    retargetActive s r remaining power = s.resplitWith r remaining (min power r.submitted) true := if_neg h

end Sys2Proof.Machine

namespace Sys2Proof.Proofs

open Sys2Proof.Machine

/-- Settles O23: the refusals of CURTAIL in order, and the end of the ACTIVE request that both events make. -/
theorem activeRequestEnds : Obligations.ActiveRequestEnds := by
  unfold Obligations.ActiveRequestEnds
  refine ⟨fun id s h => ?_, fun s hsound => ⟨exec_windowEnd_idle, fun r hr eligible hstate =>
    ⟨_, exec_windowEnd hsound hr hstate, State.endRequest_spec (State.request?_of_mem hsound hr) .window rfl⟩⟩⟩
  simp only [exec_curtail]
  refine ⟨?_, fun hid habsent => ?_, fun hid r hr => ⟨fun hstate => ?_, fun remaining eligible hstate => ?_⟩⟩
  · rintro rfl
    exact carryOut_error h (r := .range) curtail_zero
  · exact carryOut_error h (r := .noSuchRequest)
      (curtail_absent (toNat_ne_zero hid) (State.request?_eq_none.mpr habsent))
  · exact carryOut_error h (r := .requestNotActive) (curtail_notActive (toNat_ne_zero hid) hr hstate)
  · have hrid := State.id_of_request? hr
    have hspec := State.endRequest_spec (by rwa [hrid]) .curtail (orderCause := .curtail) (r := r) rfl
    rw [hrid] at hspec ⊢
    refine ⟨_, ⟨_, ?_, rfl⟩, hspec⟩
    rw [carryOut_ok h (curtail_active (toNat_ne_zero hid) hr hstate), le1_eq_singleton (x := id) rfl]
    rfl

/-- Settles O22: the refusals in order, the re-split above 0 and the end of the orders at 0. -/
theorem retargetResplits : Obligations.RetargetResplits := by
  unfold Obligations.RetargetResplits
  intro id power s h hplaced
  simp only [exec_retarget]
  refine ⟨fun hrange => ?_, fun hid hpower => ?_⟩
  · refine carryOut_error h (r := .range) (retarget_range (hrange.imp ?_ fun h => h))
    rintro rfl
    rfl
  have hrange : ¬(id.toNat = 0 ∨ 19200 < power.toNat) := by
    have := toNat_ne_zero hid
    omega
  refine ⟨fun habsent => ?_, fun r hr => ⟨fun hstate => ?_, fun remaining eligible hstate => ?_⟩⟩
  · exact carryOut_error h (r := .noSuchRequest) (retarget_absent hrange (State.request?_eq_none.mpr habsent))
  · exact carryOut_error h (r := .requestNotActive) (retarget_notActive hrange hr hstate)
  · have hexec := carryOut_ok h (retarget_active hrange hr hstate)
    have hrid := State.id_of_request? hr
    rw [← hrid] at hr hexec ⊢
    by_cases hzero : power.toNat = 0
    · have hframe := s.zeroed_frame r.id
      have hrequest := State.request?_zeroed hr
      have hcauses := s.ordersTakeCause_zeroed r.id
      have hnotices := s.notices_zeroed r.id
      rw [hzero, retargetActive_zero] at hexec
      generalize s.zeroed r.id = t at *
      refine ⟨t, hframe.mono (by decide), hframe.grid (by decide), hframe.lastResult (by decide),
        fun hpos => absurd hzero hpos.ne', fun _ => ⟨?_, hrequest, hnotices, hcauses⟩⟩
      rw [hzero, hexec, retargetData_of_request? hrequest hrid.symm]
      have hgrant : le2 r.emptied.current = [0, 0] := by simp only [Request.emptied]; decide
      rw [hgrant]
      rfl
    · rw [retargetActive_pos hzero, State.resplitWith] at hexec
      have hnodup := s.nodup_evaluate
        (resplitTerms r (s.profileAt r.profile) (min power.toNat r.submitted) remaining)
      have hterms : resplitTerms r (s.profileAt r.profile) (min power.toNat r.submitted) remaining
        = ⟨r.id, s.profileAt r.profile, min power.toNat r.submitted, remaining, max remaining 1, true⟩ := rfl
      rw [hterms] at hexec hnodup
      generalize s.evaluate
        ⟨r.id, s.profileAt r.profile, min power.toNat r.submitted, remaining, max remaining 1, true⟩ = a at *
      have hframe := s.applyResplit_frame r.id remaining a true
      have hrequest := State.request?_applyResplit (remaining := remaining) (a := a) (setGrant := true) hr
      have haligned := State.applyResplit_aligned (remaining := remaining) (setGrant := true) hplaced hr rfl hnodup
      generalize s.applyResplit r.id remaining a true = t at *
      refine ⟨t, hframe.mono (by decide), hframe.grid (by decide), hframe.lastResult (by decide),
        fun _ => ⟨?_, hrequest, haligned⟩, fun hpower => absurd hpower hzero⟩
      rw [hexec, retargetData_of_request? hrequest hrid.symm]
      rfl

end Sys2Proof.Proofs
end

section

/-!
SUPPORT. The activation of a HELD request (R72): the request written, its orders created in split order.
-/

namespace Sys2Proof.Machine

section
variable {s t u : State} {r : Request} {id : Nat}

/-- A frame may leave out a part that is known to be kept. -/
theorem State.sameBut.without_notices {ps qs : List Part} (h : s.sameBut t ps) (hkept : t.notices = s.notices)
    (hqs : ∀ p ∈ ps, p = .notices ∨ p ∈ qs) : s.sameBut t qs := by
  intro p hp
  by_cases hnotices : p = .notices
  · rw [hnotices]
    exact hkept
  · exact h p fun hmem => hp ((hqs p hmem).resolve_left hnotices)

/-- The queue with one of its requests written, in a queue of distinct IDs. -/
theorem State.queue_modRequest_split {f : Request → Request} {front back : List Request}
    (hnodup : (s.queue.map (·.id)).Nodup) (hqueue : s.queue = front ++ r :: back) :
    (s.modRequest r.id f).queue = front ++ f r :: back := by
  rw [State.modRequest_queue, hqueue, List.map_append, List.map_cons, if_pos (beq_self_eq_true r.id)]
  rw [hqueue, List.map_append, List.map_cons] at hnodup
  obtain ⟨-, hback, hdisjoint⟩ := List.nodup_append.mp hnodup
  have hfront : ∀ q ∈ front, q.id ≠ r.id := fun q hq =>
    hdisjoint q.id (List.mem_map_of_mem (f := (·.id)) hq) r.id List.mem_cons_self
  have hbehind : ∀ q ∈ back, q.id ≠ r.id := fun q hq he =>
    (List.nodup_cons.mp hback).1 (he ▸ List.mem_map_of_mem (f := (·.id)) hq)
  congr 1
  · exact (List.map_congr_left fun q hq => by simp [hfront q hq]).trans (List.map_id _)
  · congr 1
    exact (List.map_congr_left fun q hq => by simp [hbehind q hq]).trans (List.map_id _)

/-! ### The request that is due (R71, R72) -/

/-- A HELD request whose countdown has reached its lead. -/
def State.due (s : State) (r : Request) : Bool :=
  match r.state with
  | .held countdown => countdown ≤ (s.profileAt r.profile).lead
  | .active _ _ | .ending _ => false

theorem State.dueRequest?_eq (s : State) : s.dueRequest? = s.queue.find? s.due := rfl

theorem State.due_iff : s.due r = true ↔ ∃ countdown, r.state = .held countdown
    ∧ countdown ≤ (s.profileAt r.profile).lead := by
  unfold State.due
  cases r.state <;> simp

theorem State.not_due (h : ∀ countdown, r.state = .held countdown → (s.profileAt r.profile).lead < countdown) :
    s.due r = false := by
  refine Bool.eq_false_iff.mpr fun hdue => ?_
  obtain ⟨countdown, hstate, hle⟩ := State.due_iff.mp hdue
  exact absurd hle (h countdown hstate).not_ge

theorem exec_activation (s : State) : exec .activation s = match s.active?, s.dueRequest? with
    | none, some r => .next (s.activate r)
    | _, _ => .next s := rfl

/-! ### The orders of an activation (R72, R94) -/

/-- What an activation split writes into its request. -/
def Request.activated (window : Nat) (a : Allocation) (r : Request) : Request :=
  { r with list := a.list, current := a.grant, state := .active window a.eligible }

/-- The part with the request written as ACTIVE, before its orders are created. -/
def State.madeActive (s : State) (id before window : Nat) (a : Allocation) : State :=
  (s.modRequest id (Request.activated window a)).noteReduced before a.grant

/-- The part with the orders of the activation created. -/
def State.ordersMade (s : State) (id before window : Nat) (a : Allocation) : State :=
  a.list.foldl (State.createEntry id window) (s.madeActive id before window a)

variable {before window : Nat} {a : Allocation}

theorem State.applyActivation_eq (s : State) (id before window : Nat) (a : Allocation) :
    s.applyActivation id before window a = (s.ordersMade id before window a).raiseGrid .requestActive := rfl

theorem State.madeActive_frame (s : State) (id before window : Nat) (a : Allocation) :
    s.sameBut (s.madeActive id before window a) [.queue, .gridFlags] :=
  ((s.modRequest_frame id _).mono (by simp)).then (State.noteReduced_frame _ _ _) (by simp)

theorem State.madeActive_view (s : State) (id before window : Nat) (a : Allocation) (b : BayNo) :
    (s.madeActive id before window a).view b = s.view b :=
  (s.madeActive_frame id before window a).view (by decide) b

theorem State.ordersMade_frame (s : State) (id before window : Nat) (a : Allocation) :
    (s.madeActive id before window a).sameBut (s.ordersMade id before window a) orderEndParts :=
  State.sameBut_foldl _ (State.createEntry_frame id window) a.list _

theorem State.notices_ordersMade (s : State) (id before window : Nat) (a : Allocation) :
    (s.ordersMade id before window a).notices = s.notices := by
  rw [State.ordersMade, foldl_keeps State.notices (State.notices_createEntry id window)]
  exact (s.madeActive_frame id before window a).notices (by decide)

theorem State.queue_madeActive (s : State) (id before window : Nat) (a : Allocation) :
    (s.madeActive id before window a).queue = (s.modRequest id (Request.activated window a)).queue := by
  unfold State.madeActive State.noteReduced
  split <;> rfl

theorem State.flags_madeActive (s : State) (id before window : Nat) (a : Allocation) :
    (s.madeActive id before window a).grid.flags ||| 0x01#8
      = s.grid.flags ||| (if a.grant < before then 0x03#8 else 0x01#8) := by
  unfold State.madeActive State.noteReduced
  split
  next h =>
    have hflags : (((s.modRequest id (Request.activated window a)).raiseGrid .grantReduced).grid.flags)
        = s.grid.flags ||| 0x02#8 := rfl
    rw [hflags, BitVec.or_assoc]
    rfl
  next h => rfl

theorem State.orderCreated.of_frame {b : BayNo} {target quota ps : Nat} {earlier : List BayNo}
    (h : s.orderCreated t b id target quota ps earlier) {parts : List Part} (hframe : t.sameBut u parts)
    (hbays : .bays ∉ parts) (horders : .orders ∉ parts) (hpoll : .pollQueue ∉ parts) :
    s.orderCreated u b id target quota ps earlier := by
  have hbay (b : BayNo) : u.bay b = t.bay b := hframe.bayAt hbays b
  have horder (b : BayNo) : u.order b = t.order b := hframe.orderAt horders b
  have hpoint (b : BayNo) : u.setPoint b = t.setPoint b := by rw [State.setPoint, State.setPoint, hbay, horder]
  simpa only [State.orderCreated, hbay, horder, hpoint, hframe.pollQueue hpoll] using h

/-- Each participant with an empty slot receives its order (R94, R97). -/
theorem State.orderCreated_ordersMade {ps : Nat} {front back : List Participant} {e : Participant}
    (hr : s.request? id = some r) (hps : (s.profileAt r.profile).ps = ps) (hnodup : (a.list.map (·.bay)).Nodup)
    (hlist : a.list = front ++ e :: back) (horder : s.order e.bay = none) :
    s.orderCreated (s.ordersMade id before window a) e.bay id e.target (e.target * window) ps (front.map (·.bay)) := by
  have hframe := s.madeActive_frame id before window a
  have hview := s.madeActive_view id before window a
  rw [State.ordersMade, hlist]
  refine State.orderCreated_foldl (hlist ▸ hnodup) ((State.order_of_view (hview _)).trans horder)
    (State.bay_of_view (hview _)) ?_ (congrArg Site.limit (hframe.site (by decide)))
    fun c => State.setPoint_of_view (hview c)
  have hrequest : (s.madeActive id before window a).request? id = some (r.activated window a) := by
    rw [State.request?, State.queue_madeActive]
    exact (State.request?_modRequest (f := Request.activated window a) fun _ => rfl).trans (by rw [hr]; rfl)
  have hprofile : (s.madeActive id before window a).profileAt r.profile = s.profileAt r.profile := by
    rw [State.profileAt, State.profileAt, hframe.profiles (by decide)]
  rw [State.profileOf, hrequest, ← hps, ← hprofile]
  rfl

theorem State.view_ordersMade {b : BayNo} (hlist : ∀ e ∈ a.list, e.bay ≠ b) :
    (s.ordersMade id before window a).view b = s.view b :=
  (view_foldl_not_mem (place := Participant.bay) (State.createEntry_onlyAt id window) hlist _).trans
    (s.madeActive_view id before window a b)

end

end Sys2Proof.Machine

namespace Sys2Proof.Proofs

open Sys2Proof.Machine

/-- Settles O46: the idle cases, then the request written and its orders created in split order. -/
theorem activationSplitsGrant : Obligations.ActivationSplitsGrant := by
  unfold Obligations.ActivationSplitsGrant
  intro s hsound _
  simp only [exec_activation, State.dueRequest?_eq]
  refine ⟨?_, fun hnone => ?_, ?_⟩
  · rintro ⟨r, hr, hactive⟩
    rw [State.active?_of_mem hsound hr hactive]
  · rw [List.find?_eq_none.mpr fun r hr => by rw [State.not_due (hnone r hr)]; exact Bool.false_ne_true]
    cases s.active? <;> rfl
  · intro front r back countdown hqueue hstate hlead hidle hfirst
    have hr : r ∈ s.queue := by simp [hqueue]
    have hactive : s.active? = none := State.active?_eq_none.mpr hidle
    have hdue : s.queue.find? s.due = some r := by
      rw [hqueue, List.find?_append, List.find?_eq_none.mpr fun q hq => by
        rw [State.not_due (hfirst q hq)]; exact Bool.false_ne_true]
      simp [State.due_iff.mpr ⟨countdown, hstate, hlead⟩]
    rw [hactive, hdue]
    have hrequest := State.request?_of_mem hsound hr
    have hnodup := s.nodup_evaluate (splitTerms r (s.profileAt r.profile))
    simp only [State.activate]
    have hterms : splitTerms r (s.profileAt r.profile) = ⟨r.id, s.profileAt r.profile, r.submitted,
      (s.profileAt r.profile).lead + r.length, (s.profileAt r.profile).lead + r.length, false⟩ := rfl
    rw [hterms] at hnodup ⊢
    generalize hwindow : (s.profileAt r.profile).lead + r.length = window at *
    generalize s.evaluate ⟨r.id, s.profileAt r.profile, r.submitted, window, window, false⟩ = a at *
    have hraise := State.raiseGrid_frame (s.ordersMade r.id r.current window a) .requestActive
    have hmade := s.ordersMade_frame r.id r.current window a
    have hwritten := s.madeActive_frame r.id r.current window a
    refine ⟨_, rfl, ?_, ?_, ?_, ?_, ?_⟩
    · rw [State.applyActivation_eq, hraise.queue (by decide), hmade.queue (by decide), State.queue_madeActive]
      exact State.queue_modRequest_split (f := Request.activated window a) hsound.2.1 hqueue
    · intro ahead e after hlist horder
      exact (State.orderCreated_ordersMade hrequest rfl hnodup hlist horder).of_frame hraise (by decide) (by decide)
        (by decide)
    · intro b hlist
      have hview := (hraise.view (by decide) b).trans (State.view_ordersMade (id := r.id) (before := r.current)
        (window := window) hlist)
      exact ⟨State.order_of_view hview, State.bay_of_view hview⟩
    · have hraised : ((s.ordersMade r.id r.current window a).raiseGrid .requestActive).grid
          = { (s.ordersMade r.id r.current window a).grid with
              flags := (s.ordersMade r.id r.current window a).grid.flags ||| 0x01#8 } := rfl
      rw [State.applyActivation_eq, hraised, hmade.grid (by decide), State.flags_madeActive,
        hwritten.grid_flags (by decide)]
    · exact ((s.applyActivation_frame r.id r.current window a).without_notices
        (s.notices_ordersMade r.id r.current window a) (by decide))

end Sys2Proof.Proofs
end

section

/-!
SUPPORT. An order-end notice taken (R74): the energy counted, and what the end starts.
-/

namespace Sys2Proof.Machine

section
variable {s t : State} {r : Request} {id : Nat}

theorem State.setNotices_frame (s : State) (l : List Notice) : s.sameBut { s with notices := l } [.notices] := by
  intro p hp
  cases p with
  | notices => exact absurd List.mem_cons_self hp
  | _ => rfl

/-! ### Requests that an event leaves alone -/

theorem find?_filter_ne (l : List Request) {n : Nat} (hn : n ≠ id) :
    (l.filter fun q => q.id != id).find? (fun q => q.id == n) = l.find? fun q => q.id == n := by
  rw [List.find?_filter]
  refine congrArg (l.find? ·) (funext fun q => ?_)
  by_cases hq : q.id = n
  · simp [hq, hn]
  · simp [hq]

/-- Where the queue kept all but one request, each of the others is found as before. -/
theorem State.request?_of_filter {n : Nat} (hn : n ≠ id)
    (h : t.queue.filter (fun q => q.id != id) = s.queue.filter fun q => q.id != id) :
    t.request? n = s.request? n := by
  rw [State.request?, State.request?, ← find?_filter_ne t.queue hn, h, find?_filter_ne s.queue hn]

theorem State.filter_leave (s : State) (id : Nat) :
    (s.leave id).queue.filter (fun q => q.id != id) = s.queue.filter fun q => q.id != id := by
  unfold State.leave
  split
  · split
    · exact List.filter_filter.trans (congrArg (s.queue.filter ·) (funext fun q => Bool.and_self _))
    · rfl
    · rfl
  · rfl

/-! ### The re-split of the ACTIVE request (R83) -/

theorem State.resplit_none (h : s.active? = none) : s.resplit = s := by
  rw [State.resplit, h]

/-- What a re-split of the ACTIVE request reads and writes: its grant shared over what remains of the window. -/
theorem State.resplit_active {remaining : Nat} {eligible : List BayNo} (hr : s.active? = some r)
    (hstate : r.state = .active remaining eligible) : s.resplit = s.applyResplit r.id remaining (s.evaluate
      ⟨r.id, s.profileAt r.profile, r.current, remaining, max remaining 1, true⟩) false := by
  simp only [State.resplit, hr, hstate]
  rfl

/-- The re-split of the ACTIVE request, in the terms of the statements. -/
theorem State.resplit_spec {remaining : Nat} {eligible : List BayNo} (hsound : s.queueSound) (hplaced : s.ordersPlaced)
    (hr : r ∈ s.queue) (hstate : r.state = .active remaining eligible) {a : Allocation}
    (ha : s.evaluate ⟨r.id, s.profileAt r.profile, r.current, remaining, max remaining 1, true⟩ = a) :
    s.resplit.request? r.id = some { r with list := a.list, state := .active remaining a.eligible }
    ∧ s.ordersAligned s.resplit r.id remaining (s.profileAt r.profile).ps a.list := by
  have hnodup := s.nodup_evaluate ⟨r.id, s.profileAt r.profile, r.current, remaining, max remaining 1, true⟩
  have hrequest := State.request?_of_mem hsound hr
  rw [State.resplit_active (State.active?_of_state hsound hr hstate) hstate, ha]
  rw [ha] at hnodup
  exact ⟨State.request?_applyResplit hrequest, State.applyResplit_aligned hplaced hrequest rfl hnodup⟩

theorem State.queue_resplit_active {remaining : Nat} {eligible : List BayNo} (hsound : s.queueSound)
    (hr : r ∈ s.queue) (hstate : r.state = .active remaining eligible) {a : Allocation}
    (ha : s.evaluate ⟨r.id, s.profileAt r.profile, r.current, remaining, max remaining 1, true⟩ = a) :
    s.resplit.queue = (s.modRequest r.id (·.resplit remaining a false)).queue := by
  rw [State.resplit_active (State.active?_of_state hsound hr hstate) hstate, ha]
  exact (State.alignOrders_frame _ r.id remaining a.list).queue (by decide)

/-! ### The energy counted (R74) -/

/-- A request with the energy of an ended order counted. -/
def Request.energyTaken (energy : Nat) (r : Request) : Request := { r with delivered := addDelivered r.delivered energy }

/-- The part with the energy of an ended order counted to its request. -/
def State.energyTaken (s : State) (id energy : Nat) : State := s.modRequest id (Request.energyTaken energy)

variable {energy : Nat} {cause : Option EndCause} {byTransition : Bool}

theorem exec_orderEndNotice {b : BayNo} {rest : List Notice}
    (h : s.notices = .orderEnd id b cause energy byTransition :: rest) : exec .orderEndNotice s
      = .next ({ s with notices := rest }.takeOrderEnd id cause energy byTransition) := by
  have hexec : exec .orderEndNotice s = match s.notices with
    | .orderEnd id _ cause energy byTransition :: rest =>
      .next ({ s with notices := rest }.takeOrderEnd id cause energy byTransition)
    | _ => .next s := rfl
  rw [hexec, h]

theorem State.takeOrderEnd_absent (h : s.request? id = none) : s.takeOrderEnd id cause energy byTransition = s := by
  simp only [State.takeOrderEnd, h]

theorem State.takeOrderEnd_queued (h : s.request? id = some r) : s.takeOrderEnd id cause energy byTransition
    = (s.energyTaken id energy).afterOrderNotice r cause byTransition := by
  simp only [State.takeOrderEnd, h]
  rfl

theorem State.energyTaken_frame (s : State) (id energy : Nat) : s.sameBut (s.energyTaken id energy) [.queue] :=
  s.modRequest_frame id _

theorem State.request?_energyTaken (h : s.request? id = some r) :
    (s.energyTaken id energy).request? id = some (r.energyTaken energy) := by
  rw [State.energyTaken, State.request?_modRequest (f := Request.energyTaken energy) (fun _ => rfl), h]
  rfl

theorem State.filter_energyTaken (s : State) (id energy : Nat) :
    (s.energyTaken id energy).queue.filter (fun q => q.id != id) = s.queue.filter fun q => q.id != id :=
  filter_modRequest fun _ => rfl

theorem State.evaluate_energyTaken (s : State) (t : Terms) (energy : Nat) :
    (s.energyTaken t.request energy).evaluate t = s.evaluate t :=
  State.evaluate_congr (s.energyTaken_frame _ _) (by decide) (by decide) (by decide) (by decide) (by decide)
    (State.otherCommitments_modRequest fun _ => rfl)

/-! ### What the end of an order starts (R74) -/

theorem startsResplit_iff : startsResplit cause byTransition = true ↔
    byTransition = false ∧ cause ≠ some .windowEnd ∧ cause ≠ some .curtail := by
  simp [startsResplit, and_assoc]

theorem startsResplit_eq_false (h : cause = some .windowEnd ∨ cause = some .curtail ∨ byTransition = true) :
    startsResplit cause byTransition = false := by
  obtain rfl | rfl | rfl := h <;> simp [startsResplit]

theorem State.endWaits_iff {notices : List Notice} (h : s.notices = notices) :
    s.endWaits id = true ↔ ∃ b c e m, Notice.orderEnd id b c e m ∈ notices := by
  rw [State.endWaits, h, List.any_eq_true]
  constructor
  · rintro ⟨n, hn, hend⟩
    cases n with
    | change source => simp [Notice.isEndOf] at hend
    | orderEnd request b c e m =>
      have hid : request = id := by simpa [Notice.isEndOf] using hend
      exact ⟨b, c, e, m, hid ▸ hn⟩
  · rintro ⟨b, c, e, m, hn⟩
    exact ⟨_, hn, by simp [Notice.isEndOf]⟩

theorem State.orderCount_eq_zero : s.orderCount id = 0 ↔ ¬∃ b o, s.order b = some o ∧ o.request = id := by
  rw [State.orderCount, List.length_eq_zero_iff, List.filter_eq_nil_iff]
  simp only [mem_allBays, forall_const, not_exists]
  refine forall_congr' fun b => ?_
  unfold State.hasOrderOf
  cases s.order b <;> simp

theorem State.afterOrderNotice_active {remaining : Nat} {eligible : List BayNo} (h : r.state = .active remaining eligible) :
    s.afterOrderNotice r cause byTransition = if startsResplit cause byTransition then s.resplit else s := by
  simp only [State.afterOrderNotice, h]

theorem State.afterOrderNotice_held {countdown : Nat} (h : r.state = .held countdown) :
    s.afterOrderNotice r cause byTransition = s := by
  simp only [State.afterOrderNotice, h]

theorem State.afterOrderNotice_ending {endCause : RequestCause} (h : r.state = .ending endCause) :
    s.afterOrderNotice r cause byTransition = if s.endWaits r.id then s else s.leaveIfDone r.id := by
  simp only [State.afterOrderNotice, h]

/-- An order-end notice leaves every other request as it was. -/
theorem State.filter_afterOrderNotice (hsound : s.queueSound) {q : Request} (hq : q ∈ s.queue) (hstate : q.state = r.state) (hid : q.id = r.id) :
    (s.afterOrderNotice r cause byTransition).queue.filter (fun q => q.id != r.id)
      = s.queue.filter fun q => q.id != r.id := by
  unfold State.afterOrderNotice
  cases hr : r.state with
  | held countdown => rfl
  | ending endCause =>
    dsimp only
    split
    · rfl
    · unfold State.leaveIfDone
      split
      · exact s.filter_leave r.id
      · rfl
  | active remaining eligible =>
    dsimp only
    split
    · rw [State.queue_resplit_active hsound hq (hstate.trans hr) rfl, hid]
      exact filter_modRequest (f := (·.resplit remaining _ false)) fun _ => rfl
    · rfl

/-- A request that leaves with no notice of its own waiting takes none with it. -/
theorem State.notices_leave (h : s.endWaits id = false) : (s.leave id).notices = s.notices := by
  have hkept : s.notices.filter (fun n => !n.isEndOf id) = s.notices := List.filter_eq_self.mpr fun n hn => by
    have := List.any_eq_false.mp h n hn
    simpa using this
  unfold State.leave
  split
  · split
    · exact hkept
    · rfl
    · rfl
  · rfl

end

end Sys2Proof.Machine

namespace Sys2Proof.Proofs

open Sys2Proof.Machine

/-- Settles O48: the energy counted first, then what the end starts by the state of its request. -/
theorem orderEndNoticeTaken : Obligations.OrderEndNoticeTaken := by
  unfold Obligations.OrderEndNoticeTaken
  intro id b cause energy byTransition rest s s' hs' hnotices hsound hplaced
  rw [exec_orderEndNotice hnotices, ← hs']
  have hgone : s.sameBut s' [.notices] := by
    rw [hs']
    exact s.setNotices_frame rest
  have hrest : s'.notices = rest := by rw [hs']
  have hqueue : s'.queue = s.queue := hgone.queue (by decide)
  have hsound' : s'.queueSound := by rwa [State.queueSound, hqueue]
  have hplaced' : s'.ordersPlaced := hplaced.of_parts (hgone.bays (by decide)) (hgone.orders (by decide))
  refine ⟨fun habsent => ?_, ?_⟩
  · rw [State.takeOrderEnd_absent (State.request?_eq_none.mpr (by rwa [hqueue]))]
  rintro r hr rfl
  have hr' : r ∈ s'.queue := by rwa [hqueue]
  have hrequest := State.request?_of_mem hsound' hr'
  rw [State.takeOrderEnd_queued hrequest]
  have hfound := State.request?_energyTaken (energy := energy) hrequest
  have hsoundE : (s'.energyTaken r.id energy).queueSound :=
    State.queueSound_modRequest ⟨fun _ => rfl, .inl fun _ hq => hq⟩ hsound'
  have hplacedE : (s'.energyTaken r.id energy).ordersPlaced := hplaced'.modRequest r.id _
  have hmem : r.energyTaken energy ∈ (s'.energyTaken r.id energy).queue := (State.mem_of_request? hfound).1
  have hothers := s'.filter_energyTaken r.id energy
  have hcounted := s'.energyTaken_frame r.id energy
  have hends := State.releaseOnEnd_modRequest (s := s') (id := r.id) (f := Request.energyTaken energy)
    (fun _ => rfl) (fun _ => rfl) r.id
  have hevaluate (t : Terms) (ht : t.request = r.id) : (s'.energyTaken r.id energy).evaluate t = s.evaluate t := by
    rw [← ht, State.evaluate_energyTaken]
    exact State.evaluate_congr hgone (by decide) (by decide) (by decide) (by decide) (by decide)
      fun b => by rw [hs']; rfl
  rw [← State.energyTaken] at hends
  generalize s'.energyTaken r.id energy = u at *
  have hprofile : u.profileAt r.profile = s.profileAt r.profile := by
    rw [State.profileAt, State.profileAt, hcounted.profiles (by decide), hgone.profiles (by decide)]
  have hnotice : u.notices = rest := (hcounted.notices (by decide)).trans hrest
  have horders (b : BayNo) : u.order b = s.order b :=
    (hcounted.orderAt (by decide) b).trans (hgone.orderAt (by decide) b)
  have hwhole : s.sameBut u requestWrites := (hgone.mono (by decide)).trans (hcounted.mono (by decide))
  refine ⟨_, rfl, ?_, fun remaining eligible hstate => ⟨fun hkept => ?_, fun hwindow hcurtail htransition => ?_⟩,
    fun countdown hstate => ?_, fun q hq hne => ?_, fun endCause hstate => ⟨fun hmore => ?_, fun hlast => ?_⟩⟩
  · exact hwhole.trans ((u.afterOrderNotice_frame r cause byTransition).mono (by decide))
  · rw [State.afterOrderNotice_active hstate, startsResplit_eq_false hkept]
    exact ⟨hfound, hcounted⟩
  · rw [State.afterOrderNotice_active hstate, if_pos (startsResplit_iff.mpr ⟨htransition, hwindow, hcurtail⟩)]
    obtain ⟨hwritten, haligned⟩ := State.resplit_spec (r := r.energyTaken energy) hsoundE hplacedE hmem hstate
      (hevaluate _ rfl)
    refine ⟨?_, ?_, ?_⟩
    · exact hwritten.trans (by simp only [Request.energyTaken, hprofile]; rfl)
    · exact (hcounted.mono (by decide)).trans (u.resplit_frame.mono (by decide))
    · rw [← hprofile]
      exact haligned.congr hcounted (by decide) (by decide) (by decide) (by decide) hends
  · rw [State.afterOrderNotice_held hstate]
    exact ⟨hfound, hcounted⟩
  · rw [State.request?_of_filter (s := s) hne, State.request?_of_mem hsound hq]
    refine (State.filter_afterOrderNotice (r := r) hsoundE hmem rfl rfl).trans ?_
    rw [hothers, hqueue]
  · rw [State.afterOrderNotice_ending hstate]
    have hstays : (if u.endWaits r.id = true then u else u.leaveIfDone r.id) = u := by
      split
      next => rfl
      next hwaits =>
        refine if_neg fun hzero => State.orderCount_eq_zero.mp hzero ?_
        simpa only [horders] using hmore.resolve_left fun h => hwaits ((State.endWaits_iff hnotice).mpr h)
    rw [hstays]
    exact ⟨hfound, hcounted⟩
  · obtain ⟨hnowaits, hnoorders⟩ := not_or.mp hlast
    have hwaits : u.endWaits r.id = false := Bool.eq_false_iff.mpr fun h => hnowaits ((State.endWaits_iff hnotice).mp h)
    have hzero : u.orderCount r.id = 0 := State.orderCount_eq_zero.mpr (by simpa only [horders] using hnoorders)
    rw [State.afterOrderNotice_ending hstate, hwaits, State.leaveIfDone, if_pos hzero]
    refine ⟨State.requestLeft_leave (q := r.energyTaken energy) hfound hstate rfl rfl (hothers.trans (by rw [hqueue]))
      (congrArg PortState.flags ((hcounted.grid (by decide)).trans (hgone.grid (by decide)))), ?_⟩
    exact (hcounted.mono (by decide)).trans
      ((u.leave_frame r.id).without_notices (State.notices_leave hwaits) (by decide))

end Sys2Proof.Proofs
end

section

/-!
SUPPORT. A change notice taken (R81): the reviews of the HELD requests in queue order (R82), each reading what those before
it wrote, and the re-split of the ACTIVE request (R83).
-/

namespace Sys2Proof.Machine

section
variable {s u : State} {r : Request} {ahead behind : List Request}

/-! ### Evaluations on a queue (R56) -/

/-- A part that agrees with another but for some parts and the queue agrees with that other's queue put in. -/
theorem State.sameBut.withQueue {parts : List Part} (h : s.sameBut u (.queue :: parts)) {l : List Request}
    (hqueue : u.queue = l) : State.sameBut { s with queue := l } u parts := by
  intro p hp
  by_cases hpart : p = .queue
  · rw [hpart]
    exact hqueue
  · have hagrees := h p (by simp [hpart, hp])
    cases p with
    | queue => exact absurd rfl hpart
    | _ => exact hagrees

theorem State.heldEnergy_congr {s u : State} {b : BayNo} (h : u.order b = s.order b) (r : Request) :
    u.heldEnergy b r = s.heldEnergy b r := by
  simp only [State.heldEnergy, h]

theorem State.otherCommitments_congr {b : BayNo} (hqueue : u.queue = s.queue) (h : u.order b = s.order b) (id : Nat) :
    u.otherCommitments id b = s.otherCommitments id b := by
  rw [State.otherCommitments, State.otherCommitments, hqueue, funext (State.heldEnergy_congr h)]

theorem State.setQueue_frame (s : State) (l l' : List Request) :
    State.sameBut { s with queue := l } { s with queue := l' } [.queue] := by
  intro p hp
  cases p with
  | queue => exact absurd List.mem_cons_self hp
  | _ => rfl

/-! ### One review (R82) -/

/-- What a review makes of a request that stands between two parts of the queue. -/
def State.reviewed (s : State) (ahead : List Request) (r : Request) (behind : List Request) : Request :=
  match r.state with
  | .held countdown =>
    let a := State.evaluate { s with queue := ahead ++ r :: behind } (reviewTerms r (s.profileAt r.profile) countdown)
    { r with list := a.list, current := a.grant }
  | .active _ _ | .ending _ => r

theorem State.reviewed_held {countdown : Nat} (h : r.state = .held countdown) {a : Allocation}
    (ha : State.evaluate { s with queue := ahead ++ r :: behind } (reviewTerms r (s.profileAt r.profile) countdown) = a) :
    s.reviewed ahead r behind = { r with list := a.list, current := a.grant } := by
  simp only [State.reviewed, h, ha]

theorem State.reviewed_notHeld (h : ∀ countdown, r.state ≠ .held countdown) : s.reviewed ahead r behind = r := by
  unfold State.reviewed
  cases hstate : r.state with
  | held countdown => exact absurd hstate (h countdown)
  | active _ _ => rfl
  | ending _ => rfl

theorem State.id_reviewed (s : State) (ahead : List Request) (r : Request) (behind : List Request) :
    (s.reviewed ahead r behind).id = r.id := by
  unfold State.reviewed
  split <;> rfl

theorem State.state_reviewed (s : State) (ahead : List Request) (r : Request) (behind : List Request) :
    (s.reviewed ahead r behind).state = r.state := by
  unfold State.reviewed
  split <;> rfl

theorem State.grant_evaluate_le (s : State) (t : Terms) : (s.evaluate t).grant ≤ t.power :=
  (targetSum_split_le ..).trans (Nat.min_le_left ..)

/-- A review only lowers a grant (R82). -/
theorem State.current_reviewed_le (s : State) (ahead : List Request) (r : Request) (behind : List Request) :
    (s.reviewed ahead r behind).current ≤ r.current := by
  unfold State.reviewed
  split
  · exact State.grant_evaluate_le _ _
  · exact le_rfl
  · exact le_rfl

/-- The request as its review writes it. -/
def Request.reviewedAs (a : Allocation) (q : Request) : Request := { q with list := a.list, current := a.grant }

theorem State.review_held {countdown : Nat} (hr : u.request? r.id = some r) (hstate : r.state = .held countdown)
    {a : Allocation} (ha : u.evaluate (reviewTerms r (u.profileAt r.profile) countdown) = a) : u.review r.id
      = (u.modRequest r.id (Request.reviewedAs a)).noteReduced r.current a.grant := by
  simp only [State.review, hr, hstate, State.applyReview, ha]
  rfl

theorem State.review_notHeld (hr : u.request? r.id = some r) (hstate : ∀ countdown, r.state ≠ .held countdown) :
    u.review r.id = u := by
  simp only [State.review, hr]
  cases h : r.state with
  | held countdown => exact absurd h (hstate countdown)
  | active _ _ => rfl
  | ending _ => rfl

theorem State.queue_noteReduced (s : State) (before after : Nat) : (s.noteReduced before after).queue = s.queue := by
  unfold State.noteReduced
  split <;> rfl

/-- What a review writes into the queue, and the flag it raises. -/
theorem State.review_spec (hqueue : u.queue = ahead ++ r :: behind) (hnodup : (u.queue.map (·.id)).Nodup)
    (hframe : s.sameBut u [.queue, .notices, .gridFlags]) :
    (u.review r.id).queue = ahead ++ s.reviewed ahead r behind :: behind
    ∧ (u.review r.id).grid.flags = if (s.reviewed ahead r behind).current < r.current then u.grid.flags ||| 0x02#8
      else u.grid.flags := by
  have hr := State.request?_of_ids hnodup (r := r) (by simp [hqueue])
  by_cases hheld : ∃ countdown, r.state = .held countdown
  · obtain ⟨countdown, hstate⟩ := hheld
    have hprofile : u.profileAt r.profile = s.profileAt r.profile := by
      rw [State.profileAt, State.profileAt, hframe.profiles (by decide)]
    have hseen := hframe.withQueue hqueue
    have heval : u.evaluate (reviewTerms r (u.profileAt r.profile) countdown) = State.evaluate
        { s with queue := ahead ++ r :: behind } (reviewTerms r (s.profileAt r.profile) countdown) := by
      rw [hprofile]
      exact State.evaluate_congr hseen (by decide) (by decide) (by decide) (by decide) (by decide) fun b =>
        State.otherCommitments_congr hqueue (hseen.orderAt (by decide) b) _
    rw [State.review_held hr hstate heval, State.reviewed_held hstate rfl]
    generalize State.evaluate { s with queue := ahead ++ r :: behind } (reviewTerms r (s.profileAt r.profile) countdown) = a
    refine ⟨?_, ?_⟩
    · rw [State.queue_noteReduced, State.queue_modRequest_split (f := Request.reviewedAs a) hnodup hqueue]
      rfl
    · unfold State.noteReduced
      split <;> rfl
  · push Not at hheld
    rw [State.review_notHeld hr hheld, State.reviewed_notHeld hheld]
    exact ⟨hqueue, (if_neg (lt_irrefl _)).symm⟩

/-! ### The reviews in queue order (R81) -/

/-- What the reviews make of the rest of a queue behind the part already reviewed. -/
def State.reviewedQueue (s : State) : List Request → List Request → List Request
  | _, [] => []
  | ahead, r :: behind =>
    s.reviewed ahead r behind :: s.reviewedQueue (ahead ++ [s.reviewed ahead r behind]) behind

theorem State.reviewedQueue_cons (s : State) (ahead : List Request) (r : Request) (behind : List Request) :
    s.reviewedQueue ahead (r :: behind)
      = s.reviewed ahead r behind :: s.reviewedQueue (ahead ++ [s.reviewed ahead r behind]) behind := rfl

theorem State.map_reviewedQueue {α : Type} {g : Request → α}
    (hg : ∀ ahead r behind, g (s.reviewed ahead r behind) = g r) (ahead l : List Request) :
    (s.reviewedQueue ahead l).map g = l.map g := by
  induction l generalizing ahead with
  | nil => rfl
  | cons r behind ih => rw [State.reviewedQueue_cons, List.map_cons, List.map_cons, hg, ih]

/-- A request keeps its place in the queue through the reviews. -/
theorem State.reviewedQueue_split (s : State) (ahead front : List Request) (r : Request) (back : List Request) :
    ∃ front' back', s.reviewedQueue ahead (front ++ r :: back)
      = front' ++ s.reviewed (ahead ++ front') r back :: back' ∧ front'.length = front.length := by
  induction front generalizing ahead with
  | nil => exact ⟨[], _, by rw [List.nil_append, State.reviewedQueue_cons, List.append_nil, List.nil_append], rfl⟩
  | cons q rest ih =>
    obtain ⟨front', back', hsplit, hlength⟩ := ih (ahead ++ [s.reviewed ahead q (rest ++ r :: back)])
    refine ⟨s.reviewed ahead q (rest ++ r :: back) :: front', back', ?_, by simp [hlength]⟩
    rw [List.cons_append, State.reviewedQueue_cons, hsplit, List.append_assoc]
    rfl

theorem or_reduced_twice (x : Byte) : x ||| 0x02#8 ||| 0x02#8 = x ||| 0x02#8 := by
  rw [BitVec.or_assoc, BitVec.or_self]

theorem State.reviews_spec {l : List Request} (hqueue : u.queue = ahead ++ l) (hnodup : (u.queue.map (·.id)).Nodup)
    (hframe : s.sameBut u [.queue, .notices, .gridFlags]) :
    ((l.map (·.id)).foldl State.review u).queue = ahead ++ s.reviewedQueue ahead l
    ∧ ((l.map (·.id)).foldl State.review u).grid.flags
      = if (s.reviewedQueue ahead l).map (·.current) ≠ l.map (·.current) then u.grid.flags ||| 0x02#8
        else u.grid.flags := by
  induction l generalizing u ahead with
  | nil => exact ⟨hqueue, (if_neg (not_not_intro rfl)).symm⟩
  | cons r behind ih =>
    obtain ⟨hwritten, hflags⟩ := State.review_spec hqueue hnodup hframe
    have hle := s.current_reviewed_le ahead r behind
    have hids : ((u.review r.id).queue.map (·.id)) = u.queue.map (·.id) := by
      rw [hwritten, hqueue]
      simp [s.id_reviewed]
    obtain ⟨hrest, hraised⟩ := ih (u := u.review r.id) (ahead := ahead ++ [s.reviewed ahead r behind])
      (by rw [hwritten, List.append_assoc]; rfl) (by rwa [hids])
      (hframe.trans ((u.review_frame r.id).mono (by decide)))
    rw [List.map_cons, List.foldl_cons, State.reviewedQueue_cons]
    refine ⟨hrest.trans (by rw [List.append_assoc]; rfl), hraised.trans ?_⟩
    rw [hflags, List.map_cons, List.map_cons]
    by_cases hfell : (s.reviewed ahead r behind).current < r.current
    · have hchanged : (s.reviewed ahead r behind).current
          :: (s.reviewedQueue (ahead ++ [s.reviewed ahead r behind]) behind).map (·.current)
          ≠ r.current :: behind.map (·.current) := by simp [hfell.ne]
      rw [if_pos hfell, if_pos hchanged]
      split
      · exact or_reduced_twice _
      · rfl
    · have hsame : (s.reviewed ahead r behind).current = r.current := le_antisymm hle (not_lt.mp hfell)
      rw [if_neg hfell]
      simp only [hsame, ne_eq, List.cons.injEq, true_and]

theorem State.forall₂_reviewedQueue (s : State) (ahead l : List Request) :
    List.Forall₂ (fun q q' => ∃ front back, q' = s.reviewed front q back) l (s.reviewedQueue ahead l) := by
  induction l generalizing ahead with
  | nil => exact List.Forall₂.nil
  | cons r behind ih => exact List.Forall₂.cons ⟨_, _, rfl⟩ (ih _)

theorem State.isActive_reviewed (s : State) (ahead : List Request) (r : Request) (behind : List Request) :
    (s.reviewed ahead r behind).isActive = r.isActive := by
  rw [Request.isActive, Request.isActive, State.state_reviewed]

theorem State.queueSound_reviewed (h : s.queueSound) (hqueue : u.queue = s.reviewedQueue [] s.queue) :
    u.queueSound := by
  rw [State.queueSound_iff] at h ⊢
  obtain ⟨hlength, hids, hactive⟩ := h
  have hcount (l : List Request) : l.countP Request.isActive = (l.map Request.isActive).countP (fun b => b) := by
    rw [List.countP_map]
    rfl
  rw [hcount, hqueue, State.map_reviewedQueue s.isActive_reviewed, State.map_reviewedQueue s.id_reviewed, ← hcount]
  refine ⟨?_, hids, hactive⟩
  have hsame := congrArg List.length (s.map_reviewedQueue s.id_reviewed [] s.queue)
  rw [List.length_map, List.length_map] at hsame
  rwa [hsame]

/-! ### The re-split behind the reviews (R83) -/

/-- What the re-split makes of a request of the queue. -/
def State.resplitOne (s : State) (q : Request) : Request :=
  match q.state with
  | .active remaining _ =>
    q.resplit remaining (s.evaluate (resplitTerms q (s.profileAt q.profile) q.current remaining)) false
  | .held _ | .ending _ => q

theorem State.resplitOne_active {remaining : Nat} {eligible : List BayNo} (h : r.state = .active remaining eligible) :
    s.resplitOne r
      = r.resplit remaining (s.evaluate (resplitTerms r (s.profileAt r.profile) r.current remaining)) false := by
  simp only [State.resplitOne, h]

theorem State.resplitOne_notActive (h : r.isActive = false) : s.resplitOne r = r := by
  unfold State.resplitOne
  cases hstate : r.state with
  | active remaining eligible => exact absurd h (by simp [Request.isActive_of_state hstate])
  | held _ => rfl
  | ending _ => rfl

theorem State.id_resplitOne (s : State) (q : Request) : (s.resplitOne q).id = q.id := by
  unfold State.resplitOne
  split <;> rfl

theorem State.current_resplitOne (s : State) (q : Request) : (s.resplitOne q).current = q.current := by
  unfold State.resplitOne
  split <;> rfl

/-- A re-split moves no commitment that its list holds: those of an ACTIVE request stand in its orders (R56). -/
theorem State.heldEnergy_resplitOne (s u : State) (b : BayNo) (q : Request) :
    s.heldEnergy b (u.resplitOne q) = s.heldEnergy b q := by
  cases hstate : q.state with
  | active remaining eligible => simp only [State.resplitOne_active hstate, State.heldEnergy, Request.resplit, hstate]
  | held countdown => rw [State.resplitOne_notActive (by simp [Request.isActive, hstate])]
  | ending cause => rw [State.resplitOne_notActive (by simp [Request.isActive, hstate])]

theorem State.queue_resplit (hsound : s.queueSound) :
    s.resplit.queue = s.queue.map s.resplitOne := by
  cases hactive : s.active? with
  | none =>
    rw [State.resplit_none hactive]
    refine ((List.map_congr_left fun q hq => ?_).trans (List.map_id _)).symm
    exact State.resplitOne_notActive (State.active?_eq_none.mp hactive q hq)
  | some r =>
    obtain ⟨hr, hisActive⟩ := State.mem_of_active? hactive
    cases hstate : r.state with
    | held _ => simp [Request.isActive, hstate] at hisActive
    | ending _ => simp [Request.isActive, hstate] at hisActive
    | active remaining eligible =>
      rw [State.queue_resplit_active hsound hr hstate rfl, State.modRequest_queue]
      refine List.map_congr_left fun q hq => ?_
      by_cases hid : q.id = r.id
      · obtain rfl := eq_of_id hsound.2.1 hq hr hid
        rw [if_pos (beq_self_eq_true _), State.resplitOne_active hstate]
        rfl
      · rw [if_neg (by simpa using hid), State.resplitOne_notActive]
        refine Bool.eq_false_iff.mpr fun h => hid ?_
        exact congrArg Request.id (Option.some.inj ((State.active?_of_mem hsound hq h).symm.trans hactive))

/-- Requests re-split in a queue hold what they held (R56). -/
theorem State.otherCommitments_resplit (s u : State) (l back : List Request) (id : Nat) (b : BayNo) :
    State.otherCommitments { s with queue := l.map u.resplitOne ++ back } id b
      = State.otherCommitments { s with queue := l ++ back } id b := by
  have hheld (l : List Request) : State.heldEnergy { s with queue := l } b = s.heldEnergy b := rfl
  have hids : ((fun r : Request => r.id != id) ∘ u.resplitOne) = fun r => r.id != id :=
    funext fun q => by simp [u.id_resplitOne]
  simp only [State.otherCommitments, hheld, List.filter_append, List.map_append, List.filter_map, List.map_map, hids]
  congr 3
  exact funext fun q => s.heldEnergy_resplitOne u b q

end

theorem exec_changeNotice {s : State} {source : NoticeSource} {rest : List Notice}
    (h : s.notices = .change source :: rest) :
    exec .changeNotice s = .next (State.takeChange { s with notices := rest }) := by
  have hexec : exec .changeNotice s = match s.notices with
    | .change _ :: rest => .next (State.takeChange { s with notices := rest })
    | _ => .next s := rfl
  rw [hexec, h]

end Sys2Proof.Machine

namespace Sys2Proof.Proofs

open Sys2Proof.Machine

/-- Settles O49: the reviews in queue order, then the re-split of the ACTIVE request that they leave. -/
theorem changeNoticeReviewsAndResplits : Obligations.ChangeNoticeReviewsAndResplits := by
  unfold Obligations.ChangeNoticeReviewsAndResplits
  intro source rest s hnotices hsound hplaced
  have hgone := s.setNotices_frame rest
  have htake : State.takeChange { s with notices := rest }
      = ((s.queue.map (·.id)).foldl State.review { s with notices := rest }).resplit := rfl
  rw [exec_changeNotice hnotices, htake]
  obtain ⟨hqueue, hflags⟩ := State.reviews_spec (s := s) (u := { s with notices := rest }) (ahead := []) (l := s.queue)
    rfl hsound.2.1 (hgone.mono (by decide))
  have hreviews : State.sameBut { s with notices := rest }
      ((s.queue.map (·.id)).foldl State.review { s with notices := rest }) [.queue, .gridFlags] :=
    State.sameBut_foldl _ State.review_frame _ _
  generalize (s.queue.map (·.id)).foldl State.review { s with notices := rest } = u at *
  rw [List.nil_append] at hqueue
  have hsoundU := State.queueSound_reviewed hsound hqueue
  have hframe : s.sameBut u [.queue, .notices, .gridFlags] := (hgone.mono (by decide)).trans (hreviews.mono (by decide))
  have hplacedU : u.ordersPlaced := hplaced.of_parts (hframe.bays (by decide)) (hframe.orders (by decide))
  have hresplit := State.queue_resplit hsoundU
  refine ⟨_, rfl, ?_, ?_, ?_, fun front r back hsplit countdown hstate front' r' back' hsplit' hlength => ?_,
    fun r hr remaining eligible hstate => ?_, fun hidle => ?_⟩
  · exact (hframe.mono (by decide)).trans (u.resplit_frame.mono (by decide))
  · rw [hresplit, hqueue, List.forall₂_map_right_iff]
    refine (s.forall₂_reviewedQueue [] s.queue).imp ?_
    rintro q _ ⟨front, back, rfl⟩
    cases hstate : q.state with
    | held countdown =>
      rw [State.resplitOne_notActive (by rw [State.isActive_reviewed]; simp [Request.isActive, hstate]),
        State.reviewed_held hstate rfl]
      exact ⟨by rw [← hstate], State.grant_evaluate_le _ _, rfl⟩
    | active remaining eligible =>
      rw [State.reviewed_notHeld (by simp [hstate]), State.resplitOne_active hstate]
      exact ⟨⟨_, rfl⟩, State.grant_evaluate_le _ _⟩
    | ending cause =>
      rw [State.reviewed_notHeld (by simp [hstate]), State.resplitOne_notActive (by simp [Request.isActive, hstate])]
  · have hcurrents : u.resplit.queue.map (·.current) = (s.reviewedQueue [] s.queue).map (·.current) := by
      rw [hresplit, List.map_map, hqueue]
      exact List.map_congr_left fun q _ => u.current_resplitOne q
    rw [hcurrents, u.resplit_frame.grid (by decide), hframe.grid_flags (by decide), hflags]
  · obtain ⟨ahead, behind, hreviewed, hahead⟩ := s.reviewedQueue_split [] front r back
    rw [hresplit, hqueue, hsplit, hreviewed, List.map_append, List.map_cons] at hsplit'
    obtain ⟨rfl, hcons⟩ := List.append_inj hsplit' (by rw [List.length_map, hahead, hlength])
    obtain ⟨hr', -⟩ := List.cons.inj hcons
    rw [State.resplitOne_notActive (by rw [State.isActive_reviewed]; simp [Request.isActive, hstate]),
      State.reviewed_held hstate rfl] at hr'
    rw [← hr']
    dsimp only
    have hseen : State.evaluate { s with queue := ahead.map u.resplitOne ++ r :: back }
        (reviewTerms r (s.profileAt r.profile) countdown) = State.evaluate { s with queue := ahead ++ r :: back }
        (reviewTerms r (s.profileAt r.profile) countdown) :=
      State.evaluate_congr (s.setQueue_frame _ _) (by decide) (by decide) (by decide) (by decide) (by decide)
        fun b => s.otherCommitments_resplit u ahead (r :: back) _ b
    have hterms : reviewTerms r (s.profileAt r.profile) countdown = ⟨r.id, s.profileAt r.profile, r.current,
      countdown + r.length, (s.profileAt r.profile).lead + r.length, false⟩ := rfl
    rw [List.nil_append, ← hterms, hseen]
  · obtain ⟨front, back, hsplit⟩ := List.append_of_mem hr
    obtain ⟨ahead, behind, hreviewed, -⟩ := s.reviewedQueue_split [] front r back
    have hmem : r ∈ u.queue := by
      rw [hqueue, hsplit, hreviewed, State.reviewed_notHeld (by simp [hstate])]
      simp
    have hprofile : u.profileAt r.profile = s.profileAt r.profile := by
      rw [State.profileAt, State.profileAt, hframe.profiles (by decide)]
    have hevaluate : u.evaluate ⟨r.id, u.profileAt r.profile, r.current, remaining, max remaining 1, true⟩
        = State.evaluate { s with queue := u.resplit.queue }
          ⟨r.id, s.profileAt r.profile, r.current, remaining, max remaining 1, true⟩ := by
      rw [hprofile, hresplit]
      have hother (b : BayNo) : u.otherCommitments r.id b
          = State.otherCommitments { s with queue := u.queue.map u.resplitOne } r.id b := by
        have hmoved := s.otherCommitments_resplit u u.queue [] r.id b
        rw [List.append_nil, List.append_nil] at hmoved
        rw [hmoved]
        exact State.otherCommitments_congr (s := { s with queue := u.queue }) (u := u) rfl (hframe.orderAt (by decide) b) r.id
      exact State.evaluate_congr (((s.setQueue_frame _ u.queue).mono (by decide)).trans
          ((hframe.withQueue rfl).mono (qs := [.queue, .notices, .gridFlags]) (by decide)))
        (by decide) (by decide) (by decide) (by decide) (by decide) hother
    obtain ⟨hrequest, haligned⟩ := State.resplit_spec hsoundU hplacedU hmem hstate hevaluate
    refine ⟨hrequest, ?_⟩
    rw [hprofile] at haligned
    refine haligned.congr hreviews (by decide) (by decide) (by decide) (by decide) ?_
    have hfound : State.request? { s with notices := rest } r.id = some r := State.request?_of_mem hsound hr
    rw [State.releaseOnEnd, State.releaseOnEnd, State.request?_of_mem hsoundU hmem, hfound]
  · rw [State.resplit_none (State.active?_eq_none.mpr fun q hq => ?_)]
    · exact hreviews
    · rw [hqueue] at hq
      have hmem := List.mem_map_of_mem (f := Request.isActive) hq
      rw [State.map_reviewedQueue s.isActive_reviewed, List.mem_map] at hmem
      obtain ⟨r, hr, hsame⟩ := hmem
      rw [← hsame, hidle r hr]

end Sys2Proof.Proofs
end

section

/-!
SUPPORT. The departure guards of a second (R35, R36), bay by bay.
-/

namespace Sys2Proof.Machine

/-! ### Event flags only gather -/

theorem flagSet_opClosed (i : Nat) : OpClosed fun t => t.fleet.flags.getLsbD i = true where
  modBay _ _ _ h := h
  modFault _ _ h := h
  noOrder _ h := h
  setOrder _ _ h := h
  setBayState {t b st} _ _ h := by
    unfold State.setBayState
    split
    · exact h
    · rw [State.markBay_fleet]
      simp_all
  hand _ h := h
  join {t} b h := by simpa using h
  markBay _ h := by simp [State.markBay, h]
  raiseFleet _ h := by simp [State.raiseFleet, h]

section
variable {s u : State} {b : BayNo} {v : Vehicle} {d : Departure}

/-! ### One bay's guard (R35, R36) -/

theorem State.raiseFleet_view (s : State) (e : FleetEvent) (b : BayNo) : (s.raiseFleet e).view b = s.view b := rfl

theorem State.guardActs_onlyAt (s : State) (b : BayNo) : s.onlyAt (s.guardActs b) b :=
  (((s.releaseFor_onlyAt b _).trans fun c _ => State.raiseFleet_view _ _ c).trans (State.markBay_onlyAt _ b)).trans
    (State.modBay_onlyAt _ b _)

theorem State.evaluateGuard_onlyAt (s : State) (b : BayNo) : s.onlyAt (s.evaluateGuard b) b := by
  unfold State.evaluateGuard
  split
  · exact s.onlyAt_refl b
  · dsimp only
    split
    · split
      · exact s.guardActs_onlyAt b
      · exact s.onlyAt_refl b
    · exact s.modBay_onlyAt b _

theorem State.evaluateGuard_none (h : ∀ v, s.linkedVehicle? b = some v → v.departure = none) :
    s.evaluateGuard b = s := by
  have hnone : (s.linkedVehicle? b).bind (·.departure) = none := by
    cases hv : s.linkedVehicle? b with
    | none => rfl
    | some v => exact h v hv
  simp only [State.evaluateGuard, hnone]

theorem State.evaluateGuard_some (hv : s.linkedVehicle? b = some v) (hd : v.departure = some d) :
    s.evaluateGuard b = if timeToDeparture d.minute s.clock ≤ s.site.guard then
        if (s.bay b).guardArmed then s.guardActs b else s
      else s.modBay b fun r => { r with guardArmed := true } := by
  have hsome : (s.linkedVehicle? b).bind (·.departure) = some d := by rw [hv]; exact hd
  simp only [State.evaluateGuard, hsome]

/-- What the guard raises when it acts (R36). -/
theorem State.flags_guardActs (s : State) (b : BayNo) : (s.guardActs b).fleet.flags.getLsbD 3 = true
    ∧ (s.guardActs b).fleet.flags.getLsbD 0 = true ∧ (s.guardActs b).changeSet.getLsbD b.val = true := by
  have hflags : (s.guardActs b).fleet.flags = (s.releaseFor b .departureGuard).fleet.flags ||| 0x08#8 ||| 0x01#8 := rfl
  have hmark : (s.guardActs b).changeSet = (s.releaseFor b .departureGuard).changeSet ||| BitVec.twoPow 16 b.val := rfl
  rw [hflags, hmark]
  exact ⟨by simp, by simp, getLsbD_mark _ b⟩

theorem State.guardActs_bay (s : State) (b : BayNo) :
    (s.guardActs b).bay b = { (s.releaseFor b .departureGuard).bay b with guardArmed := false } := by
  simp [State.guardActs]

theorem State.guardActs_order (s : State) (b : BayNo) :
    (s.guardActs b).order b = (s.releaseFor b .departureGuard).order b := by simp [State.guardActs]

theorem State.guardActs_faultSet (s : State) (b : BayNo) :
    (s.guardActs b).faultSet b = (s.releaseFor b .departureGuard).faultSet b := by simp [State.guardActs]

theorem State.guardActs_pollQueue (s : State) (b : BayNo) :
    (s.guardActs b).pollQueue = (s.releaseFor b .departureGuard).pollQueue := by simp [State.guardActs]

theorem State.guardActs_released (h : (s.bay b).state = .binding ∨ (s.bay b).state = .bound ∨ (s.bay b).state = .checking) :
    (s.guardActs b).order b = none ∧ b ∈ (s.guardActs b).pollQueue
    ∧ (s.guardActs b).faultSet b = { s.faultSet b with releaseTimedOut := false }
    ∧ (s.guardActs b).bay b = { (s.bay b).released with guardArmed := false } := by
  have hstate : (s.bay b).state ≠ .releasing ∧ (s.bay b).state ≠ .transfer := by
    obtain h | h | h := h <;> simp [h]
  rw [State.guardActs_order, State.guardActs_pollQueue, State.guardActs_faultSet, State.guardActs_bay,
    State.releaseFor_released h]
  obtain ⟨hbay, -, hwaits, -⟩ := State.bayReleased_abort hstate.1 .departureGuard false
  refine ⟨by rw [State.order_release, State.order_abortOrder], hwaits, ?_, by rw [hbay]; rfl⟩
  rw [State.faultSet_release]
  simp [hstate.2]

theorem Order.declineFor_guard (o : Order) : o.declineFor .departureGuard = { o with
    phase := .decline, releaseAtEnd := true
    endCause := if o.phase = .decline then o.endCause else some .departureGuard
    cutTimer := if o.cutTimer = none then some 60 else o.cutTimer } := by
  simp [Order.declineFor, cutTime]

theorem State.guardActs_transfer (h : (s.bay b).state = .transfer) :
    (s.guardActs b).bay b = { s.bay b with guardArmed := false } ∧ (s.guardActs b).faultSet b = s.faultSet b
    ∧ ∀ o, s.order b = some o → o.phase ≠ .waitBind →
      (s.guardActs b).order b = some (o.declineFor .departureGuard) := by
  rw [State.guardActs_bay, State.guardActs_faultSet, State.guardActs_order, State.releaseFor_transfer h]
  have hframe := s.declineBay_frame b .departureGuard
  refine ⟨by rw [hframe.bayAt (by decide)], by rw [State.faultSet, State.faultSet, hframe.faults (by decide)], fun o ho hphase => ?_⟩
  rw [State.declineBay_running ho hphase, State.order_setOrder]

theorem State.guardActs_disengaged (h : (s.bay b).state.engaged = false) :
    (s.guardActs b).bay b = { s.bay b with guardArmed := false } ∧ (s.guardActs b).order b = s.order b
    ∧ (s.guardActs b).faultSet b = s.faultSet b := by
  rw [State.guardActs_bay, State.guardActs_faultSet, State.guardActs_order, State.releaseFor_disengaged h]
  exact ⟨rfl, rfl, rfl⟩

/-! ### The guards of a second (R35) -/

/-- A bay's turn at the guards, taken in a state that has the bay, the roster and the clock as the first has them. -/
theorem State.view_evaluateGuards (hvalid : u.clockValid = true) (b : BayNo) : ∃ m : State,
    m.view b = u.view b ∧ u.sameBut m orderEndParts ∧ u.evaluateGuards.view b = (m.evaluateGuard b).view b
    ∧ ∀ i, (m.evaluateGuard b).fleet.flags.getLsbD i = true → u.evaluateGuards.fleet.flags.getLsbD i = true := by
  obtain ⟨front, back, hsplit, hfront, hturn⟩ := view_foldl_allBays State.evaluateGuard_onlyAt u b
  have hguards : u.evaluateGuards = allBays.foldl State.evaluateGuard u := if_pos hvalid
  rw [hguards]
  refine ⟨_, hfront, State.sameBut_foldl _ State.evaluateGuard_frame front u, hturn, fun i hi => ?_⟩
  rw [hsplit, List.foldl_append, List.foldl_cons]
  exact OpClosed.foldl (Q := fun t => t.fleet.flags.getLsbD i = true) (flagSet_opClosed i).evaluateGuard back hi

theorem State.linkedVehicle?_of_view {m : State} (hview : m.view b = u.view b) (hframe : u.sameBut m orderEndParts) :
    m.linkedVehicle? b = u.linkedVehicle? b := by
  have hroster (n : Nat) : m.vehicle? n = u.vehicle? n := by
    rw [State.vehicle?, State.vehicle?, hframe.roster (by decide)]
  rw [State.linkedVehicle?, State.linkedVehicle?, State.bay_of_view hview, funext hroster]

theorem State.guardsTaken_evaluateGuards (u : State) : u.guardsTaken u.evaluateGuards := by
  intro b
  by_cases hvalid : u.clockValid = true
  · obtain ⟨m, hview, hframe, hturn, hflags⟩ := State.view_evaluateGuards hvalid b
    have hbay := State.bay_of_view hview
    have horder := State.order_of_view hview
    have hfaults := State.faultSet_of_view hview
    have hlinked := State.linkedVehicle?_of_view hview hframe
    generalize u.evaluateGuards = t at *
    have hsame (h : m.evaluateGuard b = m) : t.bay b = u.bay b ∧ t.order b = u.order b ∧ t.faultSet b = u.faultSet b := by
      rw [h, hview] at hturn
      exact ⟨State.bay_of_view hturn, State.order_of_view hturn, State.faultSet_of_view hturn⟩
    refine ⟨fun hnone => hsame (State.evaluateGuard_none ?_), fun v hv d hd _ => ?_⟩
    · rw [hlinked]
      exact hnone.resolve_left (by simp [hvalid])
    · have hguard := State.evaluateGuard_some (hlinked.trans hv) hd
      rw [hframe.clock (by decide), hframe.site (by decide)] at hguard
      simp only [← natCast_timeToDeparture, Nat.cast_le, Nat.cast_lt]
      refine ⟨fun hearly => ?_, fun hlate harmed => ?_, fun hlate harmed => ?_⟩
      · rw [if_neg hearly.not_ge] at hguard
        rw [hguard] at hturn
        refine ⟨(State.bay_of_view hturn).trans ?_, (State.order_of_view hturn).trans horder,
          (State.faultSet_of_view hturn).trans hfaults⟩
        rw [State.bay_modBay, hbay]
      · rw [if_pos hlate, hbay, harmed] at hguard
        exact hsame hguard
      · rw [if_pos hlate, hbay, harmed] at hguard
        replace hguard : m.evaluateGuard b = m.guardActs b := hguard
        rw [hguard] at hturn hflags
        obtain ⟨h3, h0, hmark⟩ := m.flags_guardActs b
        refine ⟨hflags 3 h3, hflags 0 h0, (State.marked_of_view hturn).trans hmark, fun hstate => ?_, fun hstate => ?_,
          fun hstate => ?_⟩
        · obtain ⟨hnone, hwaits, hset, hrecord⟩ := State.guardActs_released (by rwa [hbay])
          refine ⟨(State.order_of_view hturn).trans hnone, (State.waits_of_view hturn).mpr hwaits,
            (State.faultSet_of_view hturn).trans (hset.trans (by rw [hfaults])),
            (State.bay_of_view hturn).trans (hrecord.trans ?_)⟩
          rw [hbay]
          rfl
        · obtain ⟨hrecord, hset, hdeclines⟩ := State.guardActs_transfer (by rwa [hbay])
          refine ⟨(State.bay_of_view hturn).trans (by rw [hrecord, hbay]),
            (State.faultSet_of_view hturn).trans (hset.trans hfaults), fun o ho hphase =>
              (State.order_of_view hturn).trans ((hdeclines o (horder.trans ho) hphase).trans ?_)⟩
          rw [Order.declineFor_guard]
        · obtain ⟨hrecord, hslot, hset⟩ := State.guardActs_disengaged (by rwa [hbay])
          exact ⟨(State.bay_of_view hturn).trans (by rw [hrecord, hbay]), (State.order_of_view hturn).trans
            (hslot.trans horder), (State.faultSet_of_view hturn).trans (hset.trans hfaults)⟩
  · have hguards : u.evaluateGuards = u := if_neg hvalid
    rw [hguards]
    exact ⟨fun _ => ⟨rfl, rfl, rfl⟩, fun _ _ _ _ h => absurd h hvalid⟩

end

end Sys2Proof.Machine
end

section

/-!
SUPPORT. The second (R71, R76, R146): the counts, the newly-eligible test, and what test and guards leave of the fault
sets.
-/

namespace Sys2Proof.Machine

/-! ### What every order operation leaves of a fault set -/

/-- Hold, record and history of a fault set stay. -/
def FaultSet.stays (f f' : FaultSet) : Prop := f'.hold = f.hold ∧ f'.record = f.record ∧ f'.history = f.history

/-- Hold, record and history of every fault set stay. -/
def State.faultsStay (s t : State) : Prop := ∀ b, (s.faultSet b).stays (t.faultSet b)

section
variable {s t u : State} {b : BayNo}

theorem State.faultsStay_refl (s : State) : s.faultsStay s := fun _ => ⟨rfl, rfl, rfl⟩

theorem State.faultsStay.trans (h : s.faultsStay t) (h' : t.faultsStay u) : s.faultsStay u := fun b => by
  obtain ⟨hhold, hrecord, hhistory⟩ := h b
  obtain ⟨hhold', hrecord', hhistory'⟩ := h' b
  exact ⟨hhold'.trans hhold, hrecord'.trans hrecord, hhistory'.trans hhistory⟩

theorem State.faultsStay_of_eq (h : t.faults = s.faults) : s.faultsStay t := fun b => by
  rw [State.faultSet, State.faultSet, h]
  exact ⟨rfl, rfl, rfl⟩

theorem State.faultsStay_of_onlyAt (h : s.onlyAt t b) (hb : (s.faultSet b).stays (t.faultSet b)) : s.faultsStay t :=
  fun c => by
    by_cases hc : c = b
    · exact hc ▸ hb
    · rw [State.faultSet_of_view (h c hc)]
      exact ⟨rfl, rfl, rfl⟩

theorem State.faultsStay_foldl {α : Type} {f : State → α → State} (hf : ∀ s a, State.faultsStay s (f s a))
    (l : List α) (s : State) : s.faultsStay (l.foldl f s) := by
  induction l generalizing s with
  | nil => exact s.faultsStay_refl
  | cons a rest ih => exact (hf s a).trans (ih _)

theorem State.faultsStay_setBayState (s : State) (b : BayNo) (st : BayState) : s.faultsStay (s.setBayState b st) :=
  State.faultsStay_of_onlyAt (s.setBayState_onlyAt b st) (by
    rw [State.faultSet_setBayState]
    split <;> exact ⟨rfl, rfl, rfl⟩)

theorem State.faultsStay_release (s : State) (b : BayNo) : s.faultsStay (s.release b) :=
  State.faultsStay_of_onlyAt (s.release_onlyAt b) (by
    rw [State.faultSet_release]
    exact ⟨rfl, rfl, rfl⟩)

theorem State.faultsStay_abortOrder (s : State) (b : BayNo) (cause : EndCause) (m : Bool) :
    s.faultsStay (s.abortOrder b cause m) :=
  State.faultsStay_of_eq ((s.abortOrder_frame b cause m).faults (by decide))

theorem State.faultsStay_endFor (s : State) (b : BayNo) (o : Order) (cause : EndCause) :
    s.faultsStay (s.endFor b o cause) := by
  by_cases hphase : o.phase = .waitBind
  · rw [State.endFor_waiting hphase]
    obtain ⟨hreleased, hkept⟩ := s.removeWaitBind_cases b o cause
    by_cases h : (s.bay b).state = .binding
        ∨ (s.bay b).state = .bound ∧ ((s.bay b).link = none ∨ s.releaseOnEnd o.request = true)
    · rw [hreleased h]
      exact (s.faultsStay_abortOrder b cause false).trans (State.faultsStay_release _ b)
    · rw [hkept h]
      exact s.faultsStay_abortOrder b cause false
  · rw [State.endFor_running hphase]
    exact State.faultsStay_of_eq rfl

theorem State.faultsStay_firstStep (s : State) (b : BayNo) (o : Order) : s.faultsStay (s.firstStep b o) :=
  ((State.faultsStay_of_eq (s := s) (t := s.setOrder b _) rfl).trans (State.faultsStay_setBayState _ b _)).trans
    (State.faultsStay_of_eq (State.join_faults _ b))

theorem State.faultsStay_createOrder (s : State) (id : Nat) (b : BayNo) (target quota : Nat) :
    s.faultsStay (s.createOrder id b target quota) := by
  unfold State.createOrder
  dsimp only
  split
  · have hbinding := ((s.setOrder b (some (newOrder id target quota))).modBay b fun r =>
      { r with stateTimer := some bindingTime }).faultsStay_setBayState b .binding
    exact ((State.faultsStay_of_eq (s := s) rfl).trans hbinding).trans (State.faultsStay_of_eq (State.join_faults _ b))
  · split
    · exact State.faultsStay_of_eq rfl
    · exact s.faultsStay_firstStep b _
  · exact s.faultsStay_refl

theorem State.faultsStay_alignOrders (s : State) (id remaining : Nat) (list : List Participant) :
    s.faultsStay (s.alignOrders id remaining list) := by
  refine ((State.faultsStay_foldl (fun s e => ?_) list s).trans (State.faultsStay_foldl (fun s b => ?_) allBays _)).trans
    (State.faultsStay_foldl (fun s e => ?_) list _)
  · unfold State.retargetEntry
    split
    · split <;> exact State.faultsStay_of_eq rfl
    · exact s.faultsStay_refl
  · unfold State.dropOutEntry
    split
    · split
      · exact s.faultsStay_endFor b _ _
      · exact s.faultsStay_refl
    · exact s.faultsStay_refl
  · unfold State.createEntry
    split
    · exact s.faultsStay_refl
    · exact s.faultsStay_createOrder id _ _ _

theorem State.faultsStay_applyResplit (s : State) (id remaining : Nat) (a : Allocation) (setGrant : Bool) :
    s.faultsStay (s.applyResplit id remaining a setGrant) :=
  (State.faultsStay_of_eq (t := s.modRequest id (·.resplit remaining a setGrant)) rfl).trans
    (State.faultsStay_alignOrders _ id remaining a.list)

theorem State.faultsStay_resplit (s : State) : s.faultsStay s.resplit := by
  unfold State.resplit
  split
  · split
    · exact s.faultsStay_applyResplit _ _ _ _
    · exact s.faultsStay_refl
    · exact s.faultsStay_refl
  · exact s.faultsStay_refl

theorem State.faultsStay_releaseFor (s : State) (b : BayNo) (cause : EndCause) :
    s.faultsStay (s.releaseFor b cause) := by
  unfold State.releaseFor
  split
  case h_4 => exact State.faultsStay_of_eq ((s.declineBay_frame b cause).faults (by decide))
  case h_1 | h_2 | h_3 => exact (s.faultsStay_abortOrder b cause false).trans (State.faultsStay_release _ b)
  all_goals exact s.faultsStay_refl

theorem State.faultsStay_evaluateGuards (s : State) : s.faultsStay s.evaluateGuards := by
  unfold State.evaluateGuards
  split
  · refine State.faultsStay_foldl (fun s b => ?_) allBays s
    unfold State.evaluateGuard
    split
    · exact s.faultsStay_refl
    · dsimp only
      split
      · split
        · refine State.faultsStay_of_onlyAt (s.guardActs_onlyAt b) ?_
          rw [State.guardActs_faultSet]
          exact s.faultsStay_releaseFor b _ b
        · exact s.faultsStay_refl
      · exact State.faultsStay_of_eq rfl
  · exact s.faultsStay_refl

/-! ### The counts (R146) -/

theorem State.advanceTimers_frame (s : State) :
    s.sameBut s.advanceTimers [.clock, .uptime, .bays, .faults, .orders, .queue, .lines] := by
  intro p hp
  cases p <;> first | rfl | simp at hp

theorem State.line_advanceTimers (s : State) (b : BayNo) :
    s.advanceTimers.line b = (s.line b).second (s.bay b).period := by
  simp [State.line, State.advanceTimers, State.bay]

theorem State.linkedVehicle?_advanceTimers (s : State) (b : BayNo) :
    s.advanceTimers.linkedVehicle? b = s.linkedVehicle? b := by
  rw [State.linkedVehicle?, State.bay_advanceTimers]
  rfl

theorem Request.second_held {r : Request} {countdown : Nat} (h : r.state = .held countdown) :
    r.second = { r with state := .held (countdown - 1) } := by
  simp only [Request.second, h]

theorem Request.second_active {r : Request} {remaining : Nat} {found : List BayNo} (h : r.state = .active remaining found) :
    r.second = { r with state := .active (remaining - 1) found } := by
  simp only [Request.second, h]

theorem Request.second_ending {r : Request} {cause : RequestCause} (h : r.state = .ending cause) : r.second = r := by
  simp only [Request.second, h]

theorem Request.current_second (r : Request) : r.second.current = r.current := by
  unfold Request.second
  split <;> rfl

theorem Request.list_second (r : Request) : r.second.list = r.list := by
  unfold Request.second
  split <;> rfl

/-! ### The newly-eligible test (R76) -/

theorem State.newlyEligible_idle (h : s.active? = none) : s.newlyEligible = s := by
  rw [State.newlyEligible, h]

theorem State.newlyEligible_active {r : Request} {remaining : Nat} {found : List BayNo} (hr : s.active? = some r)
    (hstate : r.state = .active remaining found) : s.newlyEligible
      = if targetSum r.list < r.current ∧ (∃ b, b ∉ found ∧ s.eligible
          ⟨r.id, s.profileAt r.profile, r.current, remaining, max remaining 1, true⟩ b = true) then s.resplit else s := by
  have hany : (allBays.any fun b => !found.contains b
      && s.eligible (resplitTerms r (s.profileAt r.profile) r.current remaining) b) = true
      ↔ ∃ b, b ∉ found ∧ s.eligible ⟨r.id, s.profileAt r.profile, r.current, remaining, max remaining 1, true⟩ b = true := by
    rw [List.any_eq_true]
    simp only [mem_allBays, true_and, Bool.and_eq_true, Bool.not_eq_true', List.contains_eq_mem, decide_eq_false_iff_not,
      resplitTerms]
  simp only [State.newlyEligible, hr, hstate, hany]

/-- Where the ACTIVE request has no shortfall, no test is made (R76). -/
theorem State.secondTest_full (h : ∀ r ∈ s.queue, r.isActive = true → r.current ≤ targetSum r.list) : s.secondTest = s := by
  have htest : s.newlyEligible = s := by
    cases hactive : s.active? with
    | none => exact State.newlyEligible_idle hactive
    | some r =>
      obtain ⟨hr, hisActive⟩ := State.mem_of_active? hactive
      cases hstate : r.state with
      | held _ => simp [Request.isActive, hstate] at hisActive
      | ending _ => simp [Request.isActive, hstate] at hisActive
      | active remaining found =>
        rw [State.newlyEligible_active hactive hstate, if_neg fun hshort => (h r hr hisActive).not_gt hshort.1]
  rw [State.secondTest, htest, ite_self]

theorem State.secondTest_cases (s : State) : s.secondTest = s ∨ s.secondTest = s.resplit := by
  unfold State.secondTest State.newlyEligible
  split
  · exact .inl rfl
  · split
    · split
      · dsimp only
        split
        · exact .inr rfl
        · exact .inl rfl
      · exact .inl rfl
      · exact .inl rfl
    · exact .inl rfl

theorem State.full_advanceTimers (h : ∀ r ∈ s.queue, r.isActive = true → r.current ≤ targetSum r.list) :
    ∀ r ∈ s.advanceTimers.queue, r.isActive = true → r.current ≤ targetSum r.list := by
  intro r hr hactive
  obtain ⟨q, hq, rfl⟩ := List.mem_map.mp (show r ∈ s.queue.map Request.second from hr)
  rw [Request.current_second, Request.list_second]
  exact h q hq (by rwa [Request.isActive_second] at hactive)

theorem State.faultsStay_secondTest (s : State) : s.faultsStay s.secondTest := by
  rcases s.secondTest_cases with h | h
  · rw [h]
    exact s.faultsStay_refl
  · rw [h]
    exact s.faultsStay_resplit

/-- What a second leaves in the place of a request. -/
def Request.secondTaken (q q' : Request) : Prop :=
  match q.state with
  | .held countdown => q' = { q with state := .held (countdown - 1) }
  | .active remaining _ => ∃ eligible, q' = { q with list := q'.list, state := .active (remaining - 1) eligible }
  | .ending _ => q' = q

theorem Request.secondTaken_second (q : Request) : q.secondTaken q.second := by
  unfold Request.secondTaken
  cases hstate : q.state with
  | held countdown => exact (Request.second_held hstate)
  | active remaining found => exact ⟨found, by rw [Request.second_active hstate]⟩
  | ending cause => exact (Request.second_ending hstate)

theorem Request.secondTaken_resplit (q : Request) (s : State) : q.secondTaken (s.resplitOne q.second) := by
  unfold Request.secondTaken
  cases hstate : q.state with
  | held countdown =>
    rw [State.resplitOne_notActive (by rw [Request.isActive_second]; simp [Request.isActive, hstate])]
    exact Request.second_held hstate
  | active remaining found =>
    have hsecond := Request.second_active hstate
    rw [State.resplitOne_active (congrArg Request.state hsecond), hsecond]
    exact ⟨_, rfl⟩
  | ending cause =>
    rw [State.resplitOne_notActive (by rw [Request.isActive_second]; simp [Request.isActive, hstate])]
    exact Request.second_ending hstate

theorem State.queue_secondTest (hsound : s.queueSound) :
    List.Forall₂ Request.secondTaken s.queue s.advanceTimers.secondTest.queue := by
  have hqueue : s.advanceTimers.queue = s.queue.map Request.second := rfl
  have hself : List.Forall₂ (fun q q' : Request => q = q') s.queue s.queue := List.forall₂_same.mpr fun _ _ => rfl
  rcases s.advanceTimers.secondTest_cases with h | h
  · rw [h, hqueue, List.forall₂_map_right_iff]
    refine hself.imp ?_
    rintro q _ rfl
    exact q.secondTaken_second
  · rw [h, State.queue_resplit (State.queueSound_advanceTimers hsound), hqueue, List.map_map,
      List.forall₂_map_right_iff]
    refine hself.imp ?_
    rintro q _ rfl
    exact q.secondTaken_resplit _

theorem State.evaluateGuards_idle (h : s.clockValid = false ∨ ∀ b v, s.linkedVehicle? b = some v → v.departure = none) :
    s.evaluateGuards = s := by
  unfold State.evaluateGuards
  split
  next hvalid =>
    have hnone := h.resolve_left (by simp [hvalid])
    have hfold (l : List BayNo) : l.foldl State.evaluateGuard s = s := by
      induction l with
      | nil => rfl
      | cons b rest ih => rw [List.foldl_cons, State.evaluateGuard_none (hnone b), ih]
    exact hfold allBays
  next => rfl

end

end Sys2Proof.Machine

namespace Sys2Proof.Proofs

open Sys2Proof.Machine

/-- Settles O42: without a shortfall the guards are evaluated on the state that the second has counted. -/
theorem departureGuardActs : Obligations.DepartureGuardActs := by
  unfold Obligations.DepartureGuardActs
  intro s hfull
  refine ⟨_, exec_timebaseSecond s, ?_⟩
  rw [State.secondTest_full (State.full_advanceTimers hfull)]
  exact State.guardsTaken_evaluateGuards _

/-- Settles O41: the test on the counted state, and the guards behind it. -/
theorem newlyEligibleBayResplits : Obligations.NewlyEligibleBayResplits := by
  unfold Obligations.NewlyEligibleBayResplits
  intro s r remaining found
  dsimp only
  intro hsound hplaced hr hstate hlong hshort
  have hsecond := Request.second_active hstate
  have hmem : r.second ∈ s.advanceTimers.queue := List.mem_map_of_mem hr
  have hsound' := State.queueSound_advanceTimers hsound
  have hplaced' := hplaced.advanceTimers
  rw [hsecond] at hmem
  have hactive := State.active?_of_state hsound' hmem rfl
  have hover : s.advanceTimers.windowOver = false := by
    have hleft : remaining - 1 ≠ 0 := by omega
    simp [State.windowOver, hactive, hleft]
  have htest : s.advanceTimers.secondTest = s.advanceTimers.newlyEligible := by
    simp [State.secondTest, hover]
  refine ⟨_, _, exec_timebaseSecond s, State.guardsTaken_evaluateGuards _,
    (State.evaluateGuards_frame _).queue (by decide), (State.secondTest_frame _).mono (by decide), fun hnew => ?_,
    fun hnone => ?_⟩
  · rw [htest, State.newlyEligible_active hactive rfl, if_pos ⟨hshort, hnew⟩]
    exact State.resplit_spec hsound' hplaced' hmem rfl rfl
  · rw [htest, State.newlyEligible_active hactive rfl, if_neg]
    · exact ⟨rfl, State.request?_of_mem hsound' hmem⟩
    · rintro ⟨-, b, hb, heligible⟩
      exact Bool.false_ne_true ((hnone b hb).symm.trans heligible)

/-- Settles O40: the counts themselves, what test and guards leave of them, and the second in which neither acts. -/
theorem secondAdvancesCounts : Obligations.SecondAdvancesCounts := by
  unfold Obligations.SecondAdvancesCounts
  intro s
  have htest := State.secondTest_frame s.advanceTimers
  have hguards := State.evaluateGuards_frame s.advanceTimers.secondTest
  have hstay := (State.faultsStay_secondTest s.advanceTimers).trans (State.faultsStay_evaluateGuards _)
  have hboth := (htest.mono (qs := resplitParts) (by decide)).trans (hguards.mono (by decide))
  refine ⟨_, exec_timebaseSecond s, hboth.uptime (by decide), hboth.clock (by decide), fun b => ?_, ?_, fun hsound => ?_,
    fun b => ?_, fun hfull => ?_, fun hnone hfull => ?_⟩
  · rw [State.line, hboth.lines (by decide)]
    exact s.line_advanceTimers b
  · exact (s.advanceTimers_frame.mono (by decide)).trans (hboth.mono (by decide))
  · rw [hguards.queue (by decide)]
    exact State.queue_secondTest hsound
  · have h := hstay b
    rw [State.faultSet_advanceTimers] at h
    exact h
  · rw [hguards.queue (by decide), State.secondTest_full (State.full_advanceTimers hfull)]
    refine List.map_congr_left fun q _ => ?_
    cases hstate : q.state with
    | held countdown => exact Request.second_held hstate
    | active remaining found => exact Request.second_active hstate
    | ending cause =>
      rw [Request.second_ending hstate]
      cases q
      cases hstate
      rfl
  · rw [State.secondTest_full (State.full_advanceTimers hfull), State.evaluateGuards_idle]
    · refine ⟨fun b => ⟨?_, ?_, ?_⟩, s.advanceTimers_frame⟩
      · rw [State.bay_advanceTimers]
        rfl
      · rw [State.faultSet_advanceTimers]
        rfl
      · rw [State.order_advanceTimers]
        cases s.order b with
        | none => rfl
        | some o => simp [Order.second, countDown, bne, beq_eq_decide]
    · exact hnone.imp (fun hvalid => hvalid) fun hdepart b v hv =>
        hdepart b v (by rwa [State.linkedVehicle?_advanceTimers] at hv)

end Sys2Proof.Proofs
end

section

/-!
SUPPORT. The order step (R96 to R102) and the end of a running order (R28, R101, R105, R110).
-/

namespace Sys2Proof.Machine

section
variable {s t u : State} {b : BayNo} {o o' : Order}

/-! ### The end of a running order (R28, R110) -/

/-- Where the bay goes when its order is gone (R28). -/
def State.goesOn (s t : State) (b : BayNo) (o : Order) : Prop :=
  ((s.bay b).link = none ∨ s.releaseOnEnd o.request = true ∨ o.releaseAtEnd = true → s.bayReleased t b)
  ∧ (¬((s.bay b).link = none ∨ s.releaseOnEnd o.request = true ∨ o.releaseAtEnd = true) →
    ((o.endCause = some .isolationDue ∨ (s.bay b).checkDue = true) →
      t.bay b = { s.bay b with state := .checking, candidate := none, checkDue := false, stateTimer := some 15 })
    ∧ (¬(o.endCause = some .isolationDue ∨ (s.bay b).checkDue = true) →
      t.bay b = { s.bay b with state := .bound, candidate := none }))
  ∧ (t.faultSet b).tracking = 0
  ∧ t.changeSet = s.changeSet ||| BitVec.twoPow 16 b.val
  ∧ t.fleet = { s.fleet with flags := s.fleet.flags ||| 0x01#8 }

theorem State.goesOn_afterOrderEnd (h : (s.bay b).state = .transfer) (o : Order) :
    s.goesOn (s.afterOrderEnd b o) b o := by
  have hreleasing : (s.bay b).state ≠ .releasing := by simp [h]
  have hchecking : (s.bay b).state ≠ .checking := by simp [h]
  have hbound : (s.bay b).state ≠ .bound := by simp [h]
  unfold State.afterOrderEnd
  split
  next hreleased =>
    have hbay := State.bayReleased_release s b hreleasing
    refine ⟨fun _ => hbay, fun hnot => absurd hreleased hnot, ?_, hbay.2.2.2, s.fleet_release b hreleasing⟩
    simp [State.faultSet_release, h]
  next hnot =>
    split
    next hcheck =>
      refine ⟨fun hreleased => absurd hreleased hnot, fun _ => ⟨fun _ => s.bay_startCheck b hchecking,
        fun hstays => absurd hcheck hstays⟩, ?_, s.changeSet_startCheck b hchecking, s.fleet_startCheck b hchecking⟩
      simp [State.faultSet_startCheck, h]
    next hstays =>
      refine ⟨fun hreleased => absurd hreleased hnot, fun _ => ⟨fun hcheck => absurd hcheck hstays, fun _ => ?_⟩, ?_,
        s.changeSet_setBayState b .bound hbound, s.fleet_setBayState b .bound hbound⟩
      · rw [State.bay_setBayState, if_neg hbound]
        rfl
      · simp [State.faultSet_setBayState, h]

theorem State.mem_afterOrderEnd (h : b ∈ s.pollQueue) (o : Order) : b ∈ (s.afterOrderEnd b o).pollQueue := by
  unfold State.afterOrderEnd
  split
  · exact State.mem_startRelease _ b
  · split
    · exact s.mem_startCheck b
    · simpa using h

theorem State.notices_afterOrderEnd (s : State) (b : BayNo) (o : Order) :
    (s.afterOrderEnd b o).notices = s.notices := (s.afterOrderEnd_frame b o).notices (by decide)

/-- Only the bay, the queue's release-on-end flag, change set and flags say where the bay goes on from. -/
theorem State.goesOn.congr {s' : State} (h : s'.goesOn t b o) {parts : List Part} (hframe : s.sameBut s' parts)
    (hparts : .bays ∉ parts ∧ .queue ∉ parts ∧ .changeSet ∉ parts ∧ .fleet ∉ parts ∧ .fleetFlags ∉ parts) :
    s.goesOn t b o := by
  obtain ⟨hbays, hqueue, hchange, hfleet, hflags⟩ := hparts
  simpa only [State.goesOn, State.bayReleased, hframe.bayAt hbays, hframe.releaseOnEnd hqueue, hframe.changeSet hchange,
    hframe.fleet ⟨hflags, hfleet⟩] using h

/-- What has left the slot of a running order that ends. -/
def State.slotEmptied (s : State) (b : BayNo) (o : Order) : State := (s.dropOrder b o.endCause false).join b

theorem State.finishOrder_eq (s : State) (b : BayNo) (o : Order) :
    s.finishOrder b o = (s.slotEmptied b o).afterOrderEnd b o := rfl

theorem State.slotEmptied_frame (s : State) (b : BayNo) (o : Order) :
    s.sameBut (s.slotEmptied b o) [.orders, .notices, .pollQueue] :=
  ((s.dropOrder_frame b _ _).mono (by decide)).trans ((State.join_frame _ b).mono (by decide))

theorem State.finishOrder_sameBut (s : State) (b : BayNo) (o : Order) :
    s.sameBut (s.finishOrder b o) [.bays, .faults, .orders, .notices, .pollQueue, .fleetFlags, .changeSet] :=
  (s.finishOrder_frame b o).mono (by decide)

/-- A running order that ends leaves what R110 says; its slot may hold it in any phase. -/
theorem State.orderEnded_finishOrder (hstate : (s.bay b).state = .transfer) (ho : s.order b = some o')
    (hrequest : o'.request = o.request) (hdelivered : o'.delivered = o.delivered) :
    s.orderEnded (s.finishOrder b o) b o := by
  have hframe := s.slotEmptied_frame b o
  have hgone : (s.slotEmptied b o).order b = none := by simp [State.slotEmptied]
  have hnotices : (s.slotEmptied b o).notices = s.notices ++ [.orderEnd o.request b o.endCause o.delivered false] := by
    rw [State.slotEmptied, State.join_notices, State.notices_dropOrder _ _ _ _ _ ho, hrequest, hdelivered]
  have hwaits : b ∈ (s.slotEmptied b o).pollQueue := State.mem_join _ b
  have hgoes := (State.goesOn_afterOrderEnd (s := s.slotEmptied b o) (by rw [hframe.bayAt (by decide), hstate]) o).congr
    hframe (by decide)
  have horder : (s.finishOrder b o).order b = none := s.order_finishOrder b o
  have hother := s.finishOrder_other b o
  have hsame := s.finishOrder_sameBut b o
  rw [State.finishOrder_eq] at *
  obtain ⟨hreleased, hstays, htracking, hchange, hfleet⟩ := hgoes
  exact ⟨horder, State.setPoint_of_none horder, (State.notices_afterOrderEnd _ b o).trans hnotices,
    State.mem_afterOrderEnd hwaits o, hreleased, hstays, htracking, hchange, hfleet, hother, hsame⟩

/-! ### The step as its plan says it (R96 to R102) -/

theorem exec_orderStep_due (ho : s.order b = some o) (hstate : (s.bay b).state = .transfer) (hdue : o.stepDue = true) :
    exec (.orderStep b) s = .next (s.stepOrder b o) := by
  have hexec : exec (.orderStep b) s = match s.order b with
    | some o => if (s.bay b).state = .transfer ∧ o.stepDue = true then .next (s.stepOrder b o) else .next s
    | none => .next s := rfl
  rw [hexec, ho]
  exact if_pos ⟨hstate, hdue⟩

theorem exec_orderStep_idle (ho : s.order b = some o) (hdue : o.stepDue = false) :
    exec (.orderStep b) s = .next s := by
  have hexec : exec (.orderStep b) s = match s.order b with
    | some o => if (s.bay b).state = .transfer ∧ o.stepDue = true then .next (s.stepOrder b o) else .next s
    | none => .next s := rfl
  rw [hexec, ho]
  exact if_neg (by simp [hdue])

theorem exec_cutTimerExpiry (ho : s.order b = some o) : exec (.cutTimerExpiry b) s
    = if (s.bay b).state = .transfer ∧ o.cutTimer = some 0 then .next (s.finishOrder b o) else .next s := by
  have hexec : exec (.cutTimerExpiry b) s = match s.order b with
    | some o => if (s.bay b).state = .transfer ∧ o.cutTimer = some 0 then .next (s.finishOrder b o) else .next s
    | none => .next s := rfl
  rw [hexec, ho]

theorem State.stepOrder_stop {cause : Option EndCause} (h : o.plan (s.profileOf o.request) = .stop cause) :
    s.stepOrder b o = s.finishOrder b { o with phase := .decline, endCause := cause, stepDue := false } := by
  simp only [State.stepOrder, h]

theorem State.stepOrder_issue {level : Nat} {phase : Phase} {cause : Option EndCause}
    (h : o.plan (s.profileOf o.request) = .issue level phase cause) : s.stepOrder b o
      = s.issueStep b (o.issued (s.limitSetPoint b o level) phase cause) (s.profileOf o.request).ps := by
  simp only [State.stepOrder, h]

theorem State.issueStep_stays {ps : Nat} (h : ¬(o.phase = .decline ∧ o.level = ps)) :
    s.issueStep b o ps = s.putOrder b o := if_neg h

theorem State.issueStep_ends {ps : Nat} (hphase : o.phase = .decline) (hlevel : o.level = ps) :
    s.issueStep b o ps = (s.putOrder b o).finishOrder b o := if_pos ⟨hphase, hlevel⟩

theorem State.order_putOrder (s : State) (b : BayNo) (o : Order) : (s.putOrder b o).order b = some o := by
  simp [State.putOrder]

theorem State.mem_putOrder (s : State) (b : BayNo) (o : Order) : b ∈ (s.putOrder b o).pollQueue := State.mem_join _ b

/-- The step counted, the order ends in its event (R101). -/
theorem State.orderEnded_putOrder (hstate : (s.bay b).state = .transfer) (o : Order) :
    s.orderEnded ((s.putOrder b o).finishOrder b o) b o := by
  have hframe := s.putOrder_frame b o
  have hput := s.putOrder_other b o
  obtain ⟨horder, hpoint, hnotices, hwaits, hreleased, hstays, htracking, hchange, hfleet, hother, hsame⟩ :=
    State.orderEnded_finishOrder (s := s.putOrder b o) (o := o) (by rw [hframe.bayAt (by decide), hstate])
      (s.order_putOrder b o) rfl rfl
  have hgoes : (s.putOrder b o).goesOn ((s.putOrder b o).finishOrder b o) b o :=
    ⟨hreleased, hstays, htracking, hchange, hfleet⟩
  obtain ⟨hreleased', hstays', htracking', hchange', hfleet'⟩ := hgoes.congr hframe (by decide)
  rw [hframe.notices (by decide)] at hnotices
  exact ⟨horder, hpoint, hnotices, hwaits, hreleased', hstays', htracking', hchange', hfleet', hput.trans hother,
    (hframe.mono (by decide)).trans hsame⟩

/-! ### The limits of a set-point (R102) -/

theorem State.limitSetPoint_eq (s : State) (b : BayNo) (o : Order) (level : Nat) : s.limitSetPoint b o level
    = min level (min (s.bay b).capEff (min (o.quota - o.delivered) (s.site.limit
      - ((allBays.filter (· ≠ b)).map s.setPoint).sum))) := by
  have hfilter : allBays.filter (· != b) = allBays.filter (· ≠ b) :=
    List.filter_congr fun c _ => by simp [bne, beq_eq_decide]
  rw [State.limitSetPoint, State.headroom, hfilter]
  rfl

/-- A step that issues a level and does not end its order. -/
theorem exec_orderStep_issues {level : Nat} {phase : Phase} (ho : s.order b = some o)
    (hstate : (s.bay b).state = .transfer) (hdue : o.stepDue = true)
    (hplan : o.plan (s.profileOf o.request) = .issue level phase o.endCause)
    (hstays : ¬(phase = .decline ∧ s.limitSetPoint b o level = (s.profileOf o.request).ps)) :
    ∃ t, exec (.orderStep b) s = .next t ∧ t.order b = some { o with
        delivered := o.delivered + s.limitSetPoint b o level, level := s.limitSetPoint b o level, phase := phase
        stepDue := false }
      ∧ b ∈ t.pollQueue ∧ s.otherBays t b ∧ s.sameBut t [.orders, .pollQueue] := by
  refine ⟨_, exec_orderStep_due ho hstate hdue, ?_⟩
  rw [State.stepOrder_issue hplan, State.issueStep_stays hstays]
  exact ⟨State.order_putOrder _ _ _, State.mem_putOrder _ _ _, State.putOrder_other _ _ _, State.putOrder_frame _ _ _⟩

/-! ### A step taken as that of another order -/

/-- An order with another phase and end cause. -/
def Order.recast (o : Order) (phase : Phase) (cause : Option EndCause) : Order :=
  { o with phase := phase, endCause := cause }

theorem State.setOrder_twice (s : State) (b : BayNo) (x y : Option Order) :
    (s.setOrder b x).setOrder b y = s.setOrder b y := by
  simp [State.setOrder]

theorem State.dropOrder_recast (ho : s.order b = some o) (phase : Phase) (cause k : Option EndCause) (m : Bool) :
    (s.setOrder b (some (o.recast phase cause))).dropOrder b k m = s.dropOrder b k m := by
  simp only [State.dropOrder, State.order_setOrder, ho, State.setOrder_twice]
  rfl

theorem State.setPoint_setOrder_ne (s : State) {b c : BayNo} (hc : c ≠ b) (x : Option Order) :
    (s.setOrder b x).setPoint c = s.setPoint c := by
  rw [State.setPoint, State.setPoint, State.bay_setOrder, State.order_setOrder_ne _ _ hc]

theorem State.limitSetPoint_recast (s : State) (b : BayNo) (o : Order) (phase : Phase) (cause : Option EndCause)
    (x : Option Order) (level : Nat) :
    (s.setOrder b x).limitSetPoint b (o.recast phase cause) level = s.limitSetPoint b o level := by
  have hothers : (allBays.filter (· ≠ b)).map (s.setOrder b x).setPoint = (allBays.filter (· ≠ b)).map s.setPoint :=
    List.map_congr_left fun c hc => s.setPoint_setOrder_ne (by simpa using (List.mem_filter.mp hc).2) x
  rw [State.limitSetPoint_eq, State.limitSetPoint_eq, hothers, State.bay_setOrder, State.setOrder_site]
  rfl

theorem State.putOrder_setOrder (s : State) (b : BayNo) (x : Option Order) (o : Order) :
    (s.setOrder b x).putOrder b o = s.putOrder b o := by
  rw [State.putOrder, State.putOrder, State.setOrder_twice]

/-- A step with the same plan is the same step. -/
theorem exec_orderStep_recast {phase : Phase} {cause : Option EndCause} (ho : s.order b = some o)
    (hstate : (s.bay b).state = .transfer) (hdue : o.stepDue = true)
    (hplan : (o.recast phase cause).plan (s.profileOf o.request) = o.plan (s.profileOf o.request)) :
    exec (.orderStep b) s = exec (.orderStep b) (s.setOrder b (some (o.recast phase cause))) := by
  rw [exec_orderStep_due ho hstate hdue, exec_orderStep_due (o := o.recast phase cause)
    (State.order_setOrder ..) (by rwa [State.bay_setOrder]) hdue]
  congr 1
  have hprofile : (s.setOrder b (some (o.recast phase cause))).profileOf (o.recast phase cause).request
      = s.profileOf o.request := rfl
  cases hchosen : o.plan (s.profileOf o.request) with
  | stop ending =>
    rw [State.stepOrder_stop hchosen, State.stepOrder_stop (by rw [hprofile, hplan, hchosen]), State.finishOrder_eq,
      State.finishOrder_eq, State.slotEmptied, State.slotEmptied, State.dropOrder_recast ho]
    rfl
  | issue level phase' cause' =>
    rw [State.stepOrder_issue hchosen, State.stepOrder_issue (by rw [hprofile, hplan, hchosen]),
      State.limitSetPoint_recast, hprofile, State.issueStep, State.issueStep, State.putOrder_setOrder]
    rfl

/-! ### Plans (R98 to R101) -/

theorem hold_or_ne_decline {reached : Prop} [Decidable reached] {phase : Phase} (h : phase ≠ .decline) :
    (if reached then .hold else phase) ≠ Phase.decline := by
  split
  · simp
  · exact h

section
variable {p : Profile}

theorem Order.plan_of_rise (h : o.phase = .rise) : o.plan p = o.planRise p := by simp only [Order.plan, h]
theorem Order.plan_of_hold (h : o.phase = .hold) : o.plan p = o.planHold p := by simp only [Order.plan, h]
theorem Order.plan_of_lower (h : o.phase = .lower) : o.plan p = o.planLower p := by simp only [Order.plan, h]
theorem Order.plan_of_decline (h : o.phase = .decline) : o.plan p = o.planDecline p o.endCause := by
  simp only [Order.plan, h]

theorem Order.planRise_up (h : o.climb p + p.declineEnergy (o.climb p) ≤ o.remaining) :
    o.planRise p = .issue (o.climb p) (if o.climb p = o.target then .hold else .rise) o.endCause := if_pos h

theorem Order.planRise_hold (hup : ¬(o.climb p + p.declineEnergy (o.climb p) ≤ o.remaining))
    (h : p.ps ≤ o.level ∧ o.level + p.declineEnergy o.level ≤ o.remaining) :
    o.planRise p = .issue o.level .hold o.endCause := by
  rw [Order.planRise, if_neg hup, if_pos h]

theorem Order.planRise_quota (hup : ¬(o.climb p + p.declineEnergy (o.climb p) ≤ o.remaining))
    (h : ¬(p.ps ≤ o.level ∧ o.level + p.declineEnergy o.level ≤ o.remaining)) :
    o.planRise p = o.planDecline p (some .quota) := by
  rw [Order.planRise, if_neg hup, if_neg h]

end

end

end Sys2Proof.Machine

namespace Sys2Proof.Proofs

open Sys2Proof.Machine

/-- Settles O47: the plan of each phase, and what a step that issues, ends or is taken as another's does. -/
theorem orderStepsByPhase : Obligations.OrderStepsByPhase := by
  unfold Obligations.OrderStepsByPhase
  intro b o s ho hstate
  dsimp only
  simp only [← State.limitSetPoint_eq]
  have hissues {level : Nat} {phase : Phase} (hdue : o.stepDue = true)
      (hplan : o.plan (s.profileOf o.request) = .issue level phase o.endCause) (hphase : phase ≠ .decline) :=
    exec_orderStep_issues ho hstate hdue hplan fun hends => hphase hends.1
  have hrecast {phase : Phase} {cause : Option EndCause} (hdue : o.stepDue = true)
      (hplan : (o.recast phase cause).plan (s.profileOf o.request) = o.plan (s.profileOf o.request)) :=
    exec_orderStep_recast ho hstate hdue hplan
  refine ⟨exec_orderStep_idle ho, fun hdue => ⟨fun hphase => ⟨fun hup => ?_, fun hup hfloor hkeeps => ?_, fun hup hfails => ?_⟩,
    fun hphase => ⟨fun hlow => ?_, fun hfloor hkeeps => ?_, fun hfloor hfails => ?_⟩,
    fun hphase => ⟨fun habove => ?_, fun hbelow => ?_⟩,
    fun hphase => ⟨fun hfloor => ?_, fun habove hlimited => ?_, fun habove hlimited => ?_⟩⟩, fun hcut => ?_, fun hcut => ?_⟩
  · refine hissues hdue ((Order.plan_of_rise hphase).trans (Order.planRise_up hup)) ?_
    exact hold_or_ne_decline (by simp)
  · exact hissues hdue ((Order.plan_of_rise hphase).trans (Order.planRise_hold hup ⟨hfloor, hkeeps⟩)) (by simp)
  · refine hrecast (phase := .decline) (cause := some .quota) hdue ?_
    rw [Order.plan_of_rise hphase, Order.planRise_quota hup hfails]
    rfl
  · refine hrecast (phase := .rise) (cause := o.endCause) hdue ?_
    rw [Order.plan_of_hold hphase, Order.planHold, if_pos hlow]
    rfl
  · refine hissues hdue ((Order.plan_of_hold hphase).trans ?_) (by simp)
    rw [Order.planHold, if_neg hfloor.not_gt]
    exact if_pos hkeeps
  · refine hrecast (phase := .decline) (cause := some .quota) hdue ?_
    rw [Order.plan_of_hold hphase, Order.planHold, if_neg hfloor.not_gt]
    exact (if_neg hfails).symm
  · refine hissues hdue ((Order.plan_of_lower hphase).trans (if_pos habove)) ?_
    exact hold_or_ne_decline (by simp)
  · refine hrecast (phase := .hold) (cause := o.endCause) hdue ?_
    rw [Order.plan_of_lower hphase]
    exact (if_neg hbelow.not_gt).symm
  · have hplan : o.plan (s.profileOf o.request) = .stop o.endCause := (Order.plan_of_decline hphase).trans (if_pos hfloor)
    refine ⟨_, exec_orderStep_due ho hstate hdue, ?_⟩
    rw [State.stepOrder_stop hplan]
    exact State.orderEnded_finishOrder hstate ho rfl rfl
  · have hplan : o.plan (s.profileOf o.request) = .issue _ .decline o.endCause :=
      (Order.plan_of_decline hphase).trans (if_neg habove.not_ge)
    exact exec_orderStep_issues ho hstate hdue hplan fun hends => hlimited hends.2
  · have hplan : o.plan (s.profileOf o.request) = .issue _ .decline o.endCause :=
      (Order.plan_of_decline hphase).trans (if_neg habove.not_ge)
    refine ⟨_, exec_orderStep_due ho hstate hdue, ?_⟩
    rw [State.stepOrder_issue hplan, State.issueStep_ends rfl hlimited]
    exact State.orderEnded_putOrder hstate _
  · exact ⟨_, (exec_cutTimerExpiry ho).trans (if_pos ⟨hstate, hcut⟩), State.orderEnded_finishOrder hstate ho rfl rfl⟩
  · exact (exec_cutTimerExpiry ho).trans (if_neg fun hdue => hcut hdue.2)

end Sys2Proof.Proofs
end

section

/-!
SUPPORT. SET SITE (R155, R156): the ranges, the caps of every bay, and the cut from the highest bay down (R109).
-/

namespace Sys2Proof.Machine

/-! ### The ranges (R155) -/

section
variable {limit eta guard hold : BitVec 16} {tcz tcf thf thz tmax : Byte} {s : State}

theorem exec_setSite (limit eta guard hold : BitVec 16) (tcz tcf thf thz tmax : Byte) (s : State) :
    exec (.setSite limit eta guard hold tcz tcf thf thz tmax) s
      = carryOut .fleet (.setSite limit eta guard hold tcz tcf thf thz tmax)
        (setSite (siteOfFields limit eta guard hold tcz tcf thf thz tmax)) s := rfl

theorem siteOfFields_valid_iff : (siteOfFields limit eta guard hold tcz tcf thf thz tmax).valid = true ↔
    (1 ≤ limit.toNat ∧ limit.toNat ≤ 19200) ∧ (700 ≤ eta.toNat ∧ eta.toNat ≤ 1000)
    ∧ (300 ≤ guard.toNat ∧ guard.toNat ≤ 3600) ∧ (30 ≤ hold.toNat ∧ hold.toNat ≤ 600)
    ∧ tmax.toNat ≤ 250 ∧ tcz.toNat < tcf.toNat ∧ tcf.toNat ≤ thf.toNat ∧ thf.toNat < thz.toNat
    ∧ thz.toNat ≤ tmax.toNat := by
  unfold Site.valid siteOfFields tempOfByte
  simp only [Bool.and_eq_true, decide_eq_true_iff, List.all_cons, List.all_nil, and_true]
  omega

theorem tempCode_tempOfByte (x : Byte) : tempCode (tempOfByte x) = x.toNat := by
  simp [tempCode, tempOfByte]

theorem siteData_siteOfFields : siteData (siteOfFields limit eta guard hold tcz tcf thf thz tmax)
    = le2 limit.toNat ++ le2 eta.toNat ++ le2 guard.toNat ++ le2 hold.toNat ++ [tcz, tcf, thf, thz, tmax] := by
  simp only [siteData, siteOfFields, tempCode_tempOfByte, le1_eq_singleton (x := tcz) rfl,
    le1_eq_singleton (x := tcf) rfl, le1_eq_singleton (x := thf) rfl, le1_eq_singleton (x := thz) rfl,
    le1_eq_singleton (x := tmax) rfl, List.append_assoc]
  rfl

end

/-! ### The caps of every bay (R42) -/

section
variable {s : State} {x : Site} {b : BayNo}

theorem State.recomputeCaps_onlyAt (s : State) (b : BayNo) : s.onlyAt (s.recomputeCaps b) b := s.modBay_onlyAt b fun _ => _

/-- The part with new site settings, before anything is formed from them. -/
def State.withSite (s : State) (x : Site) : State := { s with site := x, siteValid := true }

/-- The part with new site settings and the caps they give. -/
def State.recapped (s : State) (x : Site) : State := allBays.foldl State.recomputeCaps (s.withSite x)

theorem State.writeSite_eq (s : State) (x : Site) : s.writeSite x = (s.recapped x).siteLimitCut.hand (.change .site) := rfl

theorem State.withSite_frame (s : State) (x : Site) : s.sameBut (s.withSite x) [.site, .siteValid] := by
  intro p hp
  cases p <;> first | rfl | simp at hp

theorem State.recapped_frame (s : State) (x : Site) : (s.withSite x).sameBut (s.recapped x) [.bays] :=
  State.sameBut_foldl _ State.recomputeCaps_frame allBays _

theorem State.bay_recapped (s : State) (x : Site) (b : BayNo) : (s.recapped x).bay b = { s.bay b with
    tempCap := derate x (s.bay b).ratedCap (s.bay b).tele.temp
    capEff := match s.linkedVehicle? b with
      | some v => min (s.bay b).ratedCap (min v.pDis (derate x (s.bay b).ratedCap (s.bay b).tele.temp))
      | none => 0 } := by
  obtain ⟨front, back, -, hfront, hturn⟩ := view_foldl_allBays State.recomputeCaps_onlyAt (s.withSite x) b
  have hframe : (s.withSite x).sameBut (front.foldl State.recomputeCaps (s.withSite x)) [.bays] :=
    State.sameBut_foldl _ State.recomputeCaps_frame front _
  generalize front.foldl State.recomputeCaps (s.withSite x) = m at *
  have hbay : m.bay b = s.bay b := State.bay_of_view hfront
  have htemp (cap : Nat) : m.tempCapOf b cap = derate x cap (s.bay b).tele.temp := by
    rw [State.tempCapOf, hbay, hframe.site (by decide), hframe.siteValid (by decide)]
    rfl
  have hroster (n : Nat) : m.vehicle? n = s.vehicle? n := by
    rw [State.vehicle?, State.vehicle?, hframe.roster (by decide)]
    rfl
  have hlinked : m.linkedVehicle? b = s.linkedVehicle? b := by
    rw [State.linkedVehicle?, State.linkedVehicle?, hbay, funext hroster]
  have hview : (s.recapped x).bay b = (m.recomputeCaps b).bay b := State.bay_of_view hturn
  rw [hview, State.bay_recomputeCaps, hbay, htemp, State.effCapOf, hlinked, htemp] <;> rfl

theorem State.order_recapped (s : State) (x : Site) (b : BayNo) : (s.recapped x).order b = s.order b :=
  (s.recapped_frame x).orderAt (by decide) b

theorem State.setPoint_recapped (s : State) (x : Site) (b : BayNo) : (s.recapped x).setPoint b = s.setPoint b :=
  State.setPoint_congr (by rw [State.bay_recapped]) (s.order_recapped x b)

/-! ### The cut (R109) -/

/-- The bays whose turn comes before a bay's in the cut are those above it. -/
theorem perm_above {front back : List BayNo} (h : allBays.reverse = front ++ b :: back) :
    front.Perm (allBays.filter (b < ·)) := by
  have hdescending : allBays.reverse.Pairwise (· > ·) := by decide
  rw [h] at hdescending
  obtain ⟨-, hback, hfront⟩ := List.pairwise_append.mp hdescending
  have hfilter : allBays.reverse.filter (b < ·) = front := by
    rw [h, List.filter_append, List.filter_eq_self.mpr fun c hc => by simpa using hfront c hc b List.mem_cons_self,
      List.filter_eq_nil_iff.mpr, List.append_nil]
    intro c hc
    rcases List.mem_cons.mp hc with rfl | hc
    · simp
    · simpa using ((List.pairwise_cons.mp hback).1 c hc).le
  rw [← hfilter]
  exact (List.reverse_perm allBays).filter _

/-- What the cut takes from a bay. -/
theorem State.siteLimitCut_spec (s : State) (b : BayNo) :
    let cut := min (s.setPoint b) (s.totalSetPoint - s.site.limit - ((allBays.filter (b < ·)).map s.setPoint).sum)
    s.siteLimitCut.bay b = s.bay b
    ∧ s.siteLimitCut.order b = (s.order b).map (fun o =>
        { o with level := if (s.bay b).state = .transfer then o.level - cut else o.level })
    ∧ s.siteLimitCut.setPoint b = s.setPoint b - cut
    ∧ (0 < cut → b ∈ s.siteLimitCut.pollQueue) := by
  obtain ⟨-, hbay, -, -, hcut⟩ := foldl_cutBay_spec (List.nodup_reverse.mpr allBays_nodup) s
    (s.totalSetPoint - s.site.limit)
  obtain ⟨front, back, hsplit⟩ := List.append_of_mem (List.mem_reverse.mpr (mem_allBays b))
  obtain ⟨horder, hwaits⟩ := hcut front b back hsplit
  have hsum : (front.map s.setPoint).sum = ((allBays.filter (b < ·)).map s.setPoint).sum :=
    ((perm_above hsplit).map s.setPoint).sum_eq
  rw [hsum] at horder hwaits
  replace hbay := hbay b
  rw [State.siteLimitCut]
  generalize (allBays.reverse.foldl cutBay (s, s.totalSetPoint - s.site.limit)).1 = t at *
  refine ⟨hbay, horder, ?_, hwaits⟩
  by_cases htransfer : (s.bay b).state = .transfer
  · cases ho : s.order b with
    | none => rw [State.setPoint_of_none (by rw [horder, ho]; rfl), State.setPoint_of_none ho, Nat.zero_sub]
    | some o =>
      rw [ho, Option.map_some, if_pos htransfer] at horder
      rw [State.setPoint_of_transfer (by rw [hbay, htransfer]) horder, State.setPoint_of_transfer htransfer ho]
  · rw [State.setPoint_of_ne_transfer (by rwa [hbay]), State.setPoint_of_ne_transfer htransfer, Nat.zero_sub]

end

end Sys2Proof.Machine

namespace Sys2Proof.Proofs

open Sys2Proof.Machine

/-- Settles O25: the ranges, then the caps of every bay and the cut on the state they leave. -/
theorem setSiteRecapsAndCuts : Obligations.SetSiteRecapsAndCuts := by
  unfold Obligations.SetSiteRecapsAndCuts
  intro limit eta guard hold tcz tcf thf thz tmax s
  dsimp only
  intro h
  rw [exec_setSite, ← siteOfFields_valid_iff]
  refine ⟨fun hbad => carryOut_error h (r := .range) (if_neg hbad), fun hok => ?_⟩
  have hrun : setSite (siteOfFields limit eta guard hold tcz tcf thf thz tmax) s
    = .ok (s.writeSite (siteOfFields limit eta guard hold tcz tcf thf thz tmax),
      siteData (siteOfFields limit eta guard hold tcz tcf thf thz tmax)) := if_pos hok
  have hsite : siteOfFields limit eta guard hold tcz tcf thf thz tmax = ⟨limit.toNat, eta.toNat, guard.toNat,
    hold.toNat, (tcz.toNat : Int) - 80, (tcf.toNat : Int) - 80, (thf.toNat : Int) - 80, (thz.toNat : Int) - 80,
    (tmax.toNat : Int) - 80⟩ := rfl
  rw [siteData_siteOfFields] at hrun
  have hexec := carryOut_ok h hrun
  generalize siteOfFields limit eta guard hold tcz tcf thf thz tmax = x at *
  have hlimit : x.limit = limit.toNat := congrArg Site.limit hsite
  have hframe := s.withSite_frame x
  have hcaps := s.recapped_frame x
  have hcut := (s.recapped x).siteLimitCut_frame
  have hbays := s.bay_recapped x
  have horders := s.order_recapped x
  have hpoints : (s.recapped x).setPoint = s.setPoint := funext (s.setPoint_recapped x)
  have hsiteR : (s.recapped x).site = x := hcaps.site (by decide)
  have hvalidR : (s.recapped x).siteValid = true := hcaps.siteValid (by decide)
  have hspec := (s.recapped x).siteLimitCut_spec
  have htotal := (s.recapped x).totalSetPoint_siteLimitCut
  rw [State.writeSite_eq] at hexec
  generalize s.recapped x = w at *
  have hsum : w.totalSetPoint = s.totalSetPoint := by rw [State.totalSetPoint, State.totalSetPoint, hpoints]
  rw [hsum, hsiteR, hlimit] at htotal
  generalize w.siteLimitCut = u at *
  have hsiteU : u.site = x := (hcut.site (by decide)).trans hsiteR
  refine ⟨u.hand (.change .site), hexec.trans ?_, hsiteU.trans hsite, (hcut.siteValid (by decide)).trans hvalidR, ?_, ?_, htotal,
    fun b => ?_⟩
  · simp only [List.append_assoc, List.cons_append, List.nil_append]
  · exact (((hframe.mono (by decide)).trans (hcaps.mono (by decide))).trans (hcut.mono (by decide))).trans
      ((u.hand_frame _).mono (by decide))
  · rw [State.hand_notices, hcut.notices (by decide), hcaps.notices (by decide), hframe.notices (by decide)]
  · obtain ⟨hbay, horder, hpoint, hwaits⟩ := hspec b
    rw [hpoints, hsum, hsiteR, hlimit] at horder hpoint hwaits
    rw [State.hand_site, hsiteU]
    refine ⟨?_, hpoint, ?_, hwaits⟩
    · rw [State.bay_hand, hbay, hbays] <;> rfl
    · rw [State.order_hand, horder, horders, hbays]

end Sys2Proof.Proofs
end

section

/-!
SUPPORT. What the unlinking of a vehicle leaves at its bay, what the search for a waiting bay links, and with them the
roster commands WITHDRAW VEHICLE and ENROLL VEHICLE (O29, O30, O32).
-/

namespace Sys2Proof.Machine

/-! ### A release cause at a bay that is already marked (R18, R29) -/

section
variable {s t : State} {b : BayNo} {n : Nat}

/-- A release cause keeps what a bay holds of its vehicle. -/
theorem State.bay_releaseFor_kept (s : State) (b : BayNo) (cause : EndCause) :
    let r := (s.releaseFor b cause).bay b
    r.link = (s.bay b).link ∧ r.capEff = (s.bay b).capEff ∧ r.guardArmed = (s.bay b).guardArmed
      ∧ r.tele = (s.bay b).tele ∧ r.ratedCap = (s.bay b).ratedCap := by
  unfold State.releaseFor
  split
  case h_1 hstate | h_2 hstate | h_3 hstate =>
    obtain ⟨hbay, -⟩ := State.bayReleased_abort (s := s) (b := b) (by simp [hstate]) cause false
    rw [hbay]
    exact ⟨rfl, rfl, rfl, rfl, rfl⟩
  case h_4 => simp [(s.declineBay_frame b cause).bayAt]
  all_goals exact ⟨rfl, rfl, rfl, rfl, rfl⟩

/-- A release cause marks nothing anew at a bay that is marked. -/
theorem State.marked_releaseFor (hflag : s.fleet.flags ||| fleetBit .bayChange = s.fleet.flags)
    (hmark : s.changeSet ||| BitVec.twoPow 16 b.val = s.changeSet) (cause : EndCause) :
    (s.releaseFor b cause).fleet.flags = s.fleet.flags ∧ (s.releaseFor b cause).changeSet = s.changeSet := by
  unfold State.releaseFor
  split
  case h_1 hstate | h_2 hstate | h_3 hstate =>
    obtain ⟨-, -, -, hreleased⟩ := State.bayReleased_abort (s := s) (b := b) (by simp [hstate]) cause false
    rw [State.fleet_release _ _ (by simp [hstate]), hreleased, State.abortOrder_fleet]
    exact ⟨hflag, hmark⟩
  case h_4 =>
    rw [(s.declineBay_frame b cause).fleet (by decide), (s.declineBay_frame b cause).changeSet (by decide)]
    exact ⟨rfl, rfl⟩
  all_goals exact ⟨rfl, rfl⟩

/-! ### A vehicle unlinked (R12) -/

theorem State.unlinkBay_other (s : State) (b : BayNo) : s.otherBays (s.unlinkBay b) b :=
  (s.clearLink_other b).trans (State.releaseFor_other _ b _)

/-- What stands at a bay whose link was cleared. -/
theorem State.marked_unlinkBay (h : (s.bay b).link = some n) :
    (s.unlinkBay b).fleet.flags = s.fleet.flags ||| 0x01#8
    ∧ (s.unlinkBay b).changeSet = s.changeSet ||| BitVec.twoPow 16 b.val := by
  have hfleet := State.fleet_clearLink h
  have hmark := State.changeSet_clearLink h
  obtain ⟨hflags, hchange⟩ := State.marked_releaseFor (s := s.clearLink b) (b := b)
    (by rw [hfleet]; exact or_bayChange_twice _) (by rw [hmark]; exact or_mark_twice _ _) .withdrawn
  rw [State.unlinkBay, hflags, hchange, hfleet, hmark]
  exact ⟨rfl, rfl⟩

theorem State.kept_unlinkBay (h : (s.bay b).link = some n) :
    let r := (s.unlinkBay b).bay b
    r.link = none ∧ r.capEff = 0 ∧ r.guardArmed = false ∧ r.tele = (s.bay b).tele
      ∧ r.ratedCap = (s.bay b).ratedCap := by
  have hkept := (s.clearLink b).bay_releaseFor_kept b .withdrawn
  rw [State.bay_clearLink h] at hkept
  exact hkept

theorem State.unlinkBay_released (hstate : (s.bay b).state = .binding ∨ (s.bay b).state = .bound ∨ (s.bay b).state = .checking) :
    let u := s.unlinkBay b
    u.bay b = ((s.clearLink b).bay b).released ∧ b ∈ u.pollQueue ∧ u.order b = none
      ∧ u.notices = s.notices ++ s.endNotices b .withdrawn false := by
  have hcleared : ((s.clearLink b).bay b).state = (s.bay b).state := s.state_clearLink b b
  have hne : ((s.clearLink b).bay b).state ≠ .releasing := by
    obtain h | h | h := hstate <;> simp [hcleared, h]
  obtain ⟨hbay, -, hwaits, -⟩ := State.bayReleased_abort hne .withdrawn false
  dsimp only
  rw [State.unlinkBay, State.releaseFor_released (by rwa [hcleared])]
  refine ⟨hbay, hwaits, by rw [State.order_release, State.order_abortOrder], ?_⟩
  rw [State.notices_release_abort, State.clearLink_notices, State.endNotices, State.order_clearLink]
  rfl

theorem State.unlinkBay_transfer (hstate : (s.bay b).state = .transfer) :
    let u := s.unlinkBay b
    (u.bay b).state = .transfer ∧ u.notices = s.notices
      ∧ ∀ o, s.order b = some o → o.phase ≠ .waitBind → u.order b = some (o.declineFor .withdrawn) := by
  have hcleared : ((s.clearLink b).bay b).state = .transfer := (s.state_clearLink b b).trans hstate
  have hframe := (s.clearLink b).declineBay_frame b .withdrawn
  dsimp only
  rw [State.unlinkBay, State.releaseFor_transfer hcleared]
  refine ⟨by rw [hframe.bayAt (by decide), hcleared], by rw [hframe.notices (by decide), State.clearLink_notices],
    fun o ho hphase => ?_⟩
  rw [State.declineBay_running (by rwa [State.order_clearLink]) hphase, State.order_setOrder]

theorem State.unlinkBay_disengaged (hstate : (s.bay b).state.engaged = false) : s.unlinkBay b = s.clearLink b :=
  State.releaseFor_disengaged (by rwa [s.state_clearLink]) _

/-- The unlinking of a vehicle's bay with the notice of the roster's change (R12, R13). -/
theorem State.vehicleUnlinked_unlinkBay (h : (s.bay b).link = some n)
    (hframe : (s.unlinkBay b).sameBut t [.roster, .notices])
    (hnotices : t.notices = (s.unlinkBay b).notices ++ [.change .roster]) : s.vehicleUnlinked t b := by
  have hbay (c : BayNo) : t.bay c = (s.unlinkBay b).bay c := hframe.bayAt (by decide) c
  have horder (c : BayNo) : t.order c = (s.unlinkBay b).order c := hframe.orderAt (by decide) c
  have hfaults (c : BayNo) : t.faultSet c = (s.unlinkBay b).faultSet c := by
    rw [State.faultSet, State.faultSet, hframe.faults (by decide)]
  obtain ⟨hlink, hcap, harmed, htele, hrated⟩ := State.kept_unlinkBay h
  obtain ⟨hflags, hmark⟩ := State.marked_unlinkBay h
  unfold State.vehicleUnlinked
  rw [hbay, horder, hfaults, hnotices, hframe.changeSet (by decide), hframe.pollQueue (by decide),
    hframe.fleet (by decide)]
  refine ⟨hlink, hcap, harmed, htele, hrated, hmark, hflags, fun hstate => ?_, fun hstate => ?_, fun hstate => ?_,
    fun c hc => ?_⟩
  · obtain ⟨hreleased, hwaits, hslot, hends⟩ := State.unlinkBay_released hstate
    rw [hreleased, hslot, hends]
    exact ⟨rfl, rfl, rfl, rfl, rfl, rfl, hwaits, rfl, rfl⟩
  · obtain ⟨hkept, hends, hdecline⟩ := State.unlinkBay_transfer hstate
    refine ⟨hkept, by rw [hends], fun o ho hphase => ?_⟩
    rw [hdecline o ho hphase]
    simp [Order.declineFor]
  · have hdisengaged : (s.bay b).state.engaged = false := by
      obtain h | h | h | h | h := hstate <;> rw [h] <;> rfl
    rw [State.unlinkBay_disengaged hdisengaged, State.bay_clearLink h, State.faultSet_clearLink, State.order_clearLink,
      State.clearLink_notices]
    exact ⟨rfl, rfl, rfl, rfl, rfl, rfl, rfl⟩
  · rw [hbay, hfaults, horder]
    exact s.unlinkBay_other b c hc

end

/-! ### WITHDRAW VEHICLE (R11, R12) -/

theorem exec_withdrawVehicle (number : BitVec 16) (s : State) : exec (.withdrawVehicle number) s
    = carryOut .fleet (.withdrawVehicle number) (Machine.withdrawVehicle number.toNat) s := rfl

/-- The bay byte of a reply. -/
theorem le1_bayCode (link : Option BayNo) : le1 (bayCode link) = match link with
    | some b => le1 b.val
    | none => [255] := by
  cases link <;> rfl

section
variable {s : State} {n : Nat} {v : Vehicle} {front back : List Vehicle}

theorem withdrawVehicle_badNumber (h : badNumber n = true) : Machine.withdrawVehicle n s = .error .range := if_pos h

theorem withdrawVehicle_absent (h : badNumber n = false) (hv : s.vehicle? n = none) :
    Machine.withdrawVehicle n s = .error .noSuchVehicle := by
  simp [Machine.withdrawVehicle, h, hv]

theorem withdrawVehicle_present (h : badNumber n = false) (hv : s.vehicle? n = some v) :
    Machine.withdrawVehicle n s = .ok (((s.unlinkIf v.bayLink).removeVehicle n).hand (.change .roster),
      le1 (s.position n) ++ le1 (bayCode v.bayLink)) := by
  simp [Machine.withdrawVehicle, h, hv]

/-- In a roster of distinct numbers the records before and after one have other numbers. -/
theorem ne_number_of_split (hnodup : ((front ++ v :: back).map (·.number)).Nodup) :
    (∀ w ∈ front, w.number ≠ v.number) ∧ ∀ w ∈ back, w.number ≠ v.number := by
  rw [List.map_append, List.map_cons, List.nodup_append, List.nodup_cons] at hnodup
  obtain ⟨-, ⟨hback, -⟩, hfront⟩ := hnodup
  exact ⟨fun w hw => hfront _ (List.mem_map_of_mem hw) _ List.mem_cons_self,
    fun w hw he => hback (he ▸ List.mem_map_of_mem (f := (·.number)) hw)⟩

/-- Removing a number leaves the other records, also when its own record was rewritten before. -/
theorem filter_map_number {f : Vehicle → Vehicle} (hf : (f v).number = v.number)
    (hkept : ∀ w, w.number ≠ v.number → f w = w) (hnodup : ((front ++ v :: back).map (·.number)).Nodup) :
    ((front ++ v :: back).map f).filter (fun w => w.number != v.number) = front ++ back := by
  obtain ⟨hfront, hback⟩ := ne_number_of_split hnodup
  have hmap {l : List Vehicle} (hl : ∀ w ∈ l, w.number ≠ v.number) :
      (l.map f).filter (fun w => w.number != v.number) = l := by
    rw [List.map_congr_left (g := fun w => w) fun w hw => hkept w (hl w hw), List.map_id', List.filter_eq_self]
    simpa using hl
  rw [List.map_append, List.map_cons, List.filter_append, List.filter_cons_of_neg (by simp [hf]), hmap hfront, hmap hback]

theorem State.withdrawn_frame (s : State) (n : Nat) :
    s.sameBut ((s.removeVehicle n).hand (.change .roster)) [.roster, .notices] := by
  intro p hp
  cases p <;> first | rfl | simp at hp

theorem State.unlinkIf_frame (s : State) (link : Option BayNo) : s.sameBut (s.unlinkIf link) bayEventParts := by
  cases link with
  | none => exact (State.sameBut_refl s []).mono (by decide)
  | some b => exact s.unlinkBay_frame b

/-- The roster without the record of an unlinked vehicle. -/
theorem State.roster_withdrawn (hlinks : s.linksAgree) (hroster : s.roster = front ++ v :: back) :
    ((s.unlinkIf v.bayLink).removeVehicle v.number).roster = front ++ back := by
  obtain ⟨-, hnodup, hpaired, -⟩ := hlinks
  rw [hroster] at hnodup
  have hv : v ∈ s.roster := by simp [hroster]
  cases hlink : v.bayLink with
  | none =>
    have hkept := filter_map_number (f := fun w => w) rfl (fun _ _ => rfl) hnodup
    rw [List.map_id', ← hroster] at hkept
    exact hkept
  | some b =>
    have hn : (s.bay b).link = some v.number := (hpaired v hv b).mp hlink
    have hunlinked : (s.unlinkBay b).roster = (s.clearLink b).roster :=
      ((s.clearLink b).releaseFor_frame b .withdrawn).roster (by decide)
    show (s.unlinkBay b).roster.filter (fun w => w.number != v.number) = _
    rw [hunlinked, State.roster_clearLink hn, hroster]
    refine filter_map_number ?_ ?_ hnodup
    · simp
    · exact fun w hw => if_neg hw

end

end Sys2Proof.Machine

namespace Sys2Proof.Proofs
open Sys2Proof.Machine

/-- Settles O32: with paired links the withdrawn record names the bay that is unlinked. -/
theorem withdrawRemovesAndUnlinks : Obligations.WithdrawRemovesAndUnlinks := by
  unfold Obligations.WithdrawRemovesAndUnlinks
  intro number s h
  simp only [exec_withdrawVehicle]
  refine ⟨fun hbad => ?_, fun h0 h1 hnone => ?_, fun h0 h1 hlinks front v back hroster hnumber => ?_⟩
  · exact carryOut_error h (r := .range) (withdrawVehicle_badNumber ((badNumber_toNat number).mpr hbad))
  · exact carryOut_error h (r := .noSuchVehicle) (withdrawVehicle_absent (badNumber_of_ne h0 h1)
      (State.vehicle?_eq_none.mpr hnone))
  have hmem : v ∈ s.roster := by simp [hroster]
  obtain ⟨-, hnodup, hpaired, -⟩ := id hlinks
  obtain ⟨hfirst, -⟩ := ne_number_of_split (hroster ▸ hnodup)
  have hfound : s.vehicle? number.toNat = some v := by
    rw [State.vehicle?, hroster, ← hnumber, find?_number hfirst]
  have hposition : s.position number.toNat = front.length := by
    rw [State.position, hroster, ← hnumber, findIdx_number hfirst]
  have hremoved := State.roster_withdrawn hlinks hroster
  have hframe := (s.unlinkIf v.bayLink).withdrawn_frame number.toNat
  refine ⟨((s.unlinkIf v.bayLink).removeVehicle number.toNat).hand (.change .roster), ?_, ?_, fun hnone => ?_,
    fun b hb => ?_, ?_⟩
  · rw [carryOut_ok h (withdrawVehicle_present (badNumber_of_ne h0 h1) hfound), hposition, le1_bayCode]
    rfl
  · rw [← hremoved, hnumber, State.hand_roster]
  · rw [hnone]
    exact ⟨rfl, s.withdrawn_frame _⟩
  · rw [hb] at hframe ⊢
    exact State.vehicleUnlinked_unlinkBay ((hpaired v hmem b).mp hb) hframe rfl
  · exact ((s.unlinkIf_frame v.bayLink).then hframe (by decide)).mono (by decide)

end Sys2Proof.Proofs
end

section

/-!
SUPPORT. The search for a waiting bay and the refreshing of a linked vehicle, and with them ENROLL VEHICLE of a new and
of a present number (O29, O30).
-/

namespace Sys2Proof.Machine

/-! ### The lowest waiting bay (R7) -/

/-- The first bay found by a test is the lowest-numbered one that meets it. -/
theorem le_of_find?_allBays {p : BayNo → Bool} {b : BayNo} (h : allBays.find? p = some b) : ∀ c, p c = true → b ≤ c := by
  obtain ⟨-, front, back, hsplit, hfront⟩ := List.find?_eq_some_iff_append.mp h
  have hsorted : (front ++ b :: back).Pairwise (· < ·) := hsplit ▸ by decide
  intro c hc
  have hmem : c ∈ front ++ b :: back := hsplit ▸ mem_allBays c
  obtain hin | rfl | hin := by simpa using hmem
  · simpa [hc] using hfront c hin
  · exact le_refl c
  · exact le_of_lt ((List.pairwise_cons.mp (List.pairwise_append.mp hsorted).2.1).1 c hin)

/-- A bay waits for a vehicle number (R7). -/
def State.waits (s : State) (n : Nat) (b : BayNo) : Prop :=
  (s.bay b).state = .parked ∧ (s.bay b).link = none ∧ (s.bay b).tele.vehicle = n

section
variable {s m : State} {n : Nat} {v : Vehicle} {b : BayNo}

theorem State.waitingBay?_some (h : s.waitingBay? n = some b) : s.waits n b ∧ ∀ c, s.waits n c → b ≤ c := by
  have hle := le_of_find?_allBays h
  have hb := List.find?_some h
  simp only [Bool.and_eq_true, beq_iff_eq, and_assoc] at hb hle
  exact ⟨hb, hle⟩

theorem State.waitingBay?_none (h : s.waitingBay? n = none) : ¬∃ b, s.waits n b := by
  rintro ⟨b, hstate, hlink, hnumber⟩
  have hb := List.find?_eq_none.mp h b (mem_allBays b)
  simp [hstate, hlink, hnumber] at hb

theorem State.linkWaiting_found (hv : s.vehicle? n = some v) (hconsent : v.consent = true) (hfree : v.bayLink = none)
    (hb : s.waitingBay? n = some b) : s.linkWaiting n = s.linkBay b v := by
  simp only [State.linkWaiting, hv, if_pos (And.intro hconsent hfree), hb]

theorem State.linkWaiting_kept (hv : s.vehicle? n = some v)
    (h : v.consent = true → s.waitingBay? n = none) : s.linkWaiting n = s := by
  simp only [State.linkWaiting, hv]
  split
  case isTrue hsought => rw [h hsought.1]
  case isFalse => rfl

/-- Two states that differ in the roster have the same bays waiting. -/
theorem State.waitingLinked_linkBay (hframe : s.sameBut m [.roster]) (hv : m.vehicle? n = some v)
    (hconsent : v.consent = true) (hb : m.waitingBay? n = some b) :
    s.waitingLinked (m.linkBay b v) n v.capacity v.pDis v.consent (some b) := by
  obtain ⟨-, hnumber⟩ := State.vehicle?_number hv
  have hbay (c : BayNo) : m.bay c = s.bay c := hframe.bayAt (by decide) c
  have hwaits (c : BayNo) : m.waits n c ↔ s.waits n c := by rw [State.waits, State.waits, hbay]
  obtain ⟨hwait, hleast⟩ := State.waitingBay?_some hb
  refine ⟨fun _ => ⟨b, (hwaits b).mp hwait, fun c hc => hleast c ((hwaits c).mpr hc), rfl, ?_, fun c hc => ?_, ?_, ?_⟩,
    fun hnone => (hnone ⟨hconsent, b, (hwaits b).mp hwait⟩).elim⟩
  · refine ⟨s.tempCapOf b (s.bay b).ratedCap, ?_, rfl⟩
    have hcap : m.tempCapOf b = s.tempCapOf b := by
      funext cap
      rw [State.tempCapOf, State.tempCapOf, hbay, hframe.site (by decide), hframe.siteValid (by decide)]
    rw [State.bay_linkBay (hnumber.symm ▸ hv), hbay, hnumber, hcap]
  · rw [(m.linkBay_other b v c hc).1, hbay]
  · rw [State.changeSet_linkBay, hframe.changeSet (by decide)]
  · rw [State.fleet_linkBay, hframe.fleet (by decide)]
    rfl

theorem State.waitingLinked_none (hframe : s.sameBut m [.roster])
    (h : ¬(v.consent = true ∧ ∃ b, m.waits n b)) :
    s.waitingLinked m n v.capacity v.pDis v.consent none := by
  have hwaits (c : BayNo) : m.waits n c ↔ s.waits n c := by
    rw [State.waits, State.waits, hframe.bayAt (by decide)]
  simp only [hwaits] at h
  exact ⟨fun hwait => (h hwait).elim, fun _ => ⟨rfl, hframe.bays (by decide), hframe.changeSet (by decide),
    by rw [hframe.fleet (by decide)]⟩⟩

/-- The search for a waiting bay in a roster whose records of the number are unlinked: the bay it links, the roster, and
what it leaves alone (R7). -/
theorem State.linkWaiting_spec (hframe : s.sameBut m [.roster]) (hv : m.vehicle? n = some v)
    (hfree : ∀ w ∈ m.roster, w.number = n → w.bayLink = none) :
    ∃ link, s.waitingLinked (m.linkWaiting n) n v.capacity v.pDis v.consent link
      ∧ (m.linkWaiting n).roster = m.roster.map (fun w => if w.number = n then { w with bayLink := link } else w)
      ∧ (m.linkWaiting n).linkOf n = link
      ∧ s.sameBut (m.linkWaiting n) linkParts := by
  obtain ⟨hmem, hnumber⟩ := State.vehicle?_number hv
  have hvfree := hfree v hmem hnumber
  by_cases hsought : v.consent = true ∧ ∃ b, m.waitingBay? n = some b
  · obtain ⟨hconsent, b, hb⟩ := hsought
    rw [State.linkWaiting_found hv hconsent hvfree hb]
    refine ⟨some b, State.waitingLinked_linkBay hframe hv hconsent hb, ?_, ?_, 
      (hframe.mono (by decide)).then (m.linkBay_frame b v) (by decide)⟩
    · rw [State.roster_linkBay, hnumber]
    · have hlinked := State.linkedVehicle?_linkBay (b := b) (hnumber.symm ▸ hv)
      rw [State.linkedVehicle?, State.bay_linkBay (hnumber.symm ▸ hv), hnumber] at hlinked
      exact congrArg (Option.bind · (·.bayLink)) hlinked
  · have hkept : v.consent = true → m.waitingBay? n = none := fun hconsent =>
      Option.eq_none_iff_forall_ne_some.mpr fun b hb => hsought ⟨hconsent, b, hb⟩
    rw [State.linkWaiting_kept hv hkept]
    refine ⟨none, State.waitingLinked_none hframe fun ⟨hconsent, hwait⟩ =>
      State.waitingBay?_none (hkept hconsent) hwait, ?_, ?_, hframe.mono (by decide)⟩
    · rw [List.map_congr_left (g := fun w => w), List.map_id']
      intro w hw
      split
      case isTrue hn => rw [← hfree w hw hn]
      case isFalse => rfl
    · rw [State.linkOf, hv, Option.bind_some, hvfree]

end

/-! ### ENROLL VEHICLE of a new number (R5, R7) -/

theorem beq_one (x : Byte) : (x == 1) = decide (x = 1) := by
  rw [beq_eq_decide]

section
variable {s : State} {v : Vehicle}

/-- The state with a record appended to its roster. -/
def State.appended (s : State) (v : Vehicle) : State := { s with roster := s.roster ++ [v] }

theorem State.appended_frame (s : State) (v : Vehicle) : s.sameBut (s.appended v) [.roster] := by
  intro p hp
  cases p <;> first | rfl | simp at hp

theorem State.vehicle?_appended (h : s.vehicle? v.number = none) : (s.appended v).vehicle? v.number = some v := by
  have hnone : s.roster.find? (fun w => w.number == v.number) = none := h
  rw [State.vehicle?, State.appended, List.find?_append, hnone]
  simp

theorem State.appendVehicle_spec (h : s.vehicle? v.number = none) (hfree : v.bayLink = none) :
    ∃ link, (s.appendVehicle v).roster = s.roster ++ [{ v with bayLink := link }]
      ∧ s.waitingLinked (s.appendVehicle v) v.number v.capacity v.pDis v.consent link
      ∧ (s.appendVehicle v).notices = s.notices ++ [.change .roster]
      ∧ (s.appendVehicle v).linkOf v.number = link
      ∧ s.sameBut (s.appendVehicle v) [.roster, .bays, .notices, .fleetFlags, .changeSet] := by
  have hnumbers := State.vehicle?_eq_none.mp h
  have hfreed : ∀ w ∈ (s.appended v).roster, w.number = v.number → w.bayLink = none := by
    intro w hw hn
    obtain hin | rfl : w ∈ s.roster ∨ w = v := by simpa [State.appended] using hw
    · exact (hnumbers w hin hn).elim
    · exact hfree
  obtain ⟨link, hwaiting, hroster, hlink, hframe⟩ :=
    State.linkWaiting_spec (s.appended_frame v) (State.vehicle?_appended h) hfreed
  refine ⟨link, hroster.trans ?_, hwaiting, ?_, hlink,
    (hframe.mono (by decide)).then (State.hand_frame _ _) (by decide)⟩
  · have hkept : s.roster.map (fun w => if w.number = v.number then { w with bayLink := link } else w) = s.roster := by
      rw [List.map_congr_left (g := fun w => w) fun w hw => if_neg (hnumbers w hw), List.map_id']
    simp [State.appended, hkept]
  · exact congrArg (· ++ [Notice.change .roster]) (hframe.notices (by decide))

end

end Sys2Proof.Machine

namespace Sys2Proof.Proofs
open Sys2Proof.Machine

/-- Settles O29: the appended record seeks a bay among those that wait for its number. -/
theorem enrollAppendsAndLinks : Obligations.EnrollAppendsAndLinks := by
  unfold Obligations.EnrollAppendsAndLinks
  intro number capacity floor pChg pDis consent s c h h0 h1 hcap hfloor hchg hdis hconsent habsent hroom
  have hrange := (enrollInRange_iff number capacity floor pChg pDis consent).mpr
    ⟨h0, h1, hcap, hfloor, hchg, hdis, hconsent⟩
  obtain ⟨link, hroster, hwaiting, hnotices, hlink, hframe⟩ := State.appendVehicle_spec (s := s)
    (v := ⟨number.toNat, capacity.toNat, floor.toNat, pChg.toNat, pDis.toNat, decide (consent = 1), none, none⟩)
    habsent rfl
  refine ⟨_, link, ?_, hroster, hwaiting, hnotices, hframe⟩
  rw [exec_enrollVehicle, carryOut_ok h (enrollVehicle_absent hrange habsent (by omega)), beq_one]
  dsimp only at hlink ⊢
  rw [hlink, le1_bayCode]
  rfl

end Sys2Proof.Proofs
end

section

/-!
SUPPORT. The fields of a present number overwritten, with the refreshing, the loss or the search of its bay, and with
them ENROLL VEHICLE of a present number (O30).
-/

namespace Sys2Proof.Machine

/-! ### A linked vehicle's bay refreshed (R6) -/

section
variable {s : State} {v : Vehicle} {b : BayNo} {capacity : Nat}

/-- The bay with the new values of its vehicle, before any notice. -/
def State.withEnergy (s : State) (b : BayNo) (capacity : Nat) : State :=
  (s.modBay b fun r => { r with tele := { r.tele with energy := min r.tele.energy capacity } }).recomputeCaps b

theorem State.bay_withEnergy (hv : s.linkedVehicle? b = some v) : (s.withEnergy b capacity).bay b = { s.bay b with
    tempCap := s.tempCapOf b (s.bay b).ratedCap
    capEff := min (s.bay b).ratedCap (min v.pDis (s.tempCapOf b (s.bay b).ratedCap))
    tele := { (s.bay b).tele with energy := min (s.bay b).tele.energy capacity } } := by
  have hlinked : (s.modBay b fun r => { r with tele := { r.tele with energy := min r.tele.energy capacity } }).linkedVehicle? b
      = some v := by
    rw [State.linkedVehicle?, State.bay_modBay]
    exact hv
  rw [State.withEnergy, State.bay_recomputeCaps]
  simp only [State.effCapOf, hlinked]
  simp [State.tempCapOf]

theorem State.withEnergy_frame (s : State) (b : BayNo) (capacity : Nat) :
    s.sameBut (s.withEnergy b capacity) [.bays] :=
  (s.modBay_frame b _).then (State.recomputeCaps_frame _ b) (by decide)

theorem State.withEnergy_other (s : State) (b : BayNo) (capacity : Nat) :
    s.otherBays (s.withEnergy b capacity) b :=
  (s.modBay_other b _).trans (State.recomputeCaps_other _ b)

theorem State.refreshLinked_eq (s : State) (b : BayNo) (capacity : Nat) :
    s.refreshLinked b capacity = (s.withEnergy b capacity).handIfCap b (s.bay b).capEff := rfl

/-- A changed cap adds one notice to what the refreshing leaves. -/
theorem State.handIfCap_spec (s : State) (b : BayNo) (before : Nat) :
    s.sameBut (s.handIfCap b before) [.notices]
    ∧ (s.handIfCap b before).notices = s.notices ++ if (s.bay b).capEff = before then [] else [.change .bay] := by
  unfold State.handIfCap
  split
  · exact ⟨(State.sameBut_refl s []).mono (by decide), by rw [List.append_nil]⟩
  · exact ⟨s.hand_frame _, rfl⟩

theorem State.refreshLinked_spec (hv : s.linkedVehicle? b = some v) :
    let t := s.refreshLinked b capacity
    (∀ c, c ≠ b → t.bay c = s.bay c)
    ∧ t.bay b = { s.bay b with
        tempCap := s.tempCapOf b (s.bay b).ratedCap
        capEff := min (s.bay b).ratedCap (min v.pDis (s.tempCapOf b (s.bay b).ratedCap))
        tele := { (s.bay b).tele with energy := min (s.bay b).tele.energy capacity } }
    ∧ t.notices = s.notices ++ (if (t.bay b).capEff = (s.bay b).capEff then [] else [.change .bay])
    ∧ s.sameBut t [.bays, .notices] := by
  obtain ⟨hframe, hnotices⟩ := (s.withEnergy b capacity).handIfCap_spec b (s.bay b).capEff
  have hbay (c : BayNo) : (s.refreshLinked b capacity).bay c = (s.withEnergy b capacity).bay c :=
    hframe.bayAt (by decide) c
  refine ⟨fun c hc => ?_, ?_, ?_, ((s.withEnergy_frame b capacity).mono (by decide)).then hframe (by decide)⟩
  · rw [hbay, (s.withEnergy_other b capacity c hc).1]
  · rw [hbay, State.bay_withEnergy hv]
  · rw [hbay, State.refreshLinked_eq, hnotices, (s.withEnergy_frame b capacity).notices (by decide)]

end

/-! ### The overwritten record (R6) -/

/-- A record with the fields of an ENROLL VEHICLE. -/
def Vehicle.overwritten (v : Vehicle) (capacity floor pChg pDis : Nat) (consent : Bool) : Vehicle :=
  { v with capacity := capacity, floor := floor, pChg := pChg, pDis := pDis, consent := consent }

theorem Vehicle.number_overwritten (v : Vehicle) (capacity floor pChg pDis : Nat) (consent : Bool) :
    (v.overwritten capacity floor pChg pDis consent).number = v.number := rfl

section
variable {s t : State} {v x : Vehicle} {l : List Vehicle}

/-- In a roster of distinct numbers a rewrite by number changes one record. -/
theorem map_of_number {f : Vehicle → Vehicle} (hnodup : (l.map (·.number)).Nodup) (hv : v ∈ l) (hf : f v = x)
    (hkept : ∀ w, w.number ≠ v.number → f w = w) : l.map f = l.map (fun w => if w = v then x else w) := by
  refine List.map_congr_left fun w hw => ?_
  split
  case isTrue he => rw [he, hf]
  case isFalse hne => exact hkept w fun hn => hne (eq_of_number hnodup hw hv hn)

/-- The bay link that a number's rewritten record names. -/
theorem State.linkOf_of_roster (hnodup : (s.roster.map (·.number)).Nodup) (hv : v ∈ s.roster)
    (hx : x.number = v.number) (hroster : t.roster = s.roster.map fun w => if w = v then x else w) :
    t.linkOf v.number = x.bayLink := by
  obtain ⟨front, back, hsplit⟩ := List.append_of_mem hv
  obtain ⟨hfront, -⟩ := ne_number_of_split (hsplit ▸ hnodup)
  have hkept : front.map (fun w => if w = v then x else w) = front := by
    rw [List.map_congr_left (g := fun w => w) fun w hw => if_neg (ne_of_apply_ne _ (hfront w hw)), List.map_id']
  have hfound : t.vehicle? v.number = some x := by
    rw [State.vehicle?, hroster, hsplit, List.map_append, List.map_cons, hkept, if_pos rfl, ← hx, find?_number (hx ▸ hfront)]
  rw [State.linkOf, hfound, Option.bind_some]

/-- The state with the record overwritten. -/
def State.overwrite (s : State) (v : Vehicle) (capacity floor pChg pDis : Nat) (consent : Bool) : State :=
  s.modVehicle v.number fun w => w.overwritten capacity floor pChg pDis consent

variable {capacity floor pChg pDis : Nat} {consent : Bool} {b : BayNo}

theorem State.vehicle?_overwrite (hv : s.vehicle? v.number = some v) :
    (s.overwrite v capacity floor pChg pDis consent).vehicle? v.number
      = some (v.overwritten capacity floor pChg pDis consent) :=
  State.vehicle?_modVehicle (fun _ => rfl) hv

theorem State.overwrite_frame (s : State) (v : Vehicle) :
    s.sameBut (s.overwrite v capacity floor pChg pDis consent) [.roster] := s.modVehicle_frame _ _

/-- A rewrite of the overwritten record alone. -/
theorem State.map_overwrite {f : Vehicle → Vehicle} (hnodup : (s.roster.map (·.number)).Nodup) (hv : v ∈ s.roster)
    (hkept : ∀ w, w.number ≠ v.number → f w = w) :
    (s.overwrite v capacity floor pChg pDis consent).roster.map f
      = s.roster.map fun w => if w = v then f (v.overwritten capacity floor pChg pDis consent) else w := by
  rw [State.overwrite, State.modVehicle_roster, List.map_map]
  refine map_of_number hnodup hv (by simp) fun w hw => ?_
  simp [hw, hkept w hw]

theorem State.roster_overwrite (hnodup : (s.roster.map (·.number)).Nodup) (hv : v ∈ s.roster) :
    (s.overwrite v capacity floor pChg pDis consent).roster
      = s.roster.map fun w => if w = v then v.overwritten capacity floor pChg pDis consent else w := by
  have hmap := s.map_overwrite (f := fun w => w) (capacity := capacity) (floor := floor) (pChg := pChg) (pDis := pDis)
    (consent := consent) hnodup hv fun _ _ => rfl
  rwa [List.map_id'] at hmap

/-- What ENROLL VEHICLE of a present number leaves, by the link of its record (R6, R7, R12, R13). -/
theorem State.replaceVehicle_unlinked (hlinks : s.linksAgree) (hv : s.vehicle? v.number = some v)
    (hfree : v.bayLink = none) :
    let t := s.replaceVehicle v capacity floor pChg pDis consent
    ∃ link, t.roster = s.roster.map (fun w => if w = v then
          { v.overwritten capacity floor pChg pDis consent with bayLink := link } else w)
      ∧ s.waitingLinked t v.number capacity pDis consent link
      ∧ t.notices = s.notices ++ [.change .roster]
      ∧ s.sameBut t [.roster, .bays, .fleetFlags, .changeSet, .notices] := by
  obtain ⟨-, hnodup, -, -⟩ := hlinks
  obtain ⟨hmem, -⟩ := State.vehicle?_number hv
  have hframe := s.overwrite_frame v (capacity := capacity) (floor := floor) (pChg := pChg) (pDis := pDis) (consent := consent)
  have hfreed : ∀ w ∈ (s.overwrite v capacity floor pChg pDis consent).roster, w.number = v.number → w.bayLink = none := by
    rw [State.roster_overwrite hnodup hmem]
    intro w hw hn
    obtain ⟨x, hx, rfl⟩ := List.mem_map.mp hw
    by_cases he : x = v
    · rw [if_pos he]
      exact hfree
    · rw [if_neg he] at hn
      exact (he (eq_of_number hnodup hx hmem hn)).elim
  obtain ⟨link, hwaiting, hroster, -, hsought⟩ := State.linkWaiting_spec hframe (State.vehicle?_overwrite hv) hfreed
  have hreplaced : s.replaceVehicle v capacity floor pChg pDis consent
      = ((s.overwrite v capacity floor pChg pDis consent).linkWaiting v.number).hand (.change .roster) := by
    simp only [State.replaceVehicle, State.replaceLink, hfree]
    rfl
  dsimp only
  rw [hreplaced]
  refine ⟨link, ?_, hwaiting, congrArg (· ++ [Notice.change .roster]) (hsought.notices (by decide)),
    (hsought.mono (by decide)).then (State.hand_frame _ _) (by decide)⟩
  rw [State.hand_roster, hroster, State.map_overwrite hnodup hmem fun w hw => if_neg hw]
  exact List.map_congr_left fun w _ => by rw [if_pos (v.number_overwritten ..)]

/-- A linked vehicle that keeps its consent keeps its bay, which takes the new values. -/
theorem State.replaceVehicle_refreshed (hlinks : s.linksAgree) (hv : s.vehicle? v.number = some v)
    (hb : v.bayLink = some b) :
    let t := s.replaceVehicle v capacity floor pChg pDis true
    t.roster = s.roster.map (fun w => if w = v then v.overwritten capacity floor pChg pDis true else w)
      ∧ (∀ c, c ≠ b → t.bay c = s.bay c)
      ∧ t.bay b = { s.bay b with
          tempCap := s.tempCapOf b (s.bay b).ratedCap
          capEff := min (s.bay b).ratedCap (min pDis (s.tempCapOf b (s.bay b).ratedCap))
          tele := { (s.bay b).tele with energy := min (s.bay b).tele.energy capacity } }
      ∧ t.notices = s.notices ++ (if (t.bay b).capEff = (s.bay b).capEff then [] else [.change .bay])
          ++ [.change .roster]
      ∧ s.sameBut t [.roster, .bays, .notices] := by
  obtain ⟨-, hnodup, hpaired, -⟩ := hlinks
  obtain ⟨hmem, -⟩ := State.vehicle?_number hv
  have hframe := s.overwrite_frame v (capacity := capacity) (floor := floor) (pChg := pChg) (pDis := pDis) (consent := true)
  have hlinked : (s.overwrite v capacity floor pChg pDis true).linkedVehicle? b
      = some (v.overwritten capacity floor pChg pDis true) := by
    rw [State.linkedVehicle?, hframe.bayAt (by decide), (hpaired v hmem b).mp hb]
    exact State.vehicle?_overwrite hv
  obtain ⟨hothers, hbay, hnotices, hkept⟩ := State.refreshLinked_spec (capacity := capacity) hlinked
  have hreplaced : s.replaceVehicle v capacity floor pChg pDis true
      = ((s.overwrite v capacity floor pChg pDis true).refreshLinked b capacity).hand (.change .roster) := by
    simp only [State.replaceVehicle, State.replaceLink, hb, if_true]
    rfl
  dsimp only
  rw [hreplaced]
  refine ⟨?_, hothers, hbay, congrArg (· ++ [Notice.change .roster]) hnotices,
    ((hframe.mono (by decide)).then hkept (by decide)).then (State.hand_frame _ _) (by decide)⟩
  rw [State.hand_roster, hkept.roster (by decide), State.roster_overwrite hnodup hmem]

/-- A linked vehicle that loses its consent loses its bay. -/
theorem State.replaceVehicle_lost (hlinks : s.linksAgree) (hv : s.vehicle? v.number = some v) (hb : v.bayLink = some b) :
    let t := s.replaceVehicle v capacity floor pChg pDis false
    t.roster = s.roster.map (fun w => if w = v then
        { v.overwritten capacity floor pChg pDis false with bayLink := none } else w)
      ∧ s.vehicleUnlinked t b
      ∧ s.sameBut t bayEventParts := by
  obtain ⟨-, hnodup, hpaired, -⟩ := hlinks
  obtain ⟨hmem, -⟩ := State.vehicle?_number hv
  have hframe := s.overwrite_frame v (capacity := capacity) (floor := floor) (pChg := pChg) (pDis := pDis) (consent := false)
  have hlink : ((s.overwrite v capacity floor pChg pDis false).bay b).link = some v.number := by
    rw [hframe.bayAt (by decide), (hpaired v hmem b).mp hb]
  have hreplaced : s.replaceVehicle v capacity floor pChg pDis false
      = ((s.overwrite v capacity floor pChg pDis false).unlinkBay b).hand (.change .roster) := by
    simp only [State.replaceVehicle, State.replaceLink, hb]
    rfl
  dsimp only
  rw [hreplaced]
  have hunlink := State.vehicleUnlinked_unlinkBay hlink
    (t := ((s.overwrite v capacity floor pChg pDis false).unlinkBay b).hand (.change .roster))
    ((State.hand_frame _ _).mono (by decide)) rfl
  refine ⟨?_, hunlink,
    ((hframe.mono (by decide)).then (State.unlinkBay_frame _ b) (by decide)).then (State.hand_frame _ _) (by decide)⟩
  have hunlinked : ((s.overwrite v capacity floor pChg pDis false).unlinkBay b).roster
      = ((s.overwrite v capacity floor pChg pDis false).clearLink b).roster :=
    (State.releaseFor_frame _ b .withdrawn).roster (by decide)
  rw [State.hand_roster, hunlinked, State.roster_clearLink hlink,
    State.map_overwrite hnodup hmem fun w hw => if_neg hw]
  exact List.map_congr_left fun w _ => by rw [if_pos (v.number_overwritten ..)]

end

end Sys2Proof.Machine

namespace Sys2Proof.Proofs
open Sys2Proof.Machine

/-- Settles O30: the record's own link decides between the refreshing, the loss and the search. -/
theorem enrollReplacesInPlace : Obligations.EnrollReplacesInPlace := by
  unfold Obligations.EnrollReplacesInPlace
  intro number capacity floor pChg pDis consent s v c h hlinks h0 h1 hcap hfloor hchg hdis hconsent hmem hnumber hdeparture
  have hrange := (enrollInRange_iff number capacity floor pChg pDis consent).mpr
    ⟨h0, h1, hcap, hfloor, hchg, hdis, hconsent⟩
  obtain ⟨-, hnodup, -, -⟩ := id hlinks
  have hfound : s.vehicle? v.number = some v := by
    obtain ⟨front, back, hsplit⟩ := List.append_of_mem hmem
    rw [State.vehicle?, hsplit, find?_number (ne_number_of_split (hsplit ▸ hnodup)).1]
  have hexceeds : ¬v.exceeds capacity.toNat = true := by
    rw [Vehicle.exceeds_iff]
    rintro ⟨d, hd, hmore⟩
    have hle := hdeparture d hd
    omega
  have hrun := carryOut_ok h (enrollVehicle_present hrange (hnumber ▸ hfound) hexceeds)
  rw [beq_one] at hrun
  have hlinkOf {t : State} {link : Option BayNo} (hroster : t.roster = s.roster.map fun w => if w = v then
      { v.overwritten capacity.toNat floor.toNat pChg.toNat pDis.toNat (decide (consent = 1)) with bayLink := link }
      else w) : le1 (bayCode (t.linkOf number.toNat)) = le1 (bayCode link) := by
    rw [← hnumber, State.linkOf_of_roster hnodup hmem ?_ hroster]
    rfl
  rw [exec_enrollVehicle, hrun]
  cases hb : v.bayLink with
  | none =>
    obtain ⟨link, hroster, hwaiting, hnotices, hframe⟩ := State.replaceVehicle_unlinked (capacity := capacity.toNat)
      (floor := floor.toNat) (pChg := pChg.toNat) (pDis := pDis.toNat) (consent := decide (consent = 1)) hlinks hfound hb
    refine ⟨_, link, ?_, ?_, fun _ => ⟨hnumber ▸ hwaiting, hnotices⟩, ?_, ?_, State.sameBut.mono hframe (by decide)⟩
    · dsimp only
      rw [hlinkOf hroster, le1_bayCode]
      rfl
    · rw [hroster, ← hnumber]
      rfl
    · intro b hb
      cases hb
    · intro b hb
      cases hb
  | some b =>
    obtain rfl | rfl := hconsent
    · rw [show decide ((0 : Byte) = 1) = false from rfl] at hlinkOf ⊢
      obtain ⟨hroster, hunlinked, hframe⟩ := State.replaceVehicle_lost (capacity := capacity.toNat)
        (floor := floor.toNat) (pChg := pChg.toNat) (pDis := pDis.toNat) hlinks hfound hb
      refine ⟨_, none, ?_, ?_, ?_, ?_, ?_, State.sameBut.mono hframe (by decide)⟩
      · dsimp only
        rw [hlinkOf hroster, le1_bayCode]
        rfl
      · refine hroster.trans ?_
        rw [← hnumber]
        rfl
      · intro hb
        cases hb
      · intro c hc hone
        exact absurd hone (by decide)
      · intro c hc _
        cases hc
        exact ⟨rfl, hunlinked⟩
    · rw [show decide ((1 : Byte) = 1) = true from rfl] at hlinkOf ⊢
      obtain ⟨hroster, hothers, hbay, hnotices, hframe⟩ := State.replaceVehicle_refreshed (capacity := capacity.toNat)
        (floor := floor.toNat) (pChg := pChg.toNat) (pDis := pDis.toNat) hlinks hfound hb
      have hwritten : (s.replaceVehicle v capacity.toNat floor.toNat pChg.toNat pDis.toNat true).roster
          = s.roster.map fun w => if w = v then { v.overwritten capacity.toNat floor.toNat pChg.toNat pDis.toNat true with
              bayLink := some b } else w := by
        rw [hroster, ← hb]
        rfl
      refine ⟨_, some b, ?_, ?_, ?_, ?_, ?_, State.sameBut.mono hframe (by decide)⟩
      · dsimp only
        rw [hlinkOf hwritten, le1_bayCode]
        rfl
      · refine hwritten.trans ?_
        rw [← hnumber]
        rfl
      · intro hb
        cases hb
      · intro c hc _
        cases hc
        exact ⟨rfl, hothers, ⟨_, hbay, rfl⟩, hnotices⟩
      · intro c hc hzero
        exact absurd hzero (by decide)

end Sys2Proof.Proofs
end

section

/-!
SUPPORT. A valid reply: the telemetry written with the caps formed from it, and what its checks, the exit test, the
reserve guard and the notice leave alone (R19, R139, R140).
-/

namespace Sys2Proof.Machine

/-! ### The telemetry written (R19, R42, R139) -/

/-- The part that takes a valid reply, its exchange ended and its miss count 0. -/
def State.answered (s : State) (x : Exchange) : State :=
  { s with exchange := none }.setLine x.bay { s.line x.bay with miss := 0 }

/-- The part with a valid reply's telemetry written: the exchange ended, the miss count 0, the caps formed. -/
def State.heard (s : State) (x : Exchange) (bytes : List Byte) : State :=
  ((s.answered x).modBay x.bay fun r =>
    { r with tele := decodeTelemetry bytes ((s.linkedVehicle? x.bay).map fun v : Vehicle => v.capacity) }).recomputeCaps x.bay

/-- What follows the transitions of a valid reply: the checks, the exit test, the reserve guard and the notice. -/
def State.afterReply (s : State) (b : BayNo) (answered : Nat) (left : BayState) : State :=
  (((s.checkReply b answered).exitAtReply b).reserveGuard b).handIfChanged b left

section
variable {s : State} {x : Exchange} {bytes : List Byte} {b : BayNo}

theorem State.takeReply_eq (s : State) (b : BayNo) (tele : Telemetry) (answered : Nat) : s.takeReply b tele answered =
    (((s.modBay b fun r => { r with tele := tele }).recomputeCaps b).replyTransition b
      (s.bay b).tele.vehicle).afterReply b answered (s.bay b).state := rfl

theorem State.bay_answered (s : State) (x : Exchange) (c : BayNo) : (s.answered x).bay c = s.bay c := rfl

theorem exec_validReply (h : s.validReply x bytes) : exec (.replyReceived bytes false) s =
    .next (((s.heard x bytes).replyTransition x.bay (s.bay x.bay).tele.vehicle).afterReply x.bay x.setPoint
      (s.bay x.bay).state) := by
  obtain ⟨hexchange, hlistening, hlength, hcrc, haddress⟩ := h
  have haccepts : x.accepts bytes false = true := (x.accepts_iff bytes false).mpr ⟨rfl, hcrc, haddress⟩
  change execReplyReceived bytes false s = _
  simp only [execReplyReceived, hexchange, if_pos (And.intro hlistening hlength), if_pos haccepts]
  exact congrArg Host.Outcome.next ((s.answered x).takeReply_eq x.bay _ x.setPoint)

theorem State.heard_frame (s : State) (x : Exchange) (bytes : List Byte) :
    s.sameBut (s.heard x bytes) [.bays, .lines, .exchange] := by
  have hanswered : s.sameBut (s.answered x) [.lines, .exchange] := by
    intro p hp
    cases p <;> first | rfl | simp at hp
  exact ((hanswered.mono (by decide)).then (State.modBay_frame _ _ _)
    (by decide)).then (State.recomputeCaps_frame _ _) (by decide)

theorem State.heard_other (s : State) (x : Exchange) (bytes : List Byte) : s.otherBays (s.heard x bytes) x.bay := by
  have hanswered : s.otherBays (s.answered x) x.bay := fun _ _ => ⟨rfl, rfl, rfl⟩
  exact (hanswered.trans (State.modBay_other _ _ _)).trans
    (State.recomputeCaps_other _ _)

theorem State.exchange_heard (s : State) (x : Exchange) (bytes : List Byte) : (s.heard x bytes).exchange = none := by
  simp [State.heard, State.answered, State.recomputeCaps]

theorem State.line_heard (s : State) (x : Exchange) (bytes : List Byte) :
    (s.heard x bytes).line x.bay = { s.line x.bay with miss := 0 } := by
  simp [State.heard, State.answered, State.recomputeCaps]

end
/-! ### What a bay holds of its bus: link, telemetry and caps -/

def BayRecord.stock (r : BayRecord) : Option Nat × Telemetry × Nat × Nat × Nat :=
  (r.link, r.tele, r.ratedCap, r.tempCap, r.capEff)

/-- From `s` to `t` no bay's link, telemetry or caps changed, nor what they are formed from. -/
def State.sameStock (s t : State) : Prop :=
  (∀ c, (t.bay c).stock = (s.bay c).stock) ∧ t.roster = s.roster ∧ t.site = s.site ∧ t.siteValid = s.siteValid

theorem BayRecord.stock_of_core {r r' : BayRecord} (h : r'.core = r.core) : r'.stock = r.stock :=
  congrArg (fun x => x.2) h

theorem State.sameStock_refl (s : State) : s.sameStock s := ⟨fun _ => rfl, rfl, rfl, rfl⟩

theorem State.stock_modBay {s : State} {b : BayNo} {f : BayRecord → BayRecord} (h : (f (s.bay b)).stock = (s.bay b).stock)
    (c : BayNo) : ((s.modBay b f).bay c).stock = (s.bay c).stock := by
  by_cases hc : c = b
  · rw [hc, State.bay_modBay, h]
  · rw [State.bay_modBay_ne _ _ hc]

@[simp] theorem State.stock_setBayState (s : State) (b : BayNo) (st : BayState) (c : BayNo) :
    ((s.setBayState b st).bay c).stock = (s.bay c).stock := by
  by_cases hc : c = b
  · subst hc
    rw [State.bay_setBayState]
    split <;> rfl
  · rw [(s.setBayState_other b st c hc).1]

theorem sameStock_opClosed (s : State) : OpClosed s.sameStock where
  modBay b _ hcore h := ⟨fun c => (State.stock_modBay (BayRecord.stock_of_core (hcore _)) c).trans (h.1 c), h.2⟩
  modFault _ _ h := h
  noOrder _ h := h
  setOrder _ _ h := h
  setBayState _ _ h := ⟨fun c => by rw [State.stock_setBayState, h.1], by simpa using h.2⟩
  hand _ h := h
  join b h := ⟨fun c => by rw [State.bay_join, h.1], by simpa using h.2⟩
  markBay _ h := h
  raiseFleet _ h := h

section
variable {s t u : State} {b : BayNo} {v : Vehicle}

theorem State.sameStock.link (h : s.sameStock t) (c : BayNo) : (t.bay c).link = (s.bay c).link :=
  congrArg (·.1) (h.1 c)

theorem State.sameStock.tele (h : s.sameStock t) (c : BayNo) : (t.bay c).tele = (s.bay c).tele :=
  congrArg (·.2.1) (h.1 c)

theorem State.sameStock.ratedCap (h : s.sameStock t) (c : BayNo) : (t.bay c).ratedCap = (s.bay c).ratedCap :=
  congrArg (·.2.2.1) (h.1 c)

theorem State.sameStock.tempCap (h : s.sameStock t) (c : BayNo) : (t.bay c).tempCap = (s.bay c).tempCap :=
  congrArg (·.2.2.2.1) (h.1 c)

theorem State.sameStock.capEff (h : s.sameStock t) (c : BayNo) : (t.bay c).capEff = (s.bay c).capEff :=
  congrArg (·.2.2.2.2) (h.1 c)

theorem State.sameStock.vehicle? (h : s.sameStock t) (n : Nat) : t.vehicle? n = s.vehicle? n := by
  rw [State.vehicle?, State.vehicle?, h.2.1]

theorem State.sameStock.linkedVehicle? (h : s.sameStock t) (c : BayNo) : t.linkedVehicle? c = s.linkedVehicle? c := by
  rw [State.linkedVehicle?, State.linkedVehicle?, h.link, funext h.vehicle?]

theorem State.sameStock.tempCapOf (h : s.sameStock t) (c : BayNo) (cap : Nat) : t.tempCapOf c cap = s.tempCapOf c cap := by
  obtain ⟨-, -, hsite, hvalid⟩ := id h
  rw [State.tempCapOf, State.tempCapOf, h.tele, hsite, hvalid]

/-- The clearing of a link and the making of one read and write the stock alone. -/
theorem State.sameStock.clearLink (h : s.sameStock t) : (s.clearLink b).sameStock (t.clearLink b) := by
  cases hn : (s.bay b).link with
  | none => rwa [State.clearLink_none hn, State.clearLink_none ((h.link b).trans hn)]
  | some n =>
    have hn' := (h.link b).trans hn
    refine ⟨fun c => ?_, ?_, ?_, ?_⟩
    · by_cases hc : c = b
      · rw [hc, State.bay_clearLink hn, State.bay_clearLink hn']
        simp [BayRecord.stock, h.tele, h.ratedCap, h.tempCapOf]
      · rw [(s.clearLink_other b c hc).1, (t.clearLink_other b c hc).1, h.1]
    · rw [State.roster_clearLink hn, State.roster_clearLink hn', h.2.1]
    · rw [State.clearLink_site, State.clearLink_site, h.2.2.1]
    · rw [State.clearLink_siteValid, State.clearLink_siteValid, h.2.2.2]

theorem State.sameStock.linkBay (h : s.sameStock t) (hv : s.vehicle? v.number = some v) :
    (s.linkBay b v).sameStock (t.linkBay b v) := by
  refine ⟨fun c => ?_, ?_, ?_, ?_⟩
  · by_cases hc : c = b
    · rw [hc, State.bay_linkBay hv, State.bay_linkBay ((h.vehicle? _).trans hv)]
      simp [BayRecord.stock, h.tele, h.ratedCap, h.tempCapOf]
    · rw [(s.linkBay_other b v c hc).1, (t.linkBay_other b v c hc).1, h.1]
  · rw [State.roster_linkBay, State.roster_linkBay, h.2.1]
  · rw [State.linkBay_site, State.linkBay_site, h.2.2.1]
  · rw [State.linkBay_siteValid, State.linkBay_siteValid, h.2.2.2]

end

/-! ### The checks of a reply (R113, R114, R122) -/

section
variable {s t u : State} {b : BayNo} {answered : Nat} {left : BayState}

/-- The tracking count that a reply leaves. -/
def State.tracked (s : State) (b : BayNo) (answered : Nat) : State :=
  s.modFault b fun f => { f with tracking := (s.trackingCheck b answered).1 }

theorem State.checkReply_undetecting (h : (s.bay b).state.detecting = false) : s.checkReply b answered = s :=
  if_neg (by simp [h])

theorem State.checkReply_none (h : (s.bay b).state.detecting = true) (hcauses : s.replyCauses b answered = []) :
    s.checkReply b answered = s.tracked b answered := by
  rw [State.checkReply, if_pos h, hcauses]
  rfl

theorem State.checkReply_some (h : (s.bay b).state.detecting = true) {first : FaultKind} {others : List FaultKind}
    (hcauses : s.replyCauses b answered = first :: others) :
    s.checkReply b answered = (s.tracked b answered).takeFault b first others := by
  rw [State.checkReply, if_pos h, hcauses]
  rfl

theorem State.bay_tracked (s : State) (b c : BayNo) : (s.tracked b answered).bay c = s.bay c := rfl

/-- The checks of a reply leave no bay in FAULT without a hold, unless it stood there. -/
theorem State.exitAtReply_checkReply (h : (s.bay b).state ≠ .fault) :
    (s.checkReply b answered).exitAtReply b = s.checkReply b answered := by
  refine if_neg ?_
  rintro ⟨hstate, hhold⟩
  cases hdetecting : (s.bay b).state.detecting with
  | false =>
    rw [State.checkReply_undetecting hdetecting] at hstate
    exact h hstate
  | true =>
    cases hcauses : s.replyCauses b answered with
    | nil =>
      rw [State.checkReply_none hdetecting hcauses] at hstate
      exact h hstate
    | cons first others =>
      rw [State.checkReply_some hdetecting hcauses] at hstate hhold
      by_cases hout : (s.bay b).state = .outOfService
      · rw [State.takeFault_out (by simpa [State.bay_tracked] using hout), (State.faultInOut_keeps ..).1,
          State.bay_tracked] at hstate
        exact h hstate
      · have hfaultable : ((s.tracked b answered).bay b).state.faultable = true := by
          rw [State.bay_tracked]
          simp [BayState.faultable, hdetecting, h, hout]
        rw [State.takeFault_entering hfaultable] at hstate hhold
        rw [State.bay_enterFault _ _ (by rwa [State.bay_tracked])] at hstate
        rw [State.faultSet_enterFault _ _ (by rwa [State.bay_tracked])] at hhold
        dsimp only at hstate hhold
        split at hstate
        · cases hstate
        case isFalse hstays => simp [hstays] at hhold

theorem State.afterReply_settled (h : (s.bay b).state ≠ .fault) : s.afterReply b answered left =
    ((s.checkReply b answered).reserveGuard b).handIfChanged b left := by
  rw [State.afterReply, State.exitAtReply_checkReply h]

/-! ### What becomes of a link at a valid reply (R12, R21, R22, R39) -/

/-- A state that differs from `s` by the clearing or the making of the bay's link at most; a link is made with a
vehicle of the number reported. -/
def State.linkOrigin (s : State) (b : BayNo) (x : State) : Prop :=
  x = s ∨ x = s.clearLink b
    ∨ (s.bay b).link = none ∧ ∃ v, s.vehicle? v.number = some v ∧ x = s.linkBay b v

/-- From `s` to `t` the bay's link was kept, cleared or made, and nothing else of its stock changed. -/
def State.linkFate (s t : State) (b : BayNo) : Prop := ∃ x, s.linkOrigin b x ∧ x.sameStock t

theorem State.linkFate_enterParked (h : s.sameStock t) : s.linkFate (t.enterParked b) b := by
  have hparks : s.sameStock (t.parks b) :=
    (sameStock_opClosed s).leaves (by decide) ((sameStock_opClosed s).modBay b (fun _ => rfl) h)
  rw [State.enterParked_eq]
  obtain ⟨-, ht⟩ | ⟨hnone, v, hv, -, -, ht⟩ | ⟨-, -, ht⟩ := (t.parks b).testLink_cases b
  · rw [ht]
    exact ⟨s, .inl rfl, hparks⟩
  · rw [hparks.vehicle?] at hv
    have hown : s.vehicle? v.number = some v := by rw [(State.vehicle?_number hv).2]; exact hv
    rw [ht]
    exact ⟨s.linkBay b v, .inr (.inr ⟨(hparks.link b).symm.trans hnone, v, hown, rfl⟩), hparks.linkBay hown⟩
  · rw [ht]
    exact ⟨s, .inl rfl, hparks⟩

theorem State.sameStock_afterReply (h : s.sameStock t) (hne : (t.bay b).state ≠ .fault) :
    s.sameStock (t.afterReply b answered left) := by
  have hclosed := sameStock_opClosed s
  rw [State.afterReply_settled hne]
  exact hclosed.handIfChanged b _ (hclosed.reserveGuard b (hclosed.checkReply b _ h))

theorem State.linkFate_afterReply (h : s.sameStock t) : s.linkFate (t.afterReply b answered left) b := by
  have hchecked := (sameStock_opClosed s).checkReply b answered h
  have hexit : s.linkFate ((t.checkReply b answered).exitAtReply b) b := by
    unfold State.exitAtReply State.tryExit
    split
    · split
      · exact State.linkFate_enterParked ((sameStock_opClosed s).setFaultSet b _ hchecked)
      · exact ⟨s, .inl rfl, hchecked⟩
    · exact ⟨s, .inl rfl, hchecked⟩
  obtain ⟨x, hx, hsame⟩ := hexit
  have hclosed := sameStock_opClosed x
  exact ⟨x, hx, hclosed.handIfChanged b _ (hclosed.reserveGuard b hsame)⟩

theorem State.sameStock_unplug (s : State) (b : BayNo) : (s.clearLink b).sameStock (s.unplug b) := by
  have hclosed := sameStock_opClosed (s.clearLink b)
  have hdropped : s.sameStock (s.dropOrder b (some .unplug) true) :=
    (sameStock_opClosed s).dropOrder b _ true s.sameStock_refl
  have hcleared := hclosed.stopTimers b hdropped.clearLink
  exact hclosed.leaves (by decide) (hclosed.modFault b _ (hclosed.modBay b (fun _ => rfl) hcleared))

end

end Sys2Proof.Machine
end

section

/-!
SUPPORT. The transitions of a valid reply, one by one, and what they leave at the other bays and of the bay's link (R19).
-/

namespace Sys2Proof.Machine

/-! ### The other bays -/

section
variable {s t : State} {b : BayNo}

theorem State.endReleaseIf_other (s : State) (b : BayNo) (ends : Bool) : s.otherBays (s.endReleaseIf b ends) b := by
  cases ends
  · exact s.otherBays_refl b
  · exact s.endRelease_other b

theorem State.replySameBus_other (s : State) (b : BayNo) : s.otherBays (s.replySameBus b) b := by
  unfold State.replySameBus
  dsimp only
  split
  · split
    · exact (s.modBay_other b _).trans (State.setBayState_other _ b _)
    · exact s.otherBays_refl b
  · split
    · exact (s.modBay_other b _).trans (State.setBayState_other _ b _)
    · exact s.takeFault_other b _ _
    · exact s.otherBays_refl b
    · exact s.otherBays_refl b
  · split
    · exact s.otherBays_refl b
    · exact ((s.endRelease_other b).trans (State.modBay_other _ b _)).trans (State.setBayState_other _ b _)
  · exact s.endReleaseIf_other b _
  all_goals exact s.otherBays_refl b

theorem State.replyTransition_other (s : State) (b : BayNo) (before : Nat) :
    s.otherBays (s.replyTransition b before) b := by
  have hplugged : s.otherBays (s.replyPlugged b before) b := by
    unfold State.replyPlugged
    split
    · exact s.unplug_other b
    · split
      · exact (s.unplug_other b).trans (State.detect_other _ b)
      · exact s.replySameBus_other b
  unfold State.replyTransition
  split
  case h_1 =>
    unfold State.replyEmpty
    split
    · exact s.detect_other b
    · exact s.otherBays_refl b
  case h_2 =>
    unfold State.replyDetected
    split
    · exact s.setBayState_other b _
    · split
      · exact s.enterParked_other b
      · exact (s.setBayState_other b _).trans (State.detect_other _ b)
  case h_3 =>
    unfold State.replyOutOfService
    dsimp only
    split
    · exact (s.endReleaseIf_other b _).trans (State.clearLink_other _ b)
    · exact s.endReleaseIf_other b _
  all_goals exact hplugged

theorem State.afterReply_other (s : State) (b : BayNo) (answered : Nat) (left : BayState) :
    s.otherBays (s.afterReply b answered left) b := by
  have hchecked : s.otherBays (s.checkReply b answered) b := by
    unfold State.checkReply
    split
    · cases s.replyCauses b answered with
      | nil => exact s.modFault_other b _
      | cons first others => exact (s.modFault_other b _).trans (State.takeFault_other _ b _ _)
    · exact s.otherBays_refl b
  have hexit (u : State) : u.otherBays (u.exitAtReply b) b := by
    unfold State.exitAtReply
    split
    · exact u.tryExit_other b
    · exact u.otherBays_refl b
  have hguard (u : State) : u.otherBays (u.reserveGuard b) b := by
    unfold State.reserveGuard
    split
    · split
      · split
        · split
          · exact (u.setOrder_other b _).trans (State.raiseFleet_other _ _ b)
          · exact u.otherBays_refl b
        · exact u.otherBays_refl b
      · exact u.otherBays_refl b
    · exact u.otherBays_refl b
  exact ((hchecked.trans (hexit _)).trans (hguard _)).trans (State.handIfChanged_other _ b _ b)

/-! ### The transitions by the bay's state -/

theorem State.replyTransition_empty (h : (s.bay b).state = .empty) (before : Nat) :
    s.replyTransition b before = if (s.bay b).tele.plug then s.detect b else s := by
  simp only [State.replyTransition, h]
  rfl

theorem State.replyTransition_detected (h : (s.bay b).state = .detected) (before : Nat) :
    s.replyTransition b before = s.replyDetected b := by
  simp only [State.replyTransition, h]

theorem State.replyTransition_out (h : (s.bay b).state = .outOfService) (before : Nat) :
    s.replyTransition b before = s.replyOutOfService b := by
  simp only [State.replyTransition, h]

theorem State.replyTransition_plugged (hempty : (s.bay b).state ≠ .empty) (hdetected : (s.bay b).state ≠ .detected)
    (hout : (s.bay b).state ≠ .outOfService) (before : Nat) :
    s.replyTransition b before = s.replyPlugged b before := by
  unfold State.replyTransition
  split
  case h_1 h => exact (hempty h).elim
  case h_2 h => exact (hdetected h).elim
  case h_3 h => exact (hout h).elim
  all_goals rfl

theorem State.replyPlugged_out (h : (s.bay b).tele.plug = false) (before : Nat) :
    s.replyPlugged b before = s.unplug b := if_pos h

theorem State.replyPlugged_other (h : (s.bay b).tele.plug = true) {before : Nat}
    (hnumber : (s.bay b).tele.vehicle ≠ heldNumber (s.bay b).link before) :
    s.replyPlugged b before = (s.unplug b).detect b := by
  rw [State.replyPlugged, if_neg (by simp [h]), if_pos hnumber]

theorem State.replyPlugged_same (h : (s.bay b).tele.plug = true) {before : Nat}
    (hnumber : (s.bay b).tele.vehicle = heldNumber (s.bay b).link before) :
    s.replyPlugged b before = s.replySameBus b := by
  rw [State.replyPlugged, if_neg (by simp [h]), if_neg (not_not_intro hnumber)]

theorem State.state_unplug (s : State) (b : BayNo) : ((s.unplug b).bay b).state = .empty := by
  rw [State.unplug, State.state_setBayState_self]

theorem State.state_endReleaseIf (s : State) (b : BayNo) (ends : Bool) :
    ((s.endReleaseIf b ends).bay b).state = (s.bay b).state := by
  cases ends
  · rfl
  · simp [State.endReleaseIf, State.endRelease]

theorem State.state_replyOutOfService (s : State) (b : BayNo) :
    ((s.replyOutOfService b).bay b).state = (s.bay b).state := by
  unfold State.replyOutOfService
  dsimp only
  split
  · rw [State.state_clearLink, State.state_endReleaseIf]
  · rw [State.state_endReleaseIf]

/-! ### What becomes of the link -/

theorem State.linkFate_of_settled {x : State} (hx : s.linkOrigin b x) (h : x.sameStock t)
    (hne : (t.bay b).state ≠ .fault) (answered : Nat) (left : BayState) :
    s.linkFate (t.afterReply b answered left) b := ⟨x, hx, State.sameStock_afterReply h hne⟩

theorem State.linkFate_reply (s : State) (b : BayNo) (before answered : Nat) (left : BayState) :
    s.linkFate ((s.replyTransition b before).afterReply b answered left) b := by
  have hclosed := sameStock_opClosed s
  have hrefl := s.sameStock_refl
  have hcleared := sameStock_opClosed (s.clearLink b)
  by_cases hempty : (s.bay b).state = .empty
  · rw [State.replyTransition_empty hempty]
    split
    · exact State.linkFate_afterReply (hclosed.detect b hrefl)
    · exact State.linkFate_afterReply hrefl
  by_cases hdetected : (s.bay b).state = .detected
  · rw [State.replyTransition_detected hdetected]
    unfold State.replyDetected
    split
    · exact State.linkFate_afterReply (hclosed.leaves (by decide) hrefl)
    · split
      · obtain ⟨x, hx, hsame⟩ := State.linkFate_enterParked (b := b) hrefl
        exact State.linkFate_of_settled hx hsame (by simp [State.bay_enterParked, hdetected]) _ _
      · exact State.linkFate_afterReply (hclosed.detect b (hclosed.leaves (by decide) hrefl))
  by_cases hout : (s.bay b).state = .outOfService
  · have hstate : ((s.replyOutOfService b).bay b).state ≠ .fault := by simp [State.state_replyOutOfService, hout]
    rw [State.replyTransition_out hout]
    unfold State.replyOutOfService at hstate ⊢
    dsimp only at hstate ⊢
    split
    case isTrue hclears =>
      rw [if_pos hclears] at hstate
      exact State.linkFate_of_settled (.inr (.inl rfl)) (hclosed.endReleaseIf b _ hrefl).clearLink hstate _ _
    case isFalse => exact State.linkFate_afterReply (hclosed.endReleaseIf b _ hrefl)
  rw [State.replyTransition_plugged hempty hdetected hout]
  unfold State.replyPlugged
  split
  · exact State.linkFate_of_settled (.inr (.inl rfl)) (s.sameStock_unplug b) (by simp [State.state_unplug]) _ _
  · split
    · exact State.linkFate_of_settled (.inr (.inl rfl)) (hcleared.detect b (s.sameStock_unplug b))
        (by simp [State.state_detect]) _ _
    · exact State.linkFate_afterReply (hclosed.replySameBus b hrefl)

end
end Sys2Proof.Machine
end

section

/-!
SUPPORT. What a valid reply leaves of the bay's telemetry, caps and link, and of the rest of the part (O52).
-/

namespace Sys2Proof.Machine

section
variable {s t w : State} {b : BayNo} {v : Vehicle}

theorem State.linkedVehicle?_none (h : (s.bay b).link = none) : s.linkedVehicle? b = none := by
  simp [State.linkedVehicle?, h]

theorem State.effCapOf_linked (h : s.linkedVehicle? b = some v) (cap : Nat) :
    s.effCapOf b cap = min cap (min v.pDis (s.tempCapOf b cap)) := by
  simp only [State.effCapOf, h]

/-- The telemetry that a link's fate leaves: a link made lowers the stored energy to the vehicle's capacity. -/
theorem State.linkFate.tele (h : w.linkFate t b) : ∃ e ≤ (w.bay b).tele.energy,
    (t.bay b).tele = { (w.bay b).tele with energy := e }
      ∧ ((w.bay b).link ≠ none ∨ (t.bay b).link = none → e = (w.bay b).tele.energy) := by
  obtain ⟨x, rfl | rfl | ⟨hfree, v, hv, rfl⟩, hsame⟩ := h
  · exact ⟨_, le_rfl, hsame.tele b, fun _ => rfl⟩
  · exact ⟨_, le_rfl, (hsame.tele b).trans (State.bay_clearLink_kept w b).2.2.1, fun _ => rfl⟩
  · refine ⟨_, Nat.min_le_left _ v.capacity, (hsame.tele b).trans (by rw [State.bay_linkBay hv]), fun hkept => ?_⟩
    obtain hlinked | hnone := hkept
    · exact (hlinked hfree).elim
    · rw [hsame.link, State.bay_linkBay hv] at hnone
      cases hnone

/-- The caps that a link's fate leaves, where they were formed before (R42). -/
theorem State.linkFate.caps (h : w.linkFate t b) (htemp : (w.bay b).tempCap = w.tempCapOf b (w.bay b).ratedCap)
    (hcap : (w.bay b).capEff = w.effCapOf b (w.bay b).ratedCap) :
    (t.bay b).ratedCap = (w.bay b).ratedCap ∧ (t.bay b).tempCap = w.tempCapOf b (w.bay b).ratedCap
      ∧ ((t.bay b).link = none → (t.bay b).capEff = 0)
      ∧ ∀ v, t.linkedVehicle? b = some v →
        (t.bay b).capEff = min (w.bay b).ratedCap (min v.pDis (w.tempCapOf b (w.bay b).ratedCap)) := by
  obtain ⟨x, rfl | rfl | ⟨hfree, v, hv, rfl⟩, hsame⟩ := h
  · refine ⟨hsame.ratedCap b, (hsame.tempCap b).trans htemp, fun hnone => ?_, fun v hv => ?_⟩
    · rw [hsame.capEff, hcap, State.effCapOf_unlinked ((hsame.link b).symm.trans hnone)]
    · rw [hsame.capEff, hcap, State.effCapOf_linked ((hsame.linkedVehicle? b).symm.trans hv)]
  · have hnone := (hsame.link b).trans (State.bay_clearLink_kept w b).1
    cases hn : (w.bay b).link with
    | none =>
      rw [State.clearLink_none hn] at hsame
      refine ⟨hsame.ratedCap b, (hsame.tempCap b).trans htemp, fun _ => ?_, fun v hv => ?_⟩
      · rw [hsame.capEff, hcap, State.effCapOf_unlinked hn]
      · rw [State.linkedVehicle?_none hnone] at hv
        cases hv
    | some n =>
      rw [hsame.ratedCap, hsame.tempCap, hsame.capEff, State.bay_clearLink hn]
      refine ⟨rfl, rfl, fun _ => rfl, fun v hv => ?_⟩
      rw [State.linkedVehicle?_none hnone] at hv
      cases hv
  · rw [hsame.ratedCap, hsame.tempCap, hsame.capEff, hsame.link, hsame.linkedVehicle?, State.bay_linkBay hv,
      State.linkedVehicle?_linkBay hv]
    refine ⟨rfl, rfl, fun hnone => ?_, fun u hu => ?_⟩
    · cases hnone
    · cases hu
      rfl

end

/-! ### The telemetry of a reply (R139, R179) -/

theorem code_checkOfCode (n : Nat) : (checkOfCode (n % 4)).code = n % 4 := by
  have hlt := Nat.mod_lt n (show 0 < 4 by decide)
  generalize n % 4 = k at hlt ⊢
  interval_cases k <;> rfl

section
variable {s : State} {x : Exchange} {bytes : List Byte}

/-- The telemetry written at a valid reply. -/
def State.reportedTele (s : State) (x : Exchange) (bytes : List Byte) : Telemetry :=
  decodeTelemetry bytes ((s.linkedVehicle? x.bay).map fun v : Vehicle => v.capacity)

/-- Forming the caps reads nothing that it writes. -/
theorem State.tempCapOf_recomputeCaps (s : State) (b : BayNo) (cap : Nat) :
    (s.recomputeCaps b).tempCapOf b cap = s.tempCapOf b cap := by
  have htele : ((s.recomputeCaps b).bay b).tele = (s.bay b).tele := by rw [State.bay_recomputeCaps]
  have hframe := s.recomputeCaps_frame b
  rw [State.tempCapOf, State.tempCapOf, htele, hframe.site (by decide), hframe.siteValid (by decide)]

theorem State.effCapOf_recomputeCaps (s : State) (b : BayNo) (cap : Nat) :
    (s.recomputeCaps b).effCapOf b cap = s.effCapOf b cap := by
  have hlink : ((s.recomputeCaps b).bay b).link = (s.bay b).link := by rw [State.bay_recomputeCaps]
  have hvehicle : (s.recomputeCaps b).linkedVehicle? b = s.linkedVehicle? b := by
    rw [State.linkedVehicle?, State.linkedVehicle?, hlink]
    rfl
  simp only [State.effCapOf, hvehicle, State.tempCapOf_recomputeCaps]

theorem State.bay_heard (s : State) (x : Exchange) (bytes : List Byte) : (s.heard x bytes).bay x.bay = { s.bay x.bay with
    tele := s.reportedTele x bytes
    tempCap := (s.heard x bytes).tempCapOf x.bay (s.bay x.bay).ratedCap
    capEff := (s.heard x bytes).effCapOf x.bay (s.bay x.bay).ratedCap } := by
  have hbay := State.bay_recomputeCaps ((s.answered x).modBay x.bay fun r => { r with tele := s.reportedTele x bytes }) x.bay
  rw [State.bay_modBay, State.bay_answered] at hbay
  rw [State.heard, State.tempCapOf_recomputeCaps, State.effCapOf_recomputeCaps]
  exact hbay

theorem State.tempCapOf_heard (s : State) (x : Exchange) (bytes : List Byte) (cap : Nat) :
    (s.heard x bytes).tempCapOf x.bay cap
      = if s.siteValid = true then derate s.site cap (s.reportedTele x bytes).temp else 0 := by
  have hframe := s.heard_frame x bytes
  rw [State.tempCapOf, State.bay_heard, hframe.site (by decide), hframe.siteValid (by decide)]

theorem State.linkedVehicle?_heard (s : State) (x : Exchange) (bytes : List Byte) :
    (s.heard x bytes).linkedVehicle? x.bay = s.linkedVehicle? x.bay := by
  have hroster : (s.heard x bytes).roster = s.roster := (s.heard_frame x bytes).roster (by decide)
  have hvehicle : (s.heard x bytes).vehicle? = s.vehicle? := by
    funext n
    rw [State.vehicle?, State.vehicle?, hroster]
  rw [State.linkedVehicle?, State.linkedVehicle?, State.bay_heard, hvehicle]

/-- The transitions of a reply whose telemetry is written, and what follows them. -/
def State.taken (s : State) (b : BayNo) (before answered : Nat) (left : BayState) : State :=
  (s.replyTransition b before).afterReply b answered left

/-- The part after a valid reply. -/
def State.replied (s : State) (x : Exchange) (bytes : List Byte) : State :=
  (s.heard x bytes).taken x.bay (s.bay x.bay).tele.vehicle x.setPoint (s.bay x.bay).state

theorem State.afterReply_frame (s : State) (b : BayNo) (answered : Nat) (left : BayState) :
    s.sameBut (s.afterReply b answered left) bayEventParts :=
  ((((s.checkReply_frame b answered).mono (by decide)).then (State.exitAtReply_frame _ b) (by decide)).then
    (State.reserveGuard_frame _ b) (by decide)).then (State.handIfChanged_frame _ b left) (by decide)

theorem State.replied_frame (s : State) (x : Exchange) (bytes : List Byte) : s.sameBut (s.replied x bytes)
    [.roster, .bays, .faults, .orders, .notices, .lines, .pollQueue, .exchange, .fleetFlags, .changeSet] :=
  (((s.heard_frame x bytes).mono (by decide)).then (State.replyTransition_frame _ _ _) (by decide)).then
    (State.afterReply_frame _ _ _ _) (by decide)

/-- What the transitions and the checks keep of the link records. -/
theorem State.replied_lines (s : State) (x : Exchange) (bytes : List Byte) :
    (s.heard x bytes).sameBut (s.replied x bytes) bayEventParts :=
  (State.replyTransition_frame _ _ _).then (State.afterReply_frame _ _ _ _) (by decide)

theorem State.replied_other (s : State) (x : Exchange) (bytes : List Byte) :
    s.otherBays (s.replied x bytes) x.bay :=
  ((s.heard_other x bytes).trans (State.replyTransition_other _ _ _)).trans (State.afterReply_other _ _ _ _)

theorem State.linkFate_replied (s : State) (x : Exchange) (bytes : List Byte) :
    (s.heard x bytes).linkFate (s.replied x bytes) x.bay := State.linkFate_reply _ _ _ _ _

end
end Sys2Proof.Machine
end

section

/-!
SUPPORT. The end of a valid reply by the state its transition left, and the transitions themselves (R20, R22, R23, R26,
R30, R34, R39).
-/

namespace Sys2Proof.Machine

/-! ### After the transition -/

section
variable {s : State} {b : BayNo} {answered : Nat} {left : BayState}

theorem State.sameBut.faultAt {s t : State} {ps : List Part} (h : s.sameBut t ps) (hf : .faults ∉ ps) (b : BayNo) :
    t.faultSet b = s.faultSet b := by
  rw [State.faultSet, State.faultSet, h.faults hf]

@[simp] theorem State.bay_handIfChanged (s : State) (b c : BayNo) (left : BayState) :
    (s.handIfChanged b left).bay c = s.bay c := (s.handIfChanged_frame b left).bayAt (by decide) c

@[simp] theorem State.faultSet_handIfChanged (s : State) (b c : BayNo) (left : BayState) :
    (s.handIfChanged b left).faultSet c = s.faultSet c := (s.handIfChanged_frame b left).faultAt (by decide) c

@[simp] theorem State.order_handIfChanged (s : State) (b c : BayNo) (left : BayState) :
    (s.handIfChanged b left).order c = s.order c := (s.handIfChanged_frame b left).orderAt (by decide) c

theorem State.reserveGuard_idle (h : (s.bay b).state ≠ .transfer) : s.reserveGuard b = s := by
  unfold State.reserveGuard
  split
  case h_1 hstate _ _ => exact (h hstate).elim
  case h_2 => rfl

theorem State.exitAtReply_idle (h : (s.bay b).state = .fault → (s.faultSet b).hold ≠ none) : s.exitAtReply b = s :=
  if_neg fun hstands => h hstands.1 hstands.2

/-- A bay in EMPTY or DETECTED is not checked (R113). -/
theorem State.afterReply_undetecting (h : (s.bay b).state.detecting = false) :
    s.afterReply b answered left = s.handIfChanged b left := by
  have hfault : (s.bay b).state ≠ .fault := by
    intro he
    simp [he, BayState.detecting] at h
  have htransfer : (s.bay b).state ≠ .transfer := by
    intro he
    simp [he, BayState.detecting] at h
  rw [State.afterReply_settled hfault, State.checkReply_undetecting h, State.reserveGuard_idle htransfer]

/-- A reply without causes leaves a bay outside TRANSFER as its transition left it (R114, R115). -/
theorem State.afterReply_quiet (h : (s.bay b).state.detecting = true) (htransfer : (s.bay b).state ≠ .transfer)
    (hhold : (s.bay b).state = .fault → (s.faultSet b).hold ≠ none) (hcauses : s.replyCauses b answered = []) :
    s.afterReply b answered left = (s.tracked b answered).handIfChanged b left := by
  have hexit : (s.tracked b answered).exitAtReply b = s.tracked b answered :=
    State.exitAtReply_idle (by simpa [State.tracked] using hhold)
  rw [State.afterReply, State.checkReply_none h hcauses, hexit, State.reserveGuard_idle (by rwa [State.bay_tracked])]

theorem State.trackingCheck_idle (h : (s.bay b).state ≠ .transfer) : s.trackingCheck b answered = (0, false) :=
  if_neg fun htransfer => h htransfer.1

/-- The causes of a reply outside TRANSFER: the code reported and the temperature (R114). -/
theorem State.replyCauses_untracked (h : (s.bay b).state ≠ .transfer) : s.replyCauses b answered =
    (if (s.bay b).tele.faultCode ≠ 0 then [.bayReported] else [])
      ++ (if s.siteValid ∧ s.site.tmax ≤ (s.bay b).tele.temp then [.overTemp] else []) := by
  rw [State.replyCauses, State.trackingCheck_idle h]
  exact List.append_nil _

theorem State.replyCauses_healthy (h : (s.bay b).state ≠ .transfer) (hcode : (s.bay b).tele.faultCode = 0)
    (hcool : s.siteValid = true → (s.bay b).tele.temp < s.site.tmax) : s.replyCauses b answered = [] := by
  rw [State.replyCauses_untracked h, if_neg (not_not_intro hcode), if_neg fun hhot => absurd (hcool hhot.1) (not_lt.mpr hhot.2)]
  rfl

/-! ### The transitions -/

theorem State.bay_detect_cases (s : State) (b : BayNo) : ((s.detect b).bay b).state = .detected
    ∧ ((s.detect b).bay b).candidate = some (s.bay b).tele.vehicle := by
  by_cases h : (s.bay b).state = .detected <;> simp [State.detect, State.bay_setBayState, h, BayRecord.toState]

theorem State.bay_unplug (h : (s.bay b).state ≠ .empty) : (s.unplug b).bay b = { (s.clearLink b).bay b with
    state := .empty, candidate := none, stateTimer := none, settleTimer := none, checkDue := false
    releasePending := false, releaseTimer := none, guardArmed := false } := by
  have hcleared : ((s.dropOrder b (some .unplug) true).clearLink b).bay b = (s.clearLink b).bay b := by
    cases hn : (s.bay b).link with
    | none => rw [State.clearLink_none hn, State.clearLink_none (by simpa using hn), State.bay_dropOrder]
    | some n =>
      rw [State.bay_clearLink hn, State.bay_clearLink (n := n) (by simpa using hn), State.bay_dropOrder, State.tempCapOf,
        State.tempCapOf, State.bay_dropOrder, State.dropOrder_siteValid, State.dropOrder_site]
  have hstate : ((s.clearLink b).bay b).state ≠ .empty := by rwa [State.state_clearLink]
  simp [State.unplug, State.bay_setBayState, hcleared, hstate, BayRecord.toState]

theorem State.faultSet_unplug (s : State) (b : BayNo) : (s.unplug b).faultSet b = { s.faultSet b with
    hold := none, releaseTimedOut := false
    record := if (s.bay b).state = .fault then (s.faultSet b).record.close s.uptime else (s.faultSet b).record
    tracking := if (s.bay b).state = .transfer then 0 else (s.faultSet b).tracking } := by
  by_cases h : (s.bay b).state = .transfer <;>
    simp [State.unplug, State.faultSet_setBayState, State.state_clearLink, h]

theorem State.notices_drop (s : State) (b : BayNo) (cause : EndCause) (m : Bool) :
    (s.dropOrder b (some cause) m).notices = s.notices ++ s.endNotices b cause m := by
  cases h : s.order b with
  | none => rw [State.dropOrder_none s b _ m h, State.endNotices_none h, List.append_nil]
  | some o => rw [State.notices_dropOrder s b _ m o h, State.endNotices_some h]

theorem State.notices_unplug (s : State) (b : BayNo) :
    (s.unplug b).notices = s.notices ++ s.endNotices b .unplug true := by
  simp [State.unplug, State.notices_drop]

theorem State.pollQueue_unplug (s : State) (b : BayNo) : (s.unplug b).pollQueue = s.pollQueue := by
  simp [State.unplug]

theorem State.bay_detect_empty (h : (s.bay b).state = .empty) :
    (s.detect b).bay b = { s.bay b with state := .detected, candidate := some (s.bay b).tele.vehicle } :=
  State.bay_detect (by simp [h])

theorem State.faultSet_detect (h : (s.bay b).state ≠ .transfer) : (s.detect b).faultSet b = s.faultSet b := by
  simp [State.detect, State.faultSet_setBayState, h]

theorem State.bay_completeBind (h : (s.bay b).state ≠ .bound) : (s.completeBind b).bay b = { s.bay b with
    state := .bound, candidate := none, stateTimer := none, settleTimer := some 5, interval := 0, checkDue := false
    bindTime := s.uptime } := by
  simp [State.completeBind, State.bay_setBayState, h, BayRecord.toState, settleTime]

theorem State.bay_passCheck (h : (s.bay b).state ≠ .bound) : (s.passCheck b).bay b = { s.bay b with
    state := .bound, candidate := none, stateTimer := none, interval := 0 } := by
  simp [State.passCheck, State.bay_setBayState, h, BayRecord.toState]

theorem State.bay_endRelease (s : State) (b : BayNo) :
    (s.endRelease b).bay b = { s.bay b with releasePending := false, releaseTimer := none } := by
  simp [State.endRelease]

theorem State.bay_completeRelease (h : (s.bay b).state ≠ .cooldown) : (s.completeRelease b).bay b = { s.bay b with
    state := .cooldown, candidate := none, stateTimer := some 20, releasePending := false, releaseTimer := none } := by
  simp [State.completeRelease, State.bay_setBayState, State.bay_endRelease, h, BayRecord.toState, cooldownTime]

/-! ### The same bus, by the bay's state -/

theorem State.replySameBus_binding (h : (s.bay b).state = .binding) : s.replySameBus b =
    if (s.bay b).tele.contactorClosed && (s.bay b).tele.dcReady then s.completeBind b else s := by
  simp only [State.replySameBus, h]

theorem State.replySameBus_passed (h : (s.bay b).state = .checking) (hcheck : (s.bay b).tele.check = .passed) :
    s.replySameBus b = s.passCheck b := by
  simp only [State.replySameBus, h, hcheck]

theorem State.replySameBus_failed (h : (s.bay b).state = .checking) (hcheck : (s.bay b).tele.check = .failed) :
    s.replySameBus b = s.enterFault b .isolation [] := by
  simp only [State.replySameBus, h, hcheck]
  exact State.takeFault_entering (by rw [h]; rfl) _ _

theorem State.replySameBus_unchecked (h : (s.bay b).state = .checking) (hpassed : (s.bay b).tele.check ≠ .passed)
    (hfailed : (s.bay b).tele.check ≠ .failed) : s.replySameBus b = s := by
  simp only [State.replySameBus, h]
  split
  case h_1 hcheck => exact (hpassed hcheck).elim
  case h_2 hcheck => exact (hfailed hcheck).elim
  all_goals rfl

theorem State.replySameBus_releasing (h : (s.bay b).state = .releasing) : s.replySameBus b =
    if (s.bay b).tele.contactorClosed then s else s.completeRelease b := by
  simp only [State.replySameBus, h]

theorem State.replySameBus_fault (h : (s.bay b).state = .fault) : s.replySameBus b =
    s.endReleaseIf b ((s.bay b).releasePending && !(s.bay b).tele.contactorClosed) := by
  simp only [State.replySameBus, h]

theorem State.replySameBus_idle (h : (s.bay b).state = .parked ∨ (s.bay b).state = .bound ∨ (s.bay b).state = .transfer
    ∨ (s.bay b).state = .cooldown) : s.replySameBus b = s := by
  unfold State.replySameBus
  obtain h | h | h | h := h <;> rw [h]

end
end Sys2Proof.Machine
end

section

/-!
SUPPORT. A valid reply in every state, its telemetry written: what its transition and the rest of its taking leave at
the bay (O52).
-/

namespace Sys2Proof.Machine

/-- The telemetry at a bay gives neither a code nor a hot battery (R114). -/
def State.healthy (s : State) (b : BayNo) : Prop :=
  (s.bay b).tele.faultCode = 0 ∧ (s.siteValid = true → (s.bay b).tele.temp < s.site.tmax)

section
variable {s m : State} {b : BayNo} {before answered : Nat} {left : BayState}

theorem State.healthy.of_sameStock (h : s.healthy b) (hsame : s.sameStock m) : m.healthy b := by
  obtain ⟨-, -, hsite, hvalid⟩ := id hsame
  rwa [State.healthy, hsame.tele, hsite, hvalid]

theorem State.afterReply_healthy (h : m.healthy b) (hdetecting : (m.bay b).state.detecting = true)
    (htransfer : (m.bay b).state ≠ .transfer) (hhold : (m.bay b).state = .fault → (m.faultSet b).hold ≠ none) :
    m.afterReply b answered left = (m.tracked b answered).handIfChanged b left :=
  State.afterReply_quiet hdetecting htransfer hhold (State.replyCauses_healthy htransfer h.1 h.2)

/-- What a reply without causes leaves of the state its transition reached. -/
theorem State.kept_afterReply (h : m.healthy b) (hdetecting : (m.bay b).state.detecting = true)
    (htransfer : (m.bay b).state ≠ .transfer) (hhold : (m.bay b).state = .fault → (m.faultSet b).hold ≠ none) :
    let t := m.afterReply b answered left
    t.bay b = m.bay b ∧ t.order b = m.order b ∧ (t.faultSet b).record = (m.faultSet b).record := by
  dsimp only
  rw [State.afterReply_healthy h hdetecting htransfer hhold]
  simp [State.tracked]

/-! ### EMPTY and DETECTED (R20, R21) -/

theorem State.taken_empty (h : (s.bay b).state = .empty) :
    let t := s.taken b before answered left
    (t.bay b).state = (if (s.bay b).tele.plug then .detected else .empty)
      ∧ ((s.bay b).tele.plug = true → (t.bay b).candidate = some (s.bay b).tele.vehicle) := by
  dsimp only
  rw [State.taken, State.replyTransition_empty h]
  split
  case isTrue hplug =>
    obtain ⟨hstate, hcandidate⟩ := s.bay_detect_cases b
    rw [State.afterReply_undetecting (by rw [hstate]; rfl), State.bay_handIfChanged]
    exact ⟨hstate, fun _ => hcandidate⟩
  case isFalse hplug =>
    rw [State.afterReply_undetecting (by rw [h]; rfl), State.bay_handIfChanged]
    exact ⟨h, fun hp => (hplug hp).elim⟩

theorem State.replyDetected_unplugged (hplug : (s.bay b).tele.plug = false) :
    s.replyDetected b = s.setBayState b .empty := if_pos hplug

theorem State.replyDetected_confirmed (hplug : (s.bay b).tele.plug = true)
    (hnumber : (s.bay b).candidate = some (s.bay b).tele.vehicle) : s.replyDetected b = s.enterParked b := by
  rw [State.replyDetected, if_neg (by simp [hplug]), if_pos hnumber]

theorem State.replyDetected_other (hplug : (s.bay b).tele.plug = true)
    (hnumber : (s.bay b).candidate ≠ some (s.bay b).tele.vehicle) :
    s.replyDetected b = (s.setBayState b .empty).detect b := by
  rw [State.replyDetected, if_neg (by simp [hplug]), if_neg hnumber]

theorem State.taken_detected_unplugged (h : (s.bay b).state = .detected) (hplug : (s.bay b).tele.plug = false) :
    let t := s.taken b before answered left
    (t.bay b).state = .empty ∧ (t.bay b).candidate = none := by
  have hbay : (s.setBayState b .empty).bay b = { s.bay b with state := .empty, candidate := none } := by
    simp [State.bay_setBayState, h, BayRecord.toState]
  dsimp only
  rw [State.taken, State.replyTransition_detected h, State.replyDetected_unplugged hplug,
    State.afterReply_undetecting (by rw [hbay]; rfl), State.bay_handIfChanged, hbay]
  exact ⟨rfl, rfl⟩

theorem State.taken_detected_other (h : (s.bay b).state = .detected) (hplug : (s.bay b).tele.plug = true)
    (hnumber : (s.bay b).candidate ≠ some (s.bay b).tele.vehicle) :
    let t := s.taken b before answered left
    (t.bay b).state = .detected ∧ (t.bay b).candidate = some (s.bay b).tele.vehicle := by
  obtain ⟨hstate, hcandidate⟩ := (s.setBayState b .empty).bay_detect_cases b
  have htele : ((s.setBayState b .empty).bay b).tele = (s.bay b).tele :=
    ((sameStock_opClosed s).leaves (by decide) s.sameStock_refl).tele b
  dsimp only
  rw [State.taken, State.replyTransition_detected h, State.replyDetected_other hplug hnumber,
    State.afterReply_undetecting (by rw [hstate]; rfl), State.bay_handIfChanged]
  exact ⟨hstate, hcandidate.trans (by rw [htele])⟩

/-- The link test of an entry into PARKED changes no telemetry but the stored energy. -/
theorem State.healthy_enterParked (h : s.healthy b) : (s.enterParked b).healthy b := by
  obtain ⟨e, -, htele, -⟩ := (State.linkFate_enterParked (b := b) s.sameStock_refl).tele
  have hframe := s.enterParked_frame b
  rwa [State.healthy, htele, hframe.site (by decide), hframe.siteValid (by decide)]

/-- A confirmed bus parks, where the reply gives no cause (R21). -/
theorem State.taken_detected_confirmed (h : (s.bay b).state = .detected) (hplug : (s.bay b).tele.plug = true)
    (hnumber : (s.bay b).candidate = some (s.bay b).tele.vehicle) (hhealthy : s.healthy b) :
    let t := s.taken b before answered .detected
    (t.bay b).state = .parked ∧ s.parkedLink t b ∧ t.notices = s.notices ++ [.change .bay] := by
  have hne : (s.bay b).state ≠ .parked := by simp [h]
  have hstate := (State.bay_enterParked hne).1
  have hlink := State.parkedLink_enterParked hne
  have hhand : (((s.enterParked b).tracked b answered).handIfChanged b .detected)
      = ((s.enterParked b).tracked b answered).hand (.change .bay) :=
    State.handIfChanged_changed (by rw [State.bay_tracked, hstate]; rfl)
  dsimp only
  rw [State.taken, State.replyTransition_detected h, State.replyDetected_confirmed hplug hnumber,
    State.afterReply_healthy (State.healthy_enterParked hhealthy) (by rw [hstate]; rfl) (by simp [hstate])
      (by simp [hstate]), hhand]
  have hframe : (s.enterParked b).sameBut (((s.enterParked b).tracked b answered).hand (.change .bay)) [.faults, .notices] :=
    (((s.enterParked b).modFault_frame b _).mono (by decide)).then (State.hand_frame _ _) (by decide)
  have hnotices := s.enterParked_notices b
  generalize s.enterParked b = u at *
  refine ⟨?_, hlink.congr rfl rfl rfl (hframe.bayAt (by decide) b) (hframe.roster (by decide))
    (by rw [hframe.fleet (by decide)]), ?_⟩
  · rw [hframe.bayAt (by decide), hstate]
  · rw [← hnotices]
    rfl

/-! ### Unplug and change of bus (R22, R23) -/

/-- The reply of the bus that stands at the bay. -/
def State.sameBus (s : State) (b : BayNo) (before : Nat) : Prop :=
  (s.bay b).tele.plug = true ∧ (s.bay b).tele.vehicle = heldNumber (s.bay b).link before

/-- What an unplug or a change of bus reaches: EMPTY, or DETECTED with the number reported. -/
def State.leaves (s : State) (b : BayNo) : State := if (s.bay b).tele.plug then (s.unplug b).detect b else s.unplug b

theorem State.replyPlugged_leaves (h : ¬s.sameBus b before) : s.replyPlugged b before = s.leaves b := by
  unfold State.leaves
  split
  case isTrue hplug => exact State.replyPlugged_other hplug fun hnumber => h ⟨hplug, hnumber⟩
  case isFalse hplug => exact State.replyPlugged_out (by simpa using hplug) before

theorem State.tele_unplug (s : State) (b : BayNo) : ((s.unplug b).bay b).tele = (s.bay b).tele :=
  ((s.sameStock_unplug b).tele b).trans (s.bay_clearLink_kept b).2.2.1

theorem State.bay_leaves (h : (s.bay b).state ≠ .empty) : (s.leaves b).bay b = { (s.clearLink b).bay b with
    state := if (s.bay b).tele.plug then .detected else .empty
    candidate := if (s.bay b).tele.plug then some (s.bay b).tele.vehicle else none
    stateTimer := none, settleTimer := none, checkDue := false
    releasePending := false, releaseTimer := none, guardArmed := false } := by
  unfold State.leaves
  cases hplug : (s.bay b).tele.plug with
  | true =>
    rw [if_pos rfl, State.bay_detect_empty (s.state_unplug b), State.tele_unplug, State.bay_unplug h]
    simp
  | false => rw [if_neg (by simp), State.bay_unplug h]; simp

theorem State.leaves_frame (s : State) (b : BayNo) : (s.unplug b).sameBut (s.leaves b) bayStateParts := by
  unfold State.leaves
  split
  · exact (s.unplug b).detect_frame b
  · exact (State.sameBut_refl _ []).mono (by decide)

theorem State.faultSet_leaves (s : State) (b : BayNo) : (s.leaves b).faultSet b = (s.unplug b).faultSet b := by
  unfold State.leaves
  split
  · exact State.faultSet_detect (by simp [State.state_unplug])
  · rfl

/-- The notices of an unplug or a change of bus (R24, R107). -/
theorem State.taken_leaves (hempty : (s.bay b).state ≠ .empty) (hdetected : (s.bay b).state ≠ .detected)
    (hout : (s.bay b).state ≠ .outOfService) (h : ¬s.sameBus b before) :
    s.taken b before answered (s.bay b).state = (s.leaves b).hand (.change .bay) := by
  have hbay := State.bay_leaves hempty
  have hundetecting : ((s.leaves b).bay b).state.detecting = false := by
    rw [hbay]
    cases (s.bay b).tele.plug <;> rfl
  rw [State.taken, State.replyTransition_plugged hempty hdetected hout, State.replyPlugged_leaves h,
    State.afterReply_undetecting hundetecting]
  refine State.handIfChanged_changed ?_
  rw [hbay]
  cases (s.bay b).tele.plug <;> simp [handsNotice, hempty, hdetected]

theorem State.order_leaves (s : State) (b : BayNo) : (s.leaves b).order b = none := by
  rw [(s.leaves_frame b).orderAt (by decide), State.order_unplug]

theorem State.notices_leaves (s : State) (b : BayNo) :
    (s.leaves b).notices = s.notices ++ s.endNotices b .unplug true := by
  rw [(s.leaves_frame b).notices (by decide), State.notices_unplug]

theorem State.pollQueue_leaves (s : State) (b : BayNo) : (s.leaves b).pollQueue = s.pollQueue := by
  rw [(s.leaves_frame b).pollQueue (by decide), State.pollQueue_unplug]

/-! ### The same bus -/

theorem State.taken_same (hstate : (s.bay b).state ≠ .empty ∧ (s.bay b).state ≠ .detected ∧ (s.bay b).state ≠ .outOfService)
    (h : s.sameBus b before) : s.taken b before answered left = (s.replySameBus b).afterReply b answered left := by
  obtain ⟨hempty, hdetected, hout⟩ := hstate
  rw [State.taken, State.replyTransition_plugged hempty hdetected hout, State.replyPlugged_same h.1 h.2]

theorem State.healthy_replySameBus (h : s.healthy b) : (s.replySameBus b).healthy b :=
  h.of_sameStock ((sameStock_opClosed s).replySameBus b s.sameStock_refl)

/-- A healthy reply leaves what the transition of the same bus reached. -/
theorem State.taken_healthy (hstate : (s.bay b).state ≠ .empty ∧ (s.bay b).state ≠ .detected ∧ (s.bay b).state ≠ .outOfService)
    (h : s.sameBus b before) (hhealthy : s.healthy b) {m : State} (hm : s.replySameBus b = m)
    (hdetecting : (m.bay b).state.detecting = true) (htransfer : (m.bay b).state ≠ .transfer)
    (hhold : (m.bay b).state = .fault → (m.faultSet b).hold ≠ none) :
    let t := s.taken b before answered left
    t.bay b = m.bay b ∧ t.order b = m.order b ∧ (t.faultSet b).record = (m.faultSet b).record := by
  subst hm
  rw [State.taken_same hstate h]
  exact State.kept_afterReply (State.healthy_replySameBus hhealthy) hdetecting htransfer hhold

theorem State.taken_binding (h : (s.bay b).state = .binding) (hbus : s.sameBus b before) (hhealthy : s.healthy b) :
    let t := s.taken b before answered left
    t.order b = s.order b
    ∧ ((s.bay b).tele.contactorClosed = true → (s.bay b).tele.dcReady = true → t.bay b = { s.bay b with
        state := .bound, candidate := none, stateTimer := none, settleTimer := some 5, interval := 0, checkDue := false
        bindTime := s.uptime })
    ∧ ((s.bay b).tele.contactorClosed = false ∨ (s.bay b).tele.dcReady = false → t.bay b = s.bay b) := by
  have hstate : (s.bay b).state ≠ .empty ∧ (s.bay b).state ≠ .detected ∧ (s.bay b).state ≠ .outOfService := by simp [h]
  have hm := State.replySameBus_binding h
  by_cases hready : (s.bay b).tele.contactorClosed = true ∧ (s.bay b).tele.dcReady = true
  · rw [if_pos (by simp [hready])] at hm
    have hbay : (s.completeBind b).bay b = _ := State.bay_completeBind (by simp [h])
    obtain ⟨hkept, horder, -⟩ := State.taken_healthy (answered := answered) (left := left) hstate hbus hhealthy hm
      (by rw [hbay]; rfl) (by simp [hbay]) (by simp [hbay])
    refine ⟨horder.trans ((s.completeBind_frame b).orderAt (by decide) b), fun _ _ => hkept.trans hbay, fun hnot => ?_⟩
    simp [hready] at hnot
  · rw [if_neg (by simpa using hready)] at hm
    obtain ⟨hkept, horder, -⟩ := State.taken_healthy (answered := answered) (left := left) hstate hbus hhealthy hm
      (by rw [h]; rfl) (by simp [h]) (by simp [h])
    exact ⟨horder, fun hclosed hdc => (hready ⟨hclosed, hdc⟩).elim, fun _ => hkept⟩

theorem State.taken_releasing (h : (s.bay b).state = .releasing) (hbus : s.sameBus b before) (hhealthy : s.healthy b) :
    let t := s.taken b before answered left
    ((s.bay b).tele.contactorClosed = false → t.bay b = { s.bay b with
        state := .cooldown, candidate := none, stateTimer := some 20, releasePending := false, releaseTimer := none })
    ∧ ((s.bay b).tele.contactorClosed = true → t.bay b = s.bay b) := by
  have hstate : (s.bay b).state ≠ .empty ∧ (s.bay b).state ≠ .detected ∧ (s.bay b).state ≠ .outOfService := by simp [h]
  have hm := State.replySameBus_releasing h
  cases hclosed : (s.bay b).tele.contactorClosed with
  | true =>
    rw [if_pos hclosed] at hm
    obtain ⟨hkept, -, -⟩ := State.taken_healthy (answered := answered) (left := left) hstate hbus hhealthy hm
      (by rw [h]; rfl) (by simp [h]) (by simp [h])
    exact ⟨fun hopen => (Bool.noConfusion hopen), fun _ => hkept⟩
  | false =>
    rw [if_neg (by simp [hclosed])] at hm
    have hbay : (s.completeRelease b).bay b = _ := State.bay_completeRelease (by simp [h])
    obtain ⟨hkept, -, -⟩ := State.taken_healthy (answered := answered) (left := left) hstate hbus hhealthy hm
      (by rw [hbay]; rfl) (by simp [hbay]) (by simp [hbay])
    exact ⟨fun _ => hkept.trans hbay, fun hc => Bool.noConfusion hc⟩

theorem State.taken_checking (h : (s.bay b).state = .checking) (hbus : s.sameBus b before) (hhealthy : s.healthy b) :
    let t := s.taken b before answered left
    ((s.bay b).tele.check = .passed → t.bay b = { s.bay b with
        state := .bound, candidate := none, stateTimer := none, interval := 0 })
    ∧ ((s.bay b).tele.check ≠ .passed → (s.bay b).tele.check ≠ .failed → t.bay b = s.bay b)
    ∧ ((s.bay b).tele.check = .failed → ((t.bay b).state = .fault ∨ (t.bay b).state = .outOfService)
        ∧ (t.faultSet b).record.first = some .isolation) := by
  have hstate : (s.bay b).state ≠ .empty ∧ (s.bay b).state ≠ .detected ∧ (s.bay b).state ≠ .outOfService := by simp [h]
  refine ⟨fun hcheck => ?_, fun hpassed hfailed => ?_, fun hcheck => ?_⟩
  · have hbay : (s.passCheck b).bay b = _ := State.bay_passCheck (by simp [h])
    obtain ⟨hkept, -, -⟩ := State.taken_healthy (answered := answered) (left := left) hstate hbus hhealthy
      (State.replySameBus_passed h hcheck) (by rw [hbay]; rfl) (by simp [hbay]) (by simp [hbay])
    exact hkept.trans hbay
  · obtain ⟨hkept, -, -⟩ := State.taken_healthy (answered := answered) (left := left) hstate hbus hhealthy
      (State.replySameBus_unchecked h hpassed hfailed) (by rw [h]; rfl) (by simp [h]) (by simp [h])
    exact hkept
  · have hfault : (s.bay b).state ≠ .fault := by simp [h]
    have hbay := State.bay_enterFault .isolation [] hfault
    have hset := State.faultSet_enterFault .isolation [] hfault
    have hdetecting : ((s.enterFault b .isolation []).bay b).state.detecting = true := by
      rw [hbay]
      dsimp only
      split <;> rfl
    have htransfer : ((s.enterFault b .isolation []).bay b).state ≠ .transfer := by
      rw [hbay]
      dsimp only
      split <;> simp
    have hhold : ((s.enterFault b .isolation []).bay b).state = .fault →
        ((s.enterFault b .isolation []).faultSet b).hold ≠ none := by
      rw [hbay, hset]
      dsimp only
      split <;> simp
    obtain ⟨hkept, -, hrecord⟩ := State.taken_healthy (answered := answered) (left := left) hstate hbus hhealthy
      (State.replySameBus_failed h hcheck) hdetecting htransfer hhold
    rw [hkept, hrecord, hbay, hset]
    refine ⟨?_, rfl⟩
    split
    · exact .inr rfl
    · exact .inl rfl

/-! ### OUT_OF_SERVICE (R39, R120) -/

/-- Out of service the checks of a reply write the fault set and its event alone. -/
theorem State.checkReply_out (h : (s.bay b).state = .outOfService) :
    s.sameBut (s.checkReply b answered) [.faults, .fleetFlags] := by
  have hdetecting : (s.bay b).state.detecting = true := by rw [h]; rfl
  have htracked : s.sameBut (s.tracked b answered) [.faults] := s.modFault_frame b _
  cases hcauses : s.replyCauses b answered with
  | nil =>
    rw [State.checkReply_none hdetecting hcauses]
    exact htracked.mono (by decide)
  | cons first others =>
    rw [State.checkReply_some hdetecting hcauses, State.takeFault_out (by rwa [State.bay_tracked])]
    exact (htracked.mono (by decide)).then ((s.tracked b answered).faultInOut_keeps b first others).2.2 (by decide)

theorem State.afterReply_out (h : (s.bay b).state = .outOfService) :
    s.afterReply b answered .outOfService = s.checkReply b answered := by
  have hbay := (State.checkReply_out (answered := answered) h).bayAt (by decide) b
  rw [State.afterReply_settled (by simp [h]), State.reserveGuard_idle (by simp [hbay, h])]
  exact State.handIfChanged_kept (by rw [hbay, h]; rfl)

theorem State.taken_out (h : (s.bay b).state = .outOfService) :
    (s.replyOutOfService b).sameBut (s.taken b before answered .outOfService) [.faults, .fleetFlags] := by
  have hstate := (s.state_replyOutOfService b).trans h
  rw [State.taken, State.replyTransition_out h, State.afterReply_out hstate]
  exact State.checkReply_out hstate

/-- Whether a reply out of service clears the bay's link (R39). -/
def State.clears (s : State) (b : BayNo) : Prop :=
  (s.bay b).tele.plug = false ∨ (s.bay b).link ≠ none ∧ (s.bay b).link ≠ some (s.bay b).tele.vehicle

theorem State.clears_iff (s : State) (b : BayNo) :
    (!(s.bay b).tele.plug || ((s.bay b).link.isSome && (s.bay b).link != some (s.bay b).tele.vehicle)) = true
      ↔ s.clears b := by
  simp [State.clears, Option.isSome_iff_ne_none]

/-- The part with the release pending of a bay ended, where the reply shows its contactor open (R30). -/
def State.releaseChecked (s : State) (b : BayNo) : State :=
  s.endReleaseIf b ((s.bay b).releasePending && !(s.bay b).tele.contactorClosed)

theorem State.replyOutOfService_clears (h : s.clears b) : s.replyOutOfService b = (s.releaseChecked b).clearLink b :=
  if_pos ((s.clears_iff b).mpr h)

theorem State.replyOutOfService_kept (h : ¬s.clears b) : s.replyOutOfService b = s.releaseChecked b :=
  if_neg (mt (s.clears_iff b).mp h)

/-- The end of a release pending (R30). -/
theorem State.bay_endReleaseIf (s : State) (b : BayNo) (ends : Bool) : (s.endReleaseIf b ends).bay b = { s.bay b with
    releasePending := !ends && (s.bay b).releasePending
    releaseTimer := if ends then none else (s.bay b).releaseTimer } := by
  cases ends
  · rfl
  · simp [State.endReleaseIf, State.bay_endRelease]

theorem State.sameLinks_releaseChecked (s : State) (b : BayNo) : s.sameLinks (s.releaseChecked b) :=
  (sameLinks_requestClosed s).endReleaseIf b _ s.sameLinks_refl

/-- What a clearing of the link leaves of the timers. -/
theorem State.release_clearLink (s : State) (b : BayNo) :
    ((s.clearLink b).bay b).releasePending = (s.bay b).releasePending
    ∧ ((s.clearLink b).bay b).releaseTimer = (s.bay b).releaseTimer := by
  cases hn : (s.bay b).link with
  | none => rw [State.clearLink_none hn]; exact ⟨rfl, rfl⟩
  | some n => rw [State.bay_clearLink hn]; exact ⟨rfl, rfl⟩

theorem State.release_replyOutOfService (s : State) (b : BayNo) :
    ((s.replyOutOfService b).bay b).releasePending = ((s.releaseChecked b).bay b).releasePending
    ∧ ((s.replyOutOfService b).bay b).releaseTimer = ((s.releaseChecked b).bay b).releaseTimer := by
  by_cases h : s.clears b
  · rw [State.replyOutOfService_clears h]
    exact State.release_clearLink _ b
  · rw [State.replyOutOfService_kept h]
    exact ⟨rfl, rfl⟩

/-- With paired links, a reply that clears the link leaves no record that names the bay (R39). -/
theorem State.unlinked_replyOutOfService (hlinks : s.linksAgree) (h : s.clears b) :
    ((s.replyOutOfService b).bay b).link = none ∧ ∀ v ∈ (s.replyOutOfService b).roster, v.bayLink ≠ some b := by
  rw [State.replyOutOfService_clears h]
  have hnone := (State.bay_clearLink_kept (s.releaseChecked b) b).1
  exact ⟨hnone, (State.linksAgree_clearLink b (hlinks.of_sameLinks (s.sameLinks_releaseChecked b))).unnamed hnone⟩

end
end Sys2Proof.Machine
end

section

/-!
SUPPORT. What a valid reply finds of the part before it, and with it the transitions of a valid reply (O52).
-/

namespace Sys2Proof.Machine

section
variable {s : State} {x : Exchange} {bytes : List Byte}

theorem State.state_heard (s : State) (x : Exchange) (bytes : List Byte) :
    ((s.heard x bytes).bay x.bay).state = (s.bay x.bay).state := by
  rw [State.bay_heard]

theorem State.tele_heard (s : State) (x : Exchange) (bytes : List Byte) :
    ((s.heard x bytes).bay x.bay).tele = s.reportedTele x bytes := by
  rw [State.bay_heard]

theorem State.link_heard (s : State) (x : Exchange) (bytes : List Byte) :
    ((s.heard x bytes).bay x.bay).link = (s.bay x.bay).link := by
  rw [State.bay_heard]

/-- The bus that stands at the bay, in the reply's own terms (R23). -/
theorem State.sameBus_heard (s : State) (x : Exchange) (bytes : List Byte) :
    (s.heard x bytes).sameBus x.bay (s.bay x.bay).tele.vehicle ↔ (byteAt bytes 1).getLsbD 7 = true
      ∧ (wordAt bytes 3).toNat = (s.bay x.bay).link.getD (s.bay x.bay).tele.vehicle := by
  rw [State.sameBus, State.tele_heard, State.link_heard]
  rfl

theorem faultCode_reported (s : State) (x : Exchange) (bytes : List Byte) :
    (s.reportedTele x bytes).faultCode = 0 ↔ byteAt bytes 2 = 0 := by
  have hcode : (s.reportedTele x bytes).faultCode = min (byteAt bytes 2).toNat 15 := rfl
  have hzero : byteAt bytes 2 = 0 ↔ (byteAt bytes 2).toNat = 0 := BitVec.toNat_eq
  rw [hcode, hzero]
  omega

/-- A healthy reply, in its own terms (R114). -/
theorem State.healthy_heard (hcode : byteAt bytes 2 = 0)
    (hcool : s.siteValid = true → min 170 ((byteAt bytes 10).toNat - 80 : Int) < s.site.tmax) :
    (s.heard x bytes).healthy x.bay := by
  have hframe := s.heard_frame x bytes
  rw [State.healthy, State.tele_heard, hframe.siteValid (by decide), hframe.site (by decide)]
  exact ⟨(faultCode_reported s x bytes).mpr hcode, hcool⟩

theorem checkOfCode_code (c : CheckStatus) : checkOfCode c.code = c := by
  cases c <;> rfl

/-- The check status of a reply, by its code (R139). -/
theorem check_reported (s : State) (x : Exchange) (bytes : List Byte) {c : CheckStatus} :
    (s.reportedTele x bytes).check = c ↔ (byteAt bytes 1).toNat / 8 % 4 = c.code := by
  have hcode : (s.reportedTele x bytes).check.code = (byteAt bytes 1).toNat / 8 % 4 := code_checkOfCode _
  rw [← hcode]
  refine ⟨congrArg CheckStatus.code, fun he => ?_⟩
  rw [← checkOfCode_code c, ← he, checkOfCode_code]

/-- What an unplug or a change of bus leaves (R22 to R24). -/
theorem State.left_spec {b : BayNo} (hempty : (s.bay b).state ≠ .empty) :
    let t := (s.leaves b).hand (.change .bay)
    t.order b = none ∧ (t.bay b).link = none ∧ (t.bay b).stateTimer = none ∧ (t.bay b).settleTimer = none
    ∧ (t.bay b).releasePending = false ∧ (t.bay b).checkDue = false ∧ (t.bay b).guardArmed = false
    ∧ (t.faultSet b).hold = none ∧ (t.faultSet b).history = (s.faultSet b).history
    ∧ t.notices = s.notices ++ s.endNotices b .unplug true ++ [.change .bay]
    ∧ t.pollQueue = s.pollQueue
    ∧ (t.faultSet b).record = (if (s.bay b).state = .fault ∧ (s.faultSet b).record.status = .opened then
        { (s.faultSet b).record with status := .closed, exit := s.uptime } else (s.faultSet b).record)
    ∧ (t.bay b).state = (if (s.bay b).tele.plug then .detected else .empty)
    ∧ (t.bay b).candidate = (if (s.bay b).tele.plug then some (s.bay b).tele.vehicle else none) := by
  dsimp only
  rw [State.order_hand, State.bay_hand, State.faultSet_hand, State.hand_notices, State.hand_pollQueue, State.order_leaves,
    State.bay_leaves hempty, State.faultSet_leaves, State.faultSet_unplug, State.notices_leaves, State.pollQueue_leaves]
  refine ⟨rfl, (s.bay_clearLink_kept b).1, rfl, rfl, rfl, rfl, rfl, rfl, rfl, rfl, rfl, ?_, rfl, rfl⟩
  by_cases hfault : (s.bay b).state = .fault
  · by_cases hopen : (s.faultSet b).record.status = .opened
    · simp [hfault, hopen, FaultRecord.close]
    · simp [hfault, hopen, FaultRecord.close]
  · simp [hfault]

/-! ### The reply's own terms -/

theorem energy_reported (s : State) (x : Exchange) (bytes : List Byte) :
    (s.reportedTele x bytes).energy ≤ (tripleAt bytes 7).toNat
    ∧ (s.linkedVehicle? x.bay = none → (s.reportedTele x bytes).energy = (tripleAt bytes 7).toNat)
    ∧ ∀ v, s.linkedVehicle? x.bay = some v →
      (s.reportedTele x bytes).energy = min (tripleAt bytes 7).toNat v.capacity := by
  unfold State.reportedTele
  cases s.linkedVehicle? x.bay with
  | none => exact ⟨le_rfl, fun _ => rfl, fun v hv => nomatch hv⟩
  | some v =>
    refine ⟨Nat.min_le_left _ _, fun hnone => ?_, fun u hu => ?_⟩
    · cases hnone
    · cases hu
      rfl

theorem State.link_of_linkedVehicle? {s : State} {b : BayNo} {v : Vehicle} (h : s.linkedVehicle? b = some v) :
    (s.bay b).link ≠ none := by
  intro hnone
  rw [State.linkedVehicle?_none hnone] at h
  cases h

/-- The telemetry that a valid reply leaves (R139). -/
theorem State.tele_replied (s : State) (x : Exchange) (bytes : List Byte) :
    let status := byteAt bytes 1
    let u := ((s.replied x bytes).bay x.bay).tele
    u.plug = status.getLsbD 7 ∧ u.contactorClosed = status.getLsbD 6 ∧ u.dcReady = status.getLsbD 5
      ∧ u.check.code = (status.toNat / 8) % 4 ∧ u.faultCode = min 15 (byteAt bytes 2).toNat
      ∧ u.vehicle = (wordAt bytes 3).toNat ∧ u.power = max (-1200) (min 1200 (wordAt bytes 5).toInt)
      ∧ u.temp = min 170 ((byteAt bytes 10).toNat - 80 : Int)
      ∧ u.energy ≤ (tripleAt bytes 7).toNat
      ∧ ((s.bay x.bay).link = none → ((s.replied x bytes).bay x.bay).link = none →
        u.energy = (tripleAt bytes 7).toNat)
      ∧ ∀ v, s.linkedVehicle? x.bay = some v → u.energy = min (tripleAt bytes 7).toNat v.capacity := by
  obtain ⟨e, hle, htele, hkeeps⟩ := (s.linkFate_replied x bytes).tele
  obtain ⟨hbound, hfree, hlinked⟩ := energy_reported s x bytes
  rw [State.tele_heard] at hle htele hkeeps
  rw [State.link_heard] at hkeeps
  dsimp only
  rw [htele]
  refine ⟨rfl, rfl, rfl, code_checkOfCode _, min_comm _ _, rfl, rfl, rfl, hle.trans hbound, fun hnone hstill => ?_,
    fun v hv => ?_⟩
  · exact (hkeeps (.inr hstill)).trans (hfree (State.linkedVehicle?_none hnone))
  · exact (hkeeps (.inl (State.link_of_linkedVehicle? hv))).trans (hlinked v hv)

/-- The caps that a valid reply leaves (R42). -/
theorem State.caps_replied (s : State) (x : Exchange) (bytes : List Byte) :
    let t := s.replied x bytes
    let r := s.bay x.bay
    (t.bay x.bay).ratedCap = r.ratedCap
      ∧ (t.bay x.bay).tempCap = (if s.siteValid = true then
          derate s.site r.ratedCap (min 170 ((byteAt bytes 10).toNat - 80 : Int)) else 0)
      ∧ ((t.bay x.bay).link = none → (t.bay x.bay).capEff = 0)
      ∧ ∀ v, t.linkedVehicle? x.bay = some v →
        (t.bay x.bay).capEff = min r.ratedCap (min v.pDis (t.bay x.bay).tempCap) := by
  have hrated : ((s.heard x bytes).bay x.bay).ratedCap = (s.bay x.bay).ratedCap := by rw [State.bay_heard]
  have htemp : ((s.heard x bytes).bay x.bay).tempCap = (s.heard x bytes).tempCapOf x.bay (s.bay x.bay).ratedCap := by
    conv_lhs => rw [State.bay_heard]
  have hcap : ((s.heard x bytes).bay x.bay).capEff = (s.heard x bytes).effCapOf x.bay (s.bay x.bay).ratedCap := by
    conv_lhs => rw [State.bay_heard]
  obtain ⟨hkept, hformed, hfree, hlinked⟩ := (s.linkFate_replied x bytes).caps (by rw [hrated, htemp]) (by rw [hrated, hcap])
  rw [hrated, s.tempCapOf_heard] at hformed hlinked
  exact ⟨hkept.trans hrated, hformed, hfree, fun v hv => by rw [hformed]; exact hlinked v hv⟩

/-- A confirmed bus parks with its link tested (R21). -/
theorem State.replied_confirmed (h : (s.bay x.bay).state = .detected) (hplug : (byteAt bytes 1).getLsbD 7 = true)
    (hnumber : (s.bay x.bay).candidate = some (wordAt bytes 3).toNat) (hhealthy : (s.heard x bytes).healthy x.bay) :
    let t := s.replied x bytes
    (t.bay x.bay).state = .parked ∧ s.parkedLink t x.bay ∧ t.notices = s.notices ++ [.change .bay] := by
  have hframe := s.heard_frame x bytes
  have hcandidate : ((s.heard x bytes).bay x.bay).candidate = (s.bay x.bay).candidate := by rw [State.bay_heard]
  obtain ⟨hstate, hlink, hnotices⟩ := State.taken_detected_confirmed (before := (s.bay x.bay).tele.vehicle)
    (answered := x.setPoint) ((s.state_heard x bytes).trans h) (by rw [State.tele_heard]; exact hplug)
    (by rw [hcandidate, State.tele_heard]; exact hnumber) hhealthy
  rw [← h] at hstate hlink hnotices
  refine ⟨hstate, ?_, ?_⟩
  · exact hlink.congr (s.link_heard x bytes).symm (hframe.roster (by decide)).symm
      (congrArg PortState.flags (hframe.fleet (by decide))).symm rfl rfl rfl
  · rw [hframe.notices (by decide)] at hnotices
    exact hnotices

/-- An unplug or a change of bus, in the terms of the part before the reply (R22, R23). -/
theorem State.replied_left (hempty : (s.bay x.bay).state ≠ .empty) (hdetected : (s.bay x.bay).state ≠ .detected)
    (hout : (s.bay x.bay).state ≠ .outOfService) (h : ¬(s.heard x bytes).sameBus x.bay (s.bay x.bay).tele.vehicle) :
    s.replied x bytes = ((s.heard x bytes).leaves x.bay).hand (.change .bay) := by
  have hstate := s.state_heard x bytes
  rw [State.replied, ← hstate]
  exact State.taken_leaves (by rwa [hstate]) (by rwa [hstate]) (by rwa [hstate]) h

/-- What a reply of the same bus leaves in a bay out of service (R30, R39). -/
theorem State.replied_out (h : (s.bay x.bay).state = .outOfService) :
    ((s.heard x bytes).replyOutOfService x.bay).sameBut (s.replied x bytes) [.faults, .fleetFlags] := by
  have hstate := (s.state_heard x bytes).trans h
  have htaken := State.taken_out (before := (s.bay x.bay).tele.vehicle) (answered := x.setPoint) hstate
  rwa [← h] at htaken

theorem State.clears_heard (s : State) (x : Exchange) (bytes : List Byte) : (s.heard x bytes).clears x.bay ↔
    ¬(byteAt bytes 1).getLsbD 7 = true
      ∨ (s.bay x.bay).link ≠ none ∧ (s.bay x.bay).link ≠ some (wordAt bytes 3).toNat := by
  rw [State.clears, State.tele_heard, State.link_heard, Bool.not_eq_true]
  rfl

theorem State.linksAgree_heard (hlinks : s.linksAgree) : (s.heard x bytes).linksAgree := by
  refine hlinks.of_sameLinks ⟨(s.heard_frame x bytes).roster (by decide), fun c => ?_⟩
  by_cases hc : c = x.bay
  · rw [hc, State.link_heard]
  · rw [(s.heard_other x bytes c hc).1]

end
end Sys2Proof.Machine

namespace Sys2Proof.Proofs
open Sys2Proof.Machine

/-- Settles O52: the part takes the reply's transition on the state with its telemetry written. -/
theorem validReplyMovesBay : Obligations.ValidReplyMovesBay := by
  unfold Obligations.ValidReplyMovesBay
  intro bytes x s h hlinks
  dsimp only
  have hframe := s.heard_frame x bytes
  have hkept := s.replied_lines x bytes
  have hstate := s.state_heard x bytes
  have htele := s.tele_heard x bytes
  have hbus := s.sameBus_heard x bytes
  have hhealthy (hh : byteAt bytes 2 = 0 ∧ (s.siteValid = true → min 170 ((byteAt bytes 10).toNat - 80 : Int) < s.site.tmax)) :
      (s.heard x bytes).healthy x.bay := State.healthy_heard hh.1 hh.2
  refine ⟨s.replied x bytes, exec_validReply h, ?_, ?_, s.replied_other x bytes, s.tele_replied x bytes,
    s.caps_replied x bytes, fun hr => ?_, fun hr => ⟨fun hplug => ?_, fun hplug hnumber => ?_, fun hplug hnumber hh => ?_⟩,
    fun hempty hdetected hout hother => ?_, fun hr hsame hh => ?_, fun hr hsame hh => ?_, fun hr hsame hh => ?_,
    fun hr => ?_, s.replied_frame x bytes⟩
  · rw [hkept.exchange (by decide), State.exchange_heard]
  · rw [State.line, hkept.lines (by decide)]
    exact s.line_heard x bytes
  · have htaken := State.taken_empty (before := (s.bay x.bay).tele.vehicle) (answered := x.setPoint)
      (left := (s.bay x.bay).state) (hstate.trans hr)
    rw [htele] at htaken
    exact htaken
  · have htaken := State.taken_detected_unplugged (before := (s.bay x.bay).tele.vehicle) (answered := x.setPoint)
      (left := (s.bay x.bay).state) (hstate.trans hr) (by rw [htele]; exact Bool.eq_false_iff.mpr hplug)
    exact htaken
  · have hcandidate : ((s.heard x bytes).bay x.bay).candidate = (s.bay x.bay).candidate := by rw [State.bay_heard]
    have htaken := State.taken_detected_other (before := (s.bay x.bay).tele.vehicle) (answered := x.setPoint)
      (left := (s.bay x.bay).state) (hstate.trans hr) (by rw [htele]; exact hplug) (by rw [hcandidate, htele]; exact hnumber)
    rw [htele] at htaken
    exact htaken
  · exact State.replied_confirmed hr hplug hnumber (hhealthy hh)
  · rw [State.replied_left hempty hdetected hout (mt hbus.mp hother)]
    have hleft := State.left_spec (s := s.heard x bytes) (b := x.bay) (by rwa [hstate])
    rw [htele, hstate, hframe.faultAt (by decide), hframe.uptime (by decide), hframe.notices (by decide),
      hframe.pollQueue (by decide), State.endNotices, hframe.orderAt (by decide)] at hleft
    exact hleft
  · obtain ⟨horder, hready, hwaits⟩ := State.taken_binding (answered := x.setPoint) (left := (s.bay x.bay).state)
      (hstate.trans hr) (hbus.mpr hsame) (hhealthy hh)
    rw [htele, State.bay_heard, hframe.uptime (by decide)] at hready
    rw [htele, State.bay_heard] at hwaits
    rw [hframe.orderAt (by decide)] at horder
    refine ⟨fun hclosed hdc => ?_, fun hnot => ?_⟩
    · rw [State.replied, hready hclosed hdc]
      exact ⟨rfl, rfl, rfl, rfl, rfl, rfl, horder⟩
    · rw [State.replied, hwaits hnot]
      exact ⟨hr, rfl, horder⟩
  · obtain ⟨hpassed, hwaits, hfailed⟩ := State.taken_checking (answered := x.setPoint) (left := (s.bay x.bay).state)
      (hstate.trans hr) (hbus.mpr hsame) (hhealthy hh)
    rw [htele, check_reported] at hfailed
    rw [htele, check_reported, State.bay_heard] at hpassed
    rw [htele, Ne, Ne, check_reported, check_reported, State.bay_heard] at hwaits
    refine ⟨fun hcode => ?_, fun hcode => ?_, hfailed⟩
    · rw [State.replied, hpassed hcode]
      exact ⟨rfl, rfl, rfl⟩
    · rw [State.replied, hwaits (by simp [CheckStatus.code]; omega) (by simp [CheckStatus.code]; omega)]
      exact ⟨hr, rfl⟩
  · obtain ⟨hopen, hclosed⟩ := State.taken_releasing (answered := x.setPoint) (left := (s.bay x.bay).state)
      (hstate.trans hr) (hbus.mpr hsame) (hhealthy hh)
    rw [htele, State.bay_heard] at hopen hclosed
    refine ⟨fun hc => ?_, fun hc => ?_⟩
    · rw [State.replied, hopen hc]
      exact ⟨rfl, rfl, rfl, rfl⟩
    · rw [State.replied, hclosed hc]
      exact ⟨hr, rfl⟩
  · have htaken := State.replied_out (bytes := bytes) hr
    rw [htaken.bayAt (by decide), htaken.roster (by decide)]
    refine ⟨by rw [State.state_replyOutOfService, hstate, hr], fun hclears => ?_, fun hpending hclosed => ?_⟩
    · exact State.unlinked_replyOutOfService (State.linksAgree_heard hlinks) ((s.clears_heard x bytes).mpr hclears)
    · rw [(State.release_replyOutOfService _ _).1, State.releaseChecked, State.bay_endReleaseIf, State.bay_heard]
      have hopen : (s.reportedTele x bytes).contactorClosed = false := hclosed
      simp [hpending, hopen]

end Sys2Proof.Proofs
end

section

/-!
SUPPORT. The causes of a valid reply and the entry into FAULT they give a bay, from the state its transition left it in
(R113 to R117).
-/

namespace Sys2Proof.Machine

/-! ### The causes of a reply (R114) -/

section
variable {s m : State} {b : BayNo} {answered : Nat} {left : BayState} {first : FaultKind} {others : List FaultKind}

/-- The causes that a reply's code and temperature give. -/
def State.codeCauses (s : State) (b : BayNo) : List FaultKind :=
  (if (s.bay b).tele.faultCode ≠ 0 then [.bayReported] else [])
    ++ (if s.siteValid ∧ s.site.tmax ≤ (s.bay b).tele.temp then [.overTemp] else [])

theorem State.replyCauses_eq (s : State) (b : BayNo) (answered : Nat) : s.replyCauses b answered =
    s.codeCauses b ++ if (s.trackingCheck b answered).2 then [.tracking] else [] := rfl

theorem pick_sublist (p : Prop) [Decidable p] (k : FaultKind) : (if p then [k] else []).Sublist [k] := by
  split
  · exact List.Sublist.refl _
  · exact List.nil_sublist _

/-- The causes of a reply come in check order, each at most once. -/
theorem State.codeCauses_sublist (s : State) (b : BayNo) : (s.codeCauses b).Sublist [.bayReported, .overTemp] :=
  (pick_sublist _ .bayReported).append (pick_sublist _ .overTemp)

theorem State.replyCauses_sublist (s : State) (b : BayNo) (answered : Nat) :
    (s.replyCauses b answered).Sublist [.bayReported, .overTemp, .tracking] :=
  (s.codeCauses_sublist b).append (pick_sublist _ .tracking)

theorem State.nodup_replyCauses (s : State) (b : BayNo) (answered : Nat) : (s.replyCauses b answered).Nodup :=
  (s.replyCauses_sublist b answered).nodup (by decide)

theorem State.nodup_codeCauses (s : State) (b : BayNo) : (s.codeCauses b).Nodup :=
  (s.codeCauses_sublist b).nodup (by decide)

/-- An order ends with FAULT, unless a precharge timeout comes first (R108, R117). -/
theorem faultEndCause_of_ne (o : Option Order) (h : first ≠ .prechargeTimeout) : faultEndCause o first = .fault := by
  unfold faultEndCause
  split
  · exact if_neg fun hboth => h hboth.2
  · rfl

/-! ### A bay on its way into FAULT (R117) -/

/-- From `s` to `m` a reply's transition left the bay where a fault takes it to FAULT, with what the entry reads. -/
structure State.Entering (s m : State) (b : BayNo) : Prop where
  faultable : (m.bay b).state.faultable = true
  history : (m.faultSet b).history = (s.faultSet b).history
  order : m.order b = s.order b
  notices : m.notices = s.notices
  marked : m.changeSet ||| BitVec.twoPow 16 b.val = s.changeSet ||| BitVec.twoPow 16 b.val
  frame : s.sameBut m bayEventParts

theorem State.historyWith_congr (hhistory : (m.faultSet b).history = (s.faultSet b).history) (hpolicy : m.policy = s.policy)
    (huptime : m.uptime = s.uptime) (causes : List FaultKind) : m.historyWith b causes = s.historyWith b causes := by
  rw [State.historyWith, State.historyWith, hhistory, hpolicy, huptime]

theorem State.goesOut_congr (hhistory : (m.faultSet b).history = (s.faultSet b).history) (hpolicy : m.policy = s.policy)
    (huptime : m.uptime = s.uptime) (causes : List FaultKind) : m.goesOut b causes = s.goesOut b causes := by
  rw [State.goesOut, State.goesOut, State.historyWith_congr hhistory hpolicy huptime, hpolicy]

/-- A bay that goes to FAULT, or on to OUT_OF_SERVICE, hands a notice. -/
theorem State.afterReply_entering (h : (m.bay b).state.faultable = true) (hcauses : m.replyCauses b answered = first :: others)
    (hleft : left ≠ .fault ∧ left ≠ .outOfService) :
    m.afterReply b answered left = ((m.tracked b answered).enterFault b first others).hand (.change .bay) := by
  have hfault := (BayState.faultable_ne h).1
  have hdetecting : (m.bay b).state.detecting = true := by
    simp only [BayState.faultable, Bool.and_eq_true] at h
    exact h.1.1
  have hbay := State.bay_enterFault (s := m.tracked b answered) first others (b := b) (by rwa [State.bay_tracked])
  have hstate : (((m.tracked b answered).enterFault b first others).bay b).state ≠ .transfer := by
    rw [hbay]
    dsimp only
    split <;> simp
  rw [State.afterReply_settled hfault, State.checkReply_some hdetecting hcauses,
    State.takeFault_entering (by rwa [State.bay_tracked]), State.reserveGuard_idle hstate]
  refine State.handIfChanged_changed ?_
  rw [hbay]
  dsimp only
  split
  · exact handsNotice_outOfService hleft.2
  · exact handsNotice_fault hleft.1

theorem State.faultByReply_entering (h : s.Entering m b) (hcauses : m.replyCauses b answered = first :: others)
    (hleft : left ≠ .fault ∧ left ≠ .outOfService) :
    s.faultByReply (m.afterReply b answered left) b (first :: others) := by
  have hfault : ((m.tracked b answered).bay b).state ≠ .fault := (BayState.faultable_ne h.faultable).1
  have hsublist := hcauses ▸ m.replyCauses_sublist b answered
  have hnodup := hcauses ▸ m.nodup_replyCauses b answered
  have hlength : others.length ≤ 4 := by
    have := hsublist.length_le
    simp only [List.length_cons, List.length_nil] at this
    omega
  have hfirst : first ≠ .prechargeTimeout := by
    rintro rfl
    simpa using hsublist.subset List.mem_cons_self
  have hpolicy : (m.tracked b answered).policy = s.policy := h.frame.policy (by decide)
  have huptime : (m.tracked b answered).uptime = s.uptime := h.frame.uptime (by decide)
  have hsite : (m.tracked b answered).site = s.site := h.frame.site (by decide)
  have hhistory : ((m.tracked b answered).faultSet b).history = (s.faultSet b).history := by
    rw [State.tracked, State.faultSet_modFault, h.history]
  have hends : (m.tracked b answered).endNotices b .fault true = s.endNotices b .fault true := by
    rw [State.endNotices, State.endNotices, State.tracked, State.order_modFault, h.order]
  have hnotices : (m.tracked b answered).notices = s.notices := h.notices
  have hmark : (m.tracked b answered).changeSet ||| BitVec.twoPow 16 b.val = s.changeSet ||| BitVec.twoPow 16 b.val := h.marked
  rw [State.afterReply_entering h.faultable hcauses hleft]
  unfold State.faultByReply
  simp only [← State.goesOut_iff, State.bay_hand, State.faultSet_hand, State.order_hand, State.hand_notices,
    State.hand_fleet, State.hand_changeSet, State.bay_enterFault _ _ hfault, State.faultSet_enterFault _ _ hfault,
    State.order_enterFault, State.notices_enterFault, State.fleet_enterFault _ _ hfault,
    State.changeSet_enterFault _ _ hfault, State.historyWith_congr hhistory hpolicy huptime,
    State.goesOut_congr hhistory hpolicy huptime, hmark, hnotices, huptime, hsite, faultEndCause_of_ne _ hfirst, hends,
    openRecord_eq hnodup hlength]
  refine ⟨rfl, trivial, fun hout => ?_, fun hout => ?_, trivial, ⟨trivial, trivial, trivial⟩, ?_, ?_, trivial, rfl⟩
  · simp [hout]
  · simp [hout]
  · split <;> simp
  · split <;> simp

/-- The release pending of a bay that a reply takes to FAULT (R29, R117). -/
theorem State.release_entering (h : (m.bay b).state.faultable = true) (hcauses : m.replyCauses b answered = first :: others)
    (hleft : left ≠ .fault ∧ left ≠ .outOfService) :
    let t := m.afterReply b answered left
    (t.bay b).releasePending = ((m.bay b).state.engaged || (m.bay b).releasePending)
    ∧ (t.bay b).releaseTimer = (if (m.bay b).state.engaged then some 10 else (m.bay b).releaseTimer)
    ∧ ((m.bay b).state.engaged = true → b ∈ t.pollQueue) := by
  have hfault : ((m.tracked b answered).bay b).state ≠ .fault := (BayState.faultable_ne h).1
  dsimp only
  rw [State.afterReply_entering h hcauses hleft, State.bay_hand, State.hand_pollQueue, State.bay_enterFault _ _ hfault,
    State.bay_tracked]
  exact ⟨rfl, rfl, fun hengaged => State.mem_enterFault _ _ hengaged⟩

/-! ### The transitions before the entry -/

theorem State.entering_refl (h : (s.bay b).state.faultable = true) : s.Entering s b where
  faultable := h
  history := rfl
  order := rfl
  notices := rfl
  marked := rfl
  frame := s.sameBut_refl _

/-- A transition that writes the bay alone, with its mark. -/
theorem State.entering_of_bayState (hframe : s.sameBut m bayStateParts) (hfaultable : (m.bay b).state.faultable = true)
    (hhistory : (m.faultSet b).history = (s.faultSet b).history)
    (hmark : m.changeSet = s.changeSet ||| BitVec.twoPow 16 b.val) : s.Entering m b where
  faultable := hfaultable
  history := hhistory
  order := hframe.orderAt (by decide) b
  notices := hframe.notices (by decide)
  marked := by rw [hmark, or_mark_twice]
  frame := hframe.mono (by decide)

theorem State.entering_completeBind (h : (s.bay b).state = .binding) : s.Entering (s.completeBind b) b := by
  refine State.entering_of_bayState (s.completeBind_frame b) ?_ ?_ ?_
  · rw [State.bay_completeBind (by simp [h])]
    rfl
  · simp [State.completeBind, State.faultSet_setBayState, h]
  · rw [State.completeBind, State.changeSet_setBayState _ _ _ (by simp [h]), State.modBay_changeSet]

theorem State.entering_passCheck (h : (s.bay b).state = .checking) : s.Entering (s.passCheck b) b := by
  refine State.entering_of_bayState (s.passCheck_frame b) ?_ ?_ ?_
  · rw [State.bay_passCheck (by simp [h])]
    rfl
  · simp [State.passCheck, State.faultSet_setBayState, h]
  · rw [State.passCheck, State.changeSet_setBayState _ _ _ (by simp [h]), State.modBay_changeSet]

theorem State.entering_completeRelease (h : (s.bay b).state = .releasing) : s.Entering (s.completeRelease b) b := by
  refine State.entering_of_bayState (s.completeRelease_frame b) ?_ ?_ ?_
  · rw [State.bay_completeRelease (by simp [h])]
    rfl
  · simp [State.completeRelease, State.faultSet_setBayState, State.endRelease, h]
  · rw [State.completeRelease, State.changeSet_setBayState _ _ _ (by simp [State.endRelease, h]), State.modBay_changeSet]
    rfl

theorem State.changeSet_enterParked (h : (s.bay b).state ≠ .parked) :
    (s.enterParked b).changeSet = s.changeSet ||| BitVec.twoPow 16 b.val := by
  have hparks : (s.parks b).changeSet = s.changeSet ||| BitVec.twoPow 16 b.val := by
    rw [State.parks, State.changeSet_setBayState _ _ _ (by simpa using h), State.modBay_changeSet]
  rw [State.enterParked_eq]
  obtain ⟨-, ht⟩ | ⟨-, v, -, -, -, ht⟩ | ⟨-, -, ht⟩ := (s.parks b).testLink_cases b
  · rw [ht, hparks]
  · rw [ht, State.changeSet_linkBay, hparks, or_mark_twice]
  · rw [ht, State.raiseFleet_changeSet, hparks]

theorem State.entering_enterParked (h : (s.bay b).state = .detected) : s.Entering (s.enterParked b) b where
  faultable := by
    rw [(State.bay_enterParked (by simp [h])).1]
    rfl
  history := by rw [State.faultSet_enterParked (by simp [h])]
  order := s.order_enterParked b b
  notices := s.enterParked_notices b
  marked := by rw [State.changeSet_enterParked (by simp [h]), or_mark_twice]
  frame := (s.enterParked_frame b).mono (by decide)

end
end Sys2Proof.Machine
end

section

/-!
SUPPORT. The checks of a valid reply in FAULT and in OUT_OF_SERVICE, and the failed check with the causes found behind it
(R114, R118 to R120).
-/

namespace Sys2Proof.Machine

section
variable {s m : State} {b : BayNo} {before answered : Nat} {left : BayState} {kinds : List FaultKind}

theorem FaultRecord.withFresh_nil (r : FaultRecord) : r.withFresh [] = r := by
  simp [FaultRecord.withFresh]

/-- The fault set a bay in FAULT holds after a reply's causes (R119). -/
def FaultSet.rechecked (f : FaultSet) (kinds : List FaultKind) (hold : Nat) : FaultSet := { f with
  tracking := 0
  record := f.record.withFresh (f.record.fresh kinds)
  hold := if f.record.fresh kinds = [] then f.hold else some hold }

theorem FaultRecord.fresh_nil (r : FaultRecord) : r.fresh [] = [] := rfl

theorem State.faultSet_tracked (h : (s.bay b).state ≠ .transfer) :
    (s.tracked b answered).faultSet b = { s.faultSet b with tracking := 0 } := by
  rw [State.tracked, State.faultSet_modFault, State.trackingCheck_idle h]

theorem State.replyCauses_code (h : (s.bay b).state ≠ .transfer) : s.replyCauses b answered = s.codeCauses b :=
  State.replyCauses_untracked h

theorem State.tracked_frame (s : State) (b : BayNo) (answered : Nat) : s.sameBut (s.tracked b answered) [.faults] :=
  s.modFault_frame b _

/-- The checks of a reply of a bay in FAULT (R114, R119). -/
theorem State.checkReply_fault (h : (s.bay b).state = .fault) :
    let u := s.checkReply b answered
    s.sameBut u [.faults, .fleetFlags]
    ∧ u.faultSet b = (s.faultSet b).rechecked (s.codeCauses b) s.site.hold
    ∧ u.fleet.flags = if (s.faultSet b).record.fresh (s.codeCauses b) = [] then s.fleet.flags
        else s.fleet.flags ||| 0x02#8 := by
  have hne : (s.bay b).state ≠ .transfer := by simp [h]
  have hdetecting : (s.bay b).state.detecting = true := by rw [h]; rfl
  have hset := State.faultSet_tracked (answered := answered) hne
  have hframe := s.tracked_frame b answered
  have hrecord : ((s.tracked b answered).faultSet b).record = (s.faultSet b).record := by rw [hset]
  have hcauses := State.replyCauses_code (answered := answered) hne
  have hnodup := s.nodup_codeCauses b
  generalize s.codeCauses b = kinds at hcauses hnodup ⊢
  dsimp only
  cases kinds with
  | nil =>
    rw [State.checkReply_none hdetecting hcauses, hset, hframe.fleet (by decide)]
    refine ⟨hframe.mono (by decide), ?_, rfl⟩
    simp [FaultSet.rechecked, FaultRecord.fresh_nil, FaultRecord.withFresh_nil]
  | cons first others =>
    rw [State.checkReply_some hdetecting hcauses, State.takeFault_fault (by rwa [State.bay_tracked])]
    by_cases hfresh : (s.faultSet b).record.fresh (first :: others) = []
    · rw [State.faultInFault_held (by rwa [hrecord]), hset, hframe.fleet (by decide)]
      refine ⟨hframe.mono (by decide), ?_, by rw [if_pos hfresh]⟩
      simp [FaultSet.rechecked, hfresh, FaultRecord.withFresh_nil]
    · rw [State.faultInFault_fresh hnodup (by rwa [hrecord])]
      refine ⟨((hframe.mono (by decide)).then (State.setFaultSet_frame _ b _) (by decide)).then
        (State.raiseFleet_frame _ _) (by decide), ?_, ?_⟩
      · rw [State.faultSet_raiseFleet, State.faultSet_setFaultSet, hset]
        simp [FaultSet.rechecked, hfresh, State.tracked]
      · rw [if_neg hfresh]
        rfl

/-- The checks of a reply of a bay out of service, by its record (R114, R120). -/
theorem State.checkReply_recorded (h : (s.bay b).state = .outOfService) :
    let u := s.checkReply b answered
    ((s.faultSet b).record.status = .opened →
      u.faultSet b = { s.faultSet b with
        tracking := 0, record := (s.faultSet b).record.withFresh ((s.faultSet b).record.fresh (s.codeCauses b)) }
      ∧ u.fleet.flags = if (s.faultSet b).record.fresh (s.codeCauses b) = [] then s.fleet.flags
          else s.fleet.flags ||| 0x02#8)
    ∧ ((s.faultSet b).record.status ≠ .opened → s.codeCauses b ≠ [] →
      u.faultSet b = { s.faultSet b with
        tracking := 0, record := ⟨.opened, (s.codeCauses b).head?, (s.codeCauses b).tail, s.uptime, 0⟩ }
      ∧ u.fleet.flags = s.fleet.flags ||| 0x02#8)
    ∧ (u.faultSet b).hold = (s.faultSet b).hold ∧ (u.faultSet b).history = (s.faultSet b).history
    ∧ (u.faultSet b).releaseTimedOut = (s.faultSet b).releaseTimedOut := by
  have hne : (s.bay b).state ≠ .transfer := by simp [h]
  have hdetecting : (s.bay b).state.detecting = true := by rw [h]; rfl
  have hset := State.faultSet_tracked (answered := answered) hne
  have hframe := s.tracked_frame b answered
  have hrecord : ((s.tracked b answered).faultSet b).record = (s.faultSet b).record := by rw [hset]
  have hcauses := State.replyCauses_code (answered := answered) hne
  have hnodup := s.nodup_codeCauses b
  have hlength := (s.codeCauses_sublist b).length_le
  generalize s.codeCauses b = kinds at hcauses hnodup hlength ⊢
  dsimp only
  cases kinds with
  | nil =>
    rw [State.checkReply_none hdetecting hcauses, hset, hframe.fleet (by decide)]
    refine ⟨fun _ => ⟨?_, rfl⟩, fun _ hsome => (hsome rfl).elim, rfl, rfl, rfl⟩
    simp [FaultRecord.fresh_nil, FaultRecord.withFresh_nil]
  | cons first others =>
    rw [State.checkReply_some hdetecting hcauses, State.takeFault_out (by rwa [State.bay_tracked])]
    obtain ⟨-, ⟨r, hwritten⟩, -⟩ := (s.tracked b answered).faultInOut_keeps b first others
    refine ⟨fun hopen => ?_, fun hclosed _ => ?_, ?_⟩
    · by_cases hfresh : (s.faultSet b).record.fresh (first :: others) = []
      · rw [State.faultInOut_held (by rwa [hrecord]) (by rwa [hrecord]), hset, hframe.fleet (by decide), hfresh]
        exact ⟨by rw [FaultRecord.withFresh_nil], rfl⟩
      · rw [State.faultInOut_fresh hnodup (by rwa [hrecord]) (by rwa [hrecord]), if_neg hfresh]
        refine ⟨?_, rfl⟩
        rw [State.faultSet_raiseFleet, State.faultSet_setFaultSet, hset]
    · rw [State.faultInOut_new (by rwa [hrecord])]
      refine ⟨?_, rfl⟩
      rw [State.faultSet_raiseFleet, State.faultSet_setFaultSet, hset, openRecord_eq hnodup (by simp at hlength; omega)]
      rfl
    · rw [hwritten, hset]
      exact ⟨rfl, rfl, rfl⟩

/-! ### A failed check (R34, R114) -/

/-- A record opened for a failed check takes the reply's causes behind it. -/
theorem fresh_isolation (hsub : kinds.Sublist [.bayReported, .overTemp]) (now : Stamp) :
    FaultRecord.withFresh ⟨.opened, some .isolation, [], now, 0⟩
      (FaultRecord.fresh ⟨.opened, some .isolation, [], now, 0⟩ kinds)
      = ⟨.opened, some .isolation, kinds, now, 0⟩ := by
  have hfresh : FaultRecord.fresh ⟨.opened, some .isolation, [], now, 0⟩ kinds = kinds := by
    refine List.filter_eq_self.mpr fun k hk => ?_
    have hne : FaultKind.isolation ≠ k := by
      rintro rfl
      simpa using hsub.subset hk
    simpa using hne
  have hlength : kinds.length ≤ 4 := hsub.length_le.trans (by decide)
  rw [hfresh, FaultRecord.withFresh, List.nil_append, List.length_nil, List.take_of_length_le (by omega)]

/-- The checks of the reply that showed the failed check (R114, R118). -/
theorem State.checkReply_failed (h : (s.bay b).state ≠ .fault) :
    let m := s.enterFault b .isolation []
    let u := m.checkReply b answered
    m.sameBut u [.faults, .fleetFlags]
    ∧ u.faultSet b = { m.faultSet b with
        tracking := 0, record := ⟨.opened, some .isolation, s.codeCauses b, s.uptime, 0⟩ }
    ∧ ∀ i, m.fleet.flags.getLsbD i = true → u.fleet.flags.getLsbD i = true := by
  have hbay := State.bay_enterFault .isolation [] h
  have hset := State.faultSet_enterFault .isolation [] h
  have hframe := s.enterFault_frame b .isolation []
  have hcodes : (s.enterFault b .isolation []).codeCauses b = s.codeCauses b := by
    rw [State.codeCauses, State.codeCauses, hbay, hframe.siteValid (by decide), hframe.site (by decide)]
  have hrecord : ((s.enterFault b .isolation []).faultSet b).record = ⟨.opened, some .isolation, [], s.uptime, 0⟩ := by
    rw [hset]
    rfl
  have hadded := fresh_isolation (s.codeCauses_sublist b) s.uptime
  dsimp only
  by_cases hout : s.goesOut b [.isolation] = true
  · have hstate : ((s.enterFault b .isolation []).bay b).state = .outOfService := by rw [hbay]; exact if_pos hout
    obtain ⟨hopen, -⟩ := State.checkReply_recorded (answered := answered) hstate
    obtain ⟨hwritten, hflags⟩ := hopen (by rw [hrecord])
    rw [hcodes, hrecord, hadded] at hwritten
    refine ⟨State.checkReply_out hstate, hwritten, fun i hi => ?_⟩
    rw [hflags]
    split <;> simp [hi]
  · have hstate : ((s.enterFault b .isolation []).bay b).state = .fault := by rw [hbay]; exact if_neg hout
    obtain ⟨hkept, hwritten, hflags⟩ := State.checkReply_fault (answered := answered) hstate
    have hhold : ((s.enterFault b .isolation []).faultSet b).hold = some s.site.hold := by rw [hset]; exact if_neg hout
    rw [FaultSet.rechecked, hcodes, hrecord, hadded, hhold, hframe.site (by decide), ite_self] at hwritten
    refine ⟨hkept, ?_, fun i hi => ?_⟩
    · rw [hwritten, ← hhold]
    · rw [hflags]
      split <;> simp [hi]

/-- ISOLATION counts, whatever stands behind it (R124). -/
theorem State.goesOut_isolation (s : State) (b : BayNo) (kinds : List FaultKind) :
    s.goesOut b (.isolation :: kinds) = s.goesOut b [.isolation]
    ∧ s.historyWith b (.isolation :: kinds) = s.historyWith b [.isolation] := by
  have hcounts (kinds : List FaultKind) : (FaultKind.isolation :: kinds).any s.policy.counts = true := by
    simp [FaultPolicy.counts]
  have hhistory : s.historyWith b (.isolation :: kinds) = s.historyWith b [.isolation] := by
    rw [State.historyWith, State.historyWith, if_pos (hcounts _), if_pos (hcounts _)]
  exact ⟨by rw [State.goesOut, State.goesOut, hcounts, hcounts, hhistory], hhistory⟩

/-- What a failed check leaves, its order ended and its bay in FAULT or out of service (R34, R117, R124). -/
theorem State.faultByReply_failed (h : (s.bay b).state = .checking) :
    let t := (s.enterFault b .isolation []).afterReply b answered .checking
    s.faultByReply t b (.isolation :: s.codeCauses b)
    ∧ (t.bay b).releasePending = true ∧ (t.bay b).releaseTimer = some 10 ∧ b ∈ t.pollQueue := by
  have hfault : (s.bay b).state ≠ .fault := by simp [h]
  have hengaged : (s.bay b).state.engaged = true := by rw [h]; rfl
  have hbay := State.bay_enterFault .isolation [] hfault
  have hset := State.faultSet_enterFault .isolation [] hfault
  have hmark := State.changeSet_enterFault .isolation [] hfault
  have hfleet := State.fleet_enterFault .isolation [] hfault
  have hwaits := State.mem_enterFault .isolation [] hengaged
  obtain ⟨hframe, hwritten, hflags⟩ := State.checkReply_failed (answered := answered) hfault
  have hnotices := State.notices_enterFault (s := s) .isolation [] b
  have hempty := State.order_enterFault (s := s) .isolation [] b
  obtain ⟨hgoes, hhistory⟩ := s.goesOut_isolation b (s.codeCauses b)
  have hout : ((∃ k ∈ FaultKind.isolation :: s.codeCauses b, s.policy.counts k = true)
      ∧ 3 ≤ (s.historyWith b [.isolation]).length) ↔ s.goesOut b [.isolation] = true := by
    rw [← hhistory, ← State.goesOut_iff, hgoes]
  have ht : (s.enterFault b .isolation []).afterReply b answered .checking
      = ((s.enterFault b .isolation []).checkReply b answered).hand (.change .bay) := by
    generalize s.enterFault b .isolation [] = m at *
    have hbay' := (hframe.bayAt (by decide) b).trans hbay
    have hexit : (m.checkReply b answered).exitAtReply b = m.checkReply b answered := by
      refine State.exitAtReply_idle ?_
      rw [hbay', hwritten, hset]
      dsimp only
      split <;> simp
    rw [State.afterReply, hexit, State.reserveGuard_idle (by rw [hbay']; dsimp only; split <;> simp)]
    refine State.handIfChanged_changed ?_
    rw [hbay']
    dsimp only
    split <;> rfl
  dsimp only
  rw [ht]
  generalize s.enterFault b .isolation [] = m at *
  generalize m.checkReply b answered = u at *
  unfold State.faultByReply
  simp only [State.bay_hand, State.faultSet_hand, State.order_hand, State.hand_notices,
    State.hand_fleet, State.hand_changeSet, State.hand_pollQueue, hframe.bayAt (by decide), hframe.orderAt (by decide),
    hframe.notices (by decide), hframe.changeSet (by decide), hframe.pollQueue (by decide), hwritten, hbay, hset, hmark,
    hnotices, hempty, hhistory, hout, hengaged]
  refine ⟨⟨rfl, trivial, fun hgoes => ?_, fun hstays => ?_, trivial, ⟨trivial, trivial, trivial⟩, ?_, ?_, trivial, ?_⟩,
    rfl, rfl, hwaits⟩
  · refine ⟨by simp [hgoes], by simp [hgoes], hflags 2 ?_⟩
    rw [hfleet]
    simp [hgoes]
  · simp [hstays]
  · refine hflags 0 ?_
    rw [hfleet]
    dsimp only
    split <;> simp
  · refine hflags 1 ?_
    rw [hfleet]
    dsimp only
    split <;> simp
  · rw [faultEndCause_of_ne _ (by simp)]
    rfl

end
end Sys2Proof.Machine
end

section

/-!
SUPPORT. A valid reply of a bay in FAULT, in OUT_OF_SERVICE and in TRANSFER (R106, R114, R115, R119 to R122).
-/

namespace Sys2Proof.Machine

section
variable {s m : State} {b : BayNo} {before answered : Nat} {left : BayState}

/-! ### FAULT -/

/-- Whether a release pending ends at a reply (R30). -/
def State.ends (s : State) (b : BayNo) : Bool := (s.bay b).releasePending && !(s.bay b).tele.contactorClosed

theorem State.bay_releaseChecked (s : State) (b : BayNo) : (s.releaseChecked b).bay b = { s.bay b with
    releasePending := !s.ends b && (s.bay b).releasePending
    releaseTimer := if s.ends b then none else (s.bay b).releaseTimer } := s.bay_endReleaseIf b _

theorem State.faultSet_releaseChecked (s : State) (b : BayNo) : (s.releaseChecked b).faultSet b = { s.faultSet b with
    releaseTimedOut := !s.ends b && (s.faultSet b).releaseTimedOut } := by
  unfold State.releaseChecked State.ends
  cases (s.bay b).releasePending && !(s.bay b).tele.contactorClosed
  · rfl
  · simp [State.endReleaseIf, State.endRelease]

theorem State.releaseChecked_frame (s : State) (b : BayNo) : s.sameBut (s.releaseChecked b) [.bays, .faults] := by
  unfold State.releaseChecked
  cases (s.bay b).releasePending && !(s.bay b).tele.contactorClosed
  · exact (s.sameBut_refl []).mono (by decide)
  · exact s.endRelease_frame b

theorem State.codeCauses_releaseChecked (s : State) (b : BayNo) : (s.releaseChecked b).codeCauses b = s.codeCauses b := by
  have hframe := s.releaseChecked_frame b
  rw [State.codeCauses, State.codeCauses, State.bay_releaseChecked, hframe.siteValid (by decide), hframe.site (by decide)]

/-- The bay in FAULT after the checks of a reply, before the exit test. -/
def State.rechecked (s : State) (b : BayNo) (answered : Nat) : State := (s.releaseChecked b).checkReply b answered

section
variable (h : (s.bay b).state = .fault)
include h

theorem State.state_releaseChecked_fault : ((s.releaseChecked b).bay b).state = .fault := by
  rw [State.bay_releaseChecked, h]

theorem State.rechecked_frame : (s.releaseChecked b).sameBut (s.rechecked b answered) [.faults, .fleetFlags] :=
  (State.checkReply_fault (State.state_releaseChecked_fault h)).1

theorem State.bay_rechecked : (s.rechecked b answered).bay b = { s.bay b with
    releasePending := !s.ends b && (s.bay b).releasePending
    releaseTimer := if s.ends b then none else (s.bay b).releaseTimer } := by
  rw [(State.rechecked_frame h).bayAt (by decide), State.bay_releaseChecked]

theorem State.faultSet_rechecked : (s.rechecked b answered).faultSet b =
    { (s.faultSet b).rechecked (s.codeCauses b) s.site.hold with
      releaseTimedOut := !s.ends b && (s.faultSet b).releaseTimedOut } := by
  have hset := (State.checkReply_fault (answered := answered) (State.state_releaseChecked_fault h)).2.1
  rw [State.codeCauses_releaseChecked, State.faultSet_releaseChecked, (s.releaseChecked_frame b).site (by decide)] at hset
  exact hset

theorem State.flags_rechecked : (s.rechecked b answered).fleet.flags =
    if (s.faultSet b).record.fresh (s.codeCauses b) = [] then s.fleet.flags else s.fleet.flags ||| 0x02#8 := by
  have hflags := (State.checkReply_fault (answered := answered) (State.state_releaseChecked_fault h)).2.2
  rw [State.codeCauses_releaseChecked, State.faultSet_releaseChecked, (s.releaseChecked_frame b).fleet (by decide)] at hflags
  exact hflags

/-- The exit test after the checks reads the reply (R122). -/
theorem State.exitTest_rechecked (hmiss : (s.line b).miss = 0) : (s.rechecked b answered).exitTest b = true ↔
    (s.siteValid = true → (s.bay b).tele.temp < s.site.thz) ∧ (s.bay b).tele.faultCode = 0
      ∧ (s.bay b).tele.contactorClosed = false := by
  have hframe := (((s.releaseChecked_frame b).mono (by decide)).then (State.rechecked_frame (answered := answered) h)
    (by decide) : s.sameBut (s.rechecked b answered) [.bays, .faults, .fleetFlags])
  have hline : ((s.rechecked b answered).line b).miss = 0 := by
    rw [State.line, hframe.lines (by decide)]
    exact hmiss
  rw [State.exitTest_iff, State.bay_rechecked h, hframe.siteValid (by decide), hframe.site (by decide), hline]
  simp

theorem State.taken_fault (hbus : s.sameBus b before) : s.taken b before answered .fault =
    (((s.rechecked b answered).exitAtReply b).reserveGuard b).handIfChanged b .fault := by
  rw [State.taken_same (by simp [h]) hbus, State.replySameBus_fault h]
  rfl

/-- A bay in FAULT stays there while its hold runs or the exit test fails (R121, R122). -/
theorem State.taken_fault_stays (hbus : s.sameBus b before)
    (hstays : ((s.rechecked b answered).faultSet b).hold ≠ none ∨ ¬(s.rechecked b answered).exitTest b = true) :
    s.taken b before answered .fault = s.rechecked b answered := by
  have hbay := State.bay_rechecked (answered := answered) h
  have hstate : ((s.rechecked b answered).bay b).state = .fault := by rw [hbay, h]
  have hexit : (s.rechecked b answered).exitAtReply b = s.rechecked b answered := by
    obtain hhold | htest := hstays
    · exact State.exitAtReply_idle fun _ => hhold
    · unfold State.exitAtReply
      rw [State.tryExit_failing htest, ite_self]
  rw [State.taken_fault h hbus, hexit, State.reserveGuard_idle (by simp [hstate])]
  exact State.handIfChanged_kept (by rw [hstate]; rfl)

/-- A bay whose hold is over and whose exit test passes enters PARKED with its record closed (R122). -/
theorem State.taken_fault_exits (hbus : s.sameBus b before)
    (hhold : ((s.rechecked b answered).faultSet b).hold = none) (htest : (s.rechecked b answered).exitTest b = true) :
    s.taken b before answered .fault
      = (((s.rechecked b answered).faultClosed b).enterParked b).hand (.change .bay) := by
  have hbay := State.bay_rechecked (answered := answered) h
  have hstate : ((s.rechecked b answered).bay b).state = .fault := by rw [hbay, h]
  obtain ⟨hparked, -, -, hhand, -⟩ := State.exits_parked hstate
  have hexit : (s.rechecked b answered).exitAtReply b = ((s.rechecked b answered).faultClosed b).enterParked b := by
    rw [State.exitAtReply, if_pos ⟨hstate, hhold⟩, State.tryExit_passing htest]
  rw [State.taken_fault h hbus, hexit, State.reserveGuard_idle (by simp [hparked]), hhand]

end

/-! ### What an entry into PARKED keeps of a release -/

theorem State.release_enterParked (h : (s.bay b).state ≠ .parked) :
    ((s.enterParked b).bay b).releasePending = (s.bay b).releasePending
    ∧ ((s.enterParked b).bay b).releaseTimer = (s.bay b).releaseTimer := by
  have hparks := State.bay_parks h
  rw [State.enterParked_eq]
  obtain ⟨-, ht⟩ | ⟨-, v, hv, -, -, ht⟩ | ⟨-, -, ht⟩ := (s.parks b).testLink_cases b
  · rw [ht, hparks]
    exact ⟨rfl, rfl⟩
  · rw [ht, State.bay_linkBay (by rw [(State.vehicle?_number hv).2]; exact hv), hparks]
    exact ⟨rfl, rfl⟩
  · rw [ht, State.bay_raiseFleet, hparks]
    exact ⟨rfl, rfl⟩

/-! ### TRANSFER (R106, R115) -/

theorem State.trackingCheck_found (s : State) (b : BayNo) (answered : Nat) : (s.trackingCheck b answered).2 = true ↔
    (s.bay b).state = .transfer ∧ s.policy.detectTracking = true
      ∧ outOfTolerance answered (s.bay b).tele.power = true ∧ 4 ≤ (s.faultSet b).tracking := by
  unfold State.trackingCheck
  split
  case isTrue hchecked =>
    obtain ⟨hstate, hdetect⟩ := hchecked
    split
    case isTrue hout =>
      split
      case isTrue hfull => simp [hstate, hdetect, hout, hfull]
      case isFalse hroom => simp [hroom]
    case isFalse hin => simp [hin]
  case isFalse hidle =>
    simp only [Bool.false_eq_true, false_iff]
    rintro ⟨hstate, hdetect, -⟩
    exact hidle ⟨hstate, hdetect⟩

/-- The count goes on where the reply is out of tolerance, and starts again where it is not (R115). -/
theorem State.trackingCheck_counts (hstate : (s.bay b).state = .transfer) (h : (s.trackingCheck b answered).2 = false) :
    (s.policy.detectTracking = true → outOfTolerance answered (s.bay b).tele.power = true →
      (s.trackingCheck b answered).1 = (s.faultSet b).tracking + 1)
    ∧ (s.policy.detectTracking = false ∨ ¬outOfTolerance answered (s.bay b).tele.power = true →
      (s.trackingCheck b answered).1 = 0) := by
  refine ⟨fun hdetect hout => ?_, fun hin => ?_⟩
  · have hroom : ¬4 ≤ (s.faultSet b).tracking := by
      intro hfull
      have hfound := (s.trackingCheck_found b answered).mpr ⟨hstate, hdetect, hout, hfull⟩
      rw [h] at hfound
      cases hfound
    rw [State.trackingCheck, if_pos ⟨hstate, hdetect⟩, if_pos hout, if_neg hroom]
  · unfold State.trackingCheck
    split
    case isTrue hchecked =>
      obtain hoff | htolerated := hin
      · rw [hoff] at hchecked
        cases hchecked.2
      · rw [if_neg htolerated]
    case isFalse => rfl

theorem State.taken_transfer (h : (s.bay b).state = .transfer) (hbus : s.sameBus b before)
    (hcauses : s.replyCauses b answered = []) :
    s.taken b before answered .transfer = (s.tracked b answered).reserveGuard b := by
  have hdetecting : (s.bay b).state.detecting = true := by rw [h]; rfl
  have hbay : ((s.tracked b answered).reserveGuard b).bay b = s.bay b :=
    ((s.tracked b answered).reserveGuard_frame b).bayAt (by decide) b
  rw [State.taken_same (by simp [h]) hbus, State.replySameBus_idle (.inr (.inr (.inl h))),
    State.afterReply_settled (by simp [h]), State.checkReply_none hdetecting hcauses]
  exact State.handIfChanged_kept (by rw [hbay, h]; rfl)

/-! ### The reserve guard (R106) -/

section
variable {o : Order} {v : Vehicle} {q : Request} {remaining : Nat} {eligible : List BayNo}

/-- An order running its profile, of which the guard is asked (R106). -/
def Order.guarded (o : Order) : Prop := o.phase = .rise ∨ o.phase = .hold ∨ o.phase = .lower

theorem State.reserveGuard_short (h : (s.bay b).state = .transfer) (ho : s.order b = some o)
    (hv : s.linkedVehicle? b = some v) (hphase : o.guarded) (hw : s.remainingWindow? o.request = some remaining)
    (hshort : s.reserveShort b o v remaining = true) :
    s.reserveGuard b = (s.setOrder b (some (o.declineFor .reserveGuard))).raiseFleet .reserveGuard := by
  simp only [State.reserveGuard, h, ho, hv, hw, hshort, if_pos (show _ ∨ _ ∨ _ from hphase)]
  rfl

theorem State.reserveGuard_kept (h : ∀ o v remaining, s.order b = some o → s.linkedVehicle? b = some v → o.guarded →
    s.remainingWindow? o.request = some remaining → s.reserveShort b o v remaining = false) : s.reserveGuard b = s := by
  unfold State.reserveGuard
  split
  case h_1 o v hstate ho hv =>
    split
    case isTrue hphase =>
      split
      case h_1 w hw => exact if_neg (by simp [h o v w ho hv hphase hw])
      case h_2 => rfl
    case isFalse => rfl
  case h_2 => rfl

theorem State.remainingWindow?_active (hq : s.request? o.request = some q) (hactive : q.state = .active remaining eligible) :
    s.remainingWindow? o.request = some remaining := by
  simp only [State.remainingWindow?, hq, hactive]

theorem State.remainingWindow?_inactive (h : ∀ q, s.request? o.request = some q → q.isActive = false) :
    s.remainingWindow? o.request = none := by
  unfold State.remainingWindow?
  split
  case h_1 q hq =>
    have hinactive := h q hq
    split
    case h_1 hactive => simp [Request.isActive, hactive] at hinactive
    all_goals rfl
  case h_2 => rfl

/-- The guard's test of an order, in the manual's terms (R106). -/
theorem State.reserveShort_iff (hq : s.request? o.request = some q) : s.reserveShort b o v remaining = true ↔
    (s.bay b).tele.energy < reserveNeed v s.site.eta s.clock remaining + o.level
      + (s.profileAt q.profile).declineEnergy o.level := by
  have hprofile : s.profileOf o.request = s.profileAt q.profile := by simp only [State.profileOf, hq]
  rw [State.reserveShort, hprofile, decide_eq_true_iff]

end
end
end Sys2Proof.Machine
end

section

/-!
SUPPORT. The transition of a valid reply before a fault it gives, and with it the checks and guards of a valid reply (O53).
-/

namespace Sys2Proof.Machine

section
variable {s t m : State} {b : BayNo} {before answered : Nat}

/-- The states in which a fault may enter and the same bus changes nothing (R19, R113). -/
theorem BayState.idle_of_faultable {st : BayState} (h : st.faultable = true) (hbinding : st ≠ .binding)
    (hchecking : st ≠ .checking) (hreleasing : st ≠ .releasing) :
    st = .parked ∨ st = .bound ∨ st = .transfer ∨ st = .cooldown := by
  cases st
  case parked => exact .inl rfl
  case bound => exact .inr (.inl rfl)
  case transfer => exact .inr (.inr (.inl rfl))
  case cooldown => exact .inr (.inr (.inr rfl))
  case binding => exact (hbinding rfl).elim
  case checking => exact (hchecking rfl).elim
  case releasing => exact (hreleasing rfl).elim
  all_goals cases h

theorem BayState.faultable_or_detected {st : BayState} (hempty : st ≠ .empty) (hfault : st ≠ .fault)
    (hout : st ≠ .outOfService) : st.faultable = true ∨ st = .detected := by
  cases st
  case empty => exact (hempty rfl).elim
  case fault => exact (hfault rfl).elim
  case outOfService => exact (hout rfl).elim
  case detected => exact .inr rfl
  all_goals exact .inl rfl

/-- The reply of a bus that stands at the bay, or that is confirmed in DETECTED (R20, R23, R113). -/
def State.standing (s : State) (b : BayNo) (before : Nat) : Prop :=
  (s.bay b).tele.plug = true ∧ if (s.bay b).state = .detected then (s.bay b).candidate = some (s.bay b).tele.vehicle
    else (s.bay b).tele.vehicle = heldNumber (s.bay b).link before

theorem State.standing.sameBus (h : s.standing b before) (hstate : (s.bay b).state ≠ .detected) :
    s.sameBus b before := ⟨h.1, by have hnumber := h.2; rwa [if_neg hstate] at hnumber⟩

theorem State.standing.confirmed (h : s.standing b before) (hstate : (s.bay b).state = .detected) :
    (s.bay b).candidate = some (s.bay b).tele.vehicle := by
  have hnumber := h.2
  rwa [if_pos hstate] at hnumber

/-- What a transition that precedes a fault leaves of the release and of what the checks read. -/
structure State.Precedes (s m : State) (b : BayNo) : Prop where
  entering : s.Entering m b
  codes : m.codeCauses b = s.codeCauses b
  transfer : (m.bay b).state = .transfer → m = s
  still : (s.bay b).state = .transfer → m = s
  engaged : (s.bay b).state.engaged = true → (m.bay b).state.engaged = true
  releasing : (s.bay b).state = .releasing → (m.bay b).state.engaged = false
    ∧ (m.bay b).releasePending = ((s.bay b).tele.contactorClosed && (s.bay b).releasePending)
    ∧ (m.bay b).releaseTimer = if (s.bay b).tele.contactorClosed then (s.bay b).releaseTimer else none

theorem State.codeCauses_of_sameStock (h : s.sameStock m) : m.codeCauses b = s.codeCauses b := by
  obtain ⟨-, -, hsite, hvalid⟩ := id h
  rw [State.codeCauses, State.codeCauses, h.tele, hsite, hvalid]

theorem State.codeCauses_enterParked (s : State) (b : BayNo) : (s.enterParked b).codeCauses b = s.codeCauses b := by
  obtain ⟨e, -, htele, -⟩ := (State.linkFate_enterParked (b := b) s.sameStock_refl).tele
  have hframe := s.enterParked_frame b
  rw [State.codeCauses, State.codeCauses, htele, hframe.site (by decide), hframe.siteValid (by decide)]

/-- A transition to a state outside TRANSFER, from one outside TRANSFER and RELEASING. -/
theorem State.precedes_moved (hentering : s.Entering m b) (hcodes : m.codeCauses b = s.codeCauses b)
    (hm : (m.bay b).state ≠ .transfer) (htransfer : (s.bay b).state ≠ .transfer) (hreleasing : (s.bay b).state ≠ .releasing)
    (hengaged : (s.bay b).state.engaged = true → (m.bay b).state.engaged = true) : s.Precedes m b where
  entering := hentering
  codes := hcodes
  transfer hstate := (hm hstate).elim
  still hstate := (htransfer hstate).elim
  engaged := hengaged
  releasing hstate := (hreleasing hstate).elim

/-- A reply that leaves the bay where it stands. -/
theorem State.precedes_refl (h : (s.bay b).state.faultable = true)
    (hclosed : (s.bay b).state = .releasing → (s.bay b).tele.contactorClosed = true) : s.Precedes s b where
  entering := State.entering_refl h
  codes := rfl
  transfer _ := rfl
  still _ := rfl
  engaged hengaged := hengaged
  releasing hstate := by
    rw [hclosed hstate, hstate]
    exact ⟨rfl, by simp, by simp⟩

theorem State.precedes_completeRelease (h : (s.bay b).state = .releasing) (hopen : (s.bay b).tele.contactorClosed = false) :
    s.Precedes (s.completeRelease b) b := by
  have hbay : (s.completeRelease b).bay b = _ := State.bay_completeRelease (by simp [h])
  have hstock : s.sameStock (s.completeRelease b) := by
    have hclosed := sameStock_opClosed s
    exact hclosed.leaves (by decide) (hclosed.modBay b (fun _ => rfl) (hclosed.endRelease b s.sameStock_refl))
  exact {
    entering := State.entering_completeRelease h
    codes := State.codeCauses_of_sameStock hstock
    transfer := fun hstate => by rw [hbay] at hstate; cases hstate
    still := fun hstate => by rw [h] at hstate; cases hstate
    engaged := fun hengaged => by rw [h] at hengaged; cases hengaged
    releasing := fun _ => by
      rw [hbay, hopen]
      exact ⟨rfl, rfl, rfl⟩ }

/-- The transition of a reply of the bus that stands at the bay precedes a fault, unless it is a failed check. -/
theorem State.precedes_transition (hfaultable : (s.bay b).state.faultable = true ∨ (s.bay b).state = .detected)
    (hstanding : s.standing b before) (hcheck : (s.bay b).state = .checking → (s.bay b).tele.check ≠ .failed) :
    s.Precedes (s.replyTransition b before) b := by
  have hclosed := sameStock_opClosed s
  by_cases hdetected : (s.bay b).state = .detected
  · rw [State.replyTransition_detected hdetected, State.replyDetected_confirmed hstanding.1 (hstanding.confirmed hdetected)]
    have hparked := (State.bay_enterParked (s := s) (b := b) (by simp [hdetected])).1
    exact State.precedes_moved (State.entering_enterParked hdetected) (s.codeCauses_enterParked b) (by simp [hparked])
      (by simp [hdetected]) (by simp [hdetected]) (by simp [hdetected, BayState.engaged, BayState.exporting])
  have hfaultable := hfaultable.resolve_right hdetected
  have hbus := hstanding.sameBus hdetected
  have hempty : (s.bay b).state ≠ .empty := by
    intro he
    rw [he] at hfaultable
    cases hfaultable
  rw [State.replyTransition_plugged hempty hdetected (BayState.faultable_ne hfaultable).2,
    State.replyPlugged_same hbus.1 hbus.2]
  by_cases hbinding : (s.bay b).state = .binding
  · rw [State.replySameBus_binding hbinding]
    split
    · have hbay : (s.completeBind b).bay b = _ := State.bay_completeBind (by simp [hbinding])
      refine State.precedes_moved (State.entering_completeBind hbinding) (State.codeCauses_of_sameStock ?_) (by simp [hbay])
        (by simp [hbinding]) (by simp [hbinding]) fun _ => by rw [hbay]; rfl
      exact hclosed.setBayState (by decide) (fun _ => by simp [hbinding, BayState.engaged])
        (hclosed.modBay b (fun _ => rfl) s.sameStock_refl)
    · exact State.precedes_refl hfaultable (by simp [hbinding])
  by_cases hchecking : (s.bay b).state = .checking
  · by_cases hpassed : (s.bay b).tele.check = .passed
    · have hbay : (s.passCheck b).bay b = _ := State.bay_passCheck (by simp [hchecking])
      rw [State.replySameBus_passed hchecking hpassed]
      refine State.precedes_moved (State.entering_passCheck hchecking) (State.codeCauses_of_sameStock ?_) (by simp [hbay])
        (by simp [hchecking]) (by simp [hchecking]) fun _ => by rw [hbay]; rfl
      exact hclosed.setBayState (by decide) (fun _ => by simp [hchecking, BayState.engaged, BayState.exporting])
        (hclosed.modBay b (fun _ => rfl) s.sameStock_refl)
    · rw [State.replySameBus_unchecked hchecking hpassed (hcheck hchecking)]
      exact State.precedes_refl hfaultable (by simp [hchecking])
  by_cases hreleasing : (s.bay b).state = .releasing
  · rw [State.replySameBus_releasing hreleasing]
    split
    case isTrue hc => exact State.precedes_refl hfaultable fun _ => hc
    case isFalse hc => exact State.precedes_completeRelease hreleasing (by simpa using hc)
  · rw [State.replySameBus_idle (BayState.idle_of_faultable hfaultable hbinding hchecking hreleasing)]
    exact State.precedes_refl hfaultable fun hstate => (hreleasing hstate).elim

/-- The causes found after such a transition are those of the reply in the state before it. -/
theorem State.Precedes.causes (h : s.Precedes m b) : m.replyCauses b answered = s.replyCauses b answered := by
  by_cases hm : (m.bay b).state = .transfer
  · rw [h.transfer hm]
  · have hs : (s.bay b).state ≠ .transfer := by
      intro hstate
      rw [h.still hstate] at hm
      exact hm hstate
    rw [State.replyCauses_code hm, State.replyCauses_code hs, h.codes]

end
end Sys2Proof.Machine
end

section

/-!
SUPPORT. The causes of a valid reply in its own terms, and with them the checks and guards of a valid reply (O53).
-/

namespace Sys2Proof.Machine

section
variable {s t w : State} {x : Exchange} {bytes : List Byte} {b : BayNo} {before answered : Nat} {causes : List FaultKind}

/-! ### Causes outside FAULT and OUT_OF_SERVICE -/

/-- The release of a bay that a reply takes to FAULT, by the state it found (R29, R30, R117). -/
def State.releaseAtFault (s t : State) (b : BayNo) (closed : Bool) : Prop :=
  ((s.bay b).state = .binding ∨ (s.bay b).state.exporting = true →
    (t.bay b).releasePending = true ∧ (t.bay b).releaseTimer = some 10 ∧ b ∈ t.pollQueue)
  ∧ ((s.bay b).state = .releasing → (t.bay b).releasePending = (closed && (s.bay b).releasePending)
    ∧ (t.bay b).releaseTimer = if closed then (s.bay b).releaseTimer else none)

theorem State.taken_caused (hfaultable : (s.bay b).state.faultable = true ∨ (s.bay b).state = .detected)
    (hstanding : s.standing b before) (hcheck : (s.bay b).state = .checking → (s.bay b).tele.check ≠ .failed)
    (hcauses : s.replyCauses b answered ≠ []) :
    let t := s.taken b before answered (s.bay b).state
    s.faultByReply t b (s.replyCauses b answered) ∧ s.releaseAtFault t b (s.bay b).tele.contactorClosed := by
  have hprecedes := State.precedes_transition hfaultable hstanding hcheck
  have hleft : (s.bay b).state ≠ .fault ∧ (s.bay b).state ≠ .outOfService := by
    obtain hstate | hstate := hfaultable
    · exact BayState.faultable_ne hstate
    · simp [hstate]
  obtain ⟨first, others, hsome⟩ := List.exists_cons_of_ne_nil hcauses
  have hfound : (s.replyTransition b before).replyCauses b answered = first :: others := hprecedes.causes.trans hsome
  obtain ⟨hpending, htimer, hwaits⟩ := State.release_entering hprecedes.entering.faultable hfound hleft
  dsimp only
  rw [State.taken, hsome]
  refine ⟨State.faultByReply_entering hprecedes.entering hfound hleft, fun hengaged => ?_, fun hreleasing => ?_⟩
  · have hm := hprecedes.engaged (BayState.engaged_iff.mpr hengaged)
    exact ⟨by rw [hpending, hm]; rfl, by rw [htimer, if_pos hm], hwaits hm⟩
  · obtain ⟨hm, hp, ht⟩ := hprecedes.releasing hreleasing
    exact ⟨by rw [hpending, hm, hp]; rfl, by rw [htimer, hm, ht]; rfl⟩

theorem State.taken_failed (h : (s.bay b).state = .checking) (hstanding : s.standing b before)
    (hcheck : (s.bay b).tele.check = .failed) :
    let t := s.taken b before answered (s.bay b).state
    s.faultByReply t b (.isolation :: s.codeCauses b) ∧ s.releaseAtFault t b (s.bay b).tele.contactorClosed := by
  obtain ⟨hfault, hpending, htimer, hwaits⟩ := State.faultByReply_failed (answered := answered) h
  have hbus := hstanding.sameBus (by simp [h])
  dsimp only
  rw [h, State.taken_same (by simp [h]) hbus, State.replySameBus_failed h hcheck]
  refine ⟨hfault, fun _ => ⟨hpending, htimer, hwaits⟩, fun hreleasing => ?_⟩
  rw [h] at hreleasing
  cases hreleasing

/-! ### The part before the reply -/

theorem State.faultByReply.congr (h : w.faultByReply t b causes) (hframe : s.sameBut w [.bays, .lines, .exchange]) :
    s.faultByReply t b causes := by
  have hhistory : w.historyWith b causes = s.historyWith b causes :=
    State.historyWith_congr (by rw [hframe.faultAt (by decide)]) (hframe.policy (by decide)) (hframe.uptime (by decide)) _
  unfold State.faultByReply at h ⊢
  rwa [hhistory, hframe.policy (by decide), hframe.uptime (by decide), hframe.site (by decide), hframe.orderAt (by decide),
    hframe.changeSet (by decide), hframe.notices (by decide)] at h

theorem State.standing_heard (s : State) (x : Exchange) (bytes : List Byte) :
    (s.heard x bytes).standing x.bay (s.bay x.bay).tele.vehicle ↔ (byteAt bytes 1).getLsbD 7 = true
      ∧ if (s.bay x.bay).state = .detected then (s.bay x.bay).candidate = some (wordAt bytes 3).toNat
        else (wordAt bytes 3).toNat = (s.bay x.bay).link.getD (s.bay x.bay).tele.vehicle := by
  have hcandidate : ((s.heard x bytes).bay x.bay).candidate = (s.bay x.bay).candidate := by rw [State.bay_heard]
  rw [State.standing, State.tele_heard, State.link_heard, State.state_heard, hcandidate]
  rfl

/-- The code and the hot battery of a reply, in its own terms (R114). -/
theorem State.codeCauses_heard (s : State) (x : Exchange) (bytes : List Byte) :
    (s.heard x bytes).codeCauses x.bay = (if byteAt bytes 2 ≠ 0 then [.bayReported] else [])
      ++ (if s.siteValid = true ∧ s.site.tmax ≤ min 170 ((byteAt bytes 10).toNat - 80 : Int) then [.overTemp] else []) := by
  have hframe := s.heard_frame x bytes
  rw [State.codeCauses, State.tele_heard, hframe.siteValid (by decide), hframe.site (by decide)]
  congr 1
  exact if_congr (not_congr (faultCode_reported s x bytes)) rfl rfl

/-- A reply out of tolerance, in its own terms (R115). -/
theorem outOfTolerance_reported (s : State) (x : Exchange) (bytes : List Byte) :
    outOfTolerance x.setPoint (s.reportedTele x bytes).power = true
      ↔ max 20 (x.setPoint / 10) < (max (-1200) (min 1200 (wordAt bytes 5).toInt) - (x.setPoint : Int)).natAbs :=
  decide_eq_true_iff

theorem State.found_heard (s : State) (x : Exchange) (bytes : List Byte) :
    ((s.heard x bytes).trackingCheck x.bay x.setPoint).2 = true ↔ (s.bay x.bay).state = .transfer
      ∧ s.policy.detectTracking = true
      ∧ max 20 (x.setPoint / 10) < (max (-1200) (min 1200 (wordAt bytes 5).toInt) - (x.setPoint : Int)).natAbs
      ∧ 4 ≤ (s.faultSet x.bay).tracking := by
  have hframe := s.heard_frame x bytes
  rw [State.trackingCheck_found, State.state_heard, State.tele_heard, hframe.policy (by decide),
    hframe.faultAt (by decide), outOfTolerance_reported]

theorem State.releaseAtFault.of_heard {closed : Bool} (h : (s.heard x bytes).releaseAtFault t x.bay closed) :
    s.releaseAtFault t x.bay closed := by
  have hpending : ((s.heard x bytes).bay x.bay).releasePending = (s.bay x.bay).releasePending := by rw [State.bay_heard]
  have htimer : ((s.heard x bytes).bay x.bay).releaseTimer = (s.bay x.bay).releaseTimer := by rw [State.bay_heard]
  rwa [State.releaseAtFault, State.state_heard, hpending, htimer] at h

/-- What the causes of a reply leave of a bay outside FAULT and OUT_OF_SERVICE. -/
theorem State.replied_caused (hfaultable : (s.bay x.bay).state.faultable = true ∨ (s.bay x.bay).state = .detected)
    (hstanding : (s.heard x bytes).standing x.bay (s.bay x.bay).tele.vehicle)
    (hcheck : (s.bay x.bay).state = .checking → (byteAt bytes 1).toNat / 8 % 4 ≠ 3)
    (hcauses : (s.heard x bytes).replyCauses x.bay x.setPoint ≠ []) :
    s.faultByReply (s.replied x bytes) x.bay ((s.heard x bytes).replyCauses x.bay x.setPoint)
      ∧ s.releaseAtFault (s.replied x bytes) x.bay ((byteAt bytes 1).getLsbD 6) := by
  have hstate := s.state_heard x bytes
  have hunfailed : ((s.heard x bytes).bay x.bay).state = .checking →
      ((s.heard x bytes).bay x.bay).tele.check ≠ .failed := by
    rw [hstate, State.tele_heard, Ne, check_reported]
    exact hcheck
  obtain ⟨hfault, hrelease⟩ := State.taken_caused (by rwa [hstate]) hstanding hunfailed hcauses
  rw [hstate] at hfault hrelease
  rw [State.tele_heard] at hrelease
  exact ⟨hfault.congr (s.heard_frame x bytes), hrelease.of_heard⟩

theorem State.replied_failed (h : (s.bay x.bay).state = .checking)
    (hstanding : (s.heard x bytes).standing x.bay (s.bay x.bay).tele.vehicle)
    (hcheck : (byteAt bytes 1).toNat / 8 % 4 = 3) :
    s.faultByReply (s.replied x bytes) x.bay (.isolation :: (s.heard x bytes).codeCauses x.bay)
      ∧ s.releaseAtFault (s.replied x bytes) x.bay ((byteAt bytes 1).getLsbD 6) := by
  have hstate := s.state_heard x bytes
  obtain ⟨hfault, hrelease⟩ := State.taken_failed (answered := x.setPoint) (hstate.trans h) hstanding
    (by rw [State.tele_heard]; exact (check_reported s x bytes).mpr hcheck)
  rw [hstate] at hfault hrelease
  rw [State.tele_heard] at hrelease
  exact ⟨hfault.congr (s.heard_frame x bytes), hrelease.of_heard⟩

/-! ### No causes -/

/-- A reply without causes leaves a bay in PARKED, BOUND or COOLDOWN as it stands. -/
theorem State.taken_idle (h : (s.bay b).state = .parked ∨ (s.bay b).state = .bound ∨ (s.bay b).state = .cooldown)
    (hbus : s.sameBus b before) (hcauses : s.replyCauses b answered = []) :
    s.taken b before answered (s.bay b).state = s.tracked b answered := by
  have hidle : s.replySameBus b = s := State.replySameBus_idle (by tauto)
  have hdetecting : (s.bay b).state.detecting = true := by
    obtain h | h | h := h <;> rw [h] <;> rfl
  have hne : (s.bay b).state ≠ .transfer ∧ (s.bay b).state ≠ .fault := by
    obtain h | h | h := h <;> simp [h]
  rw [State.taken_same (by obtain h | h | h := h <;> simp [h]) hbus, hidle,
    State.afterReply_quiet hdetecting hne.1 (fun hfault => (hne.2 hfault).elim) hcauses]
  exact State.handIfChanged_kept (handsNotice_self _)

theorem State.replied_idle (h : (s.bay x.bay).state = .parked ∨ (s.bay x.bay).state = .bound
      ∨ (s.bay x.bay).state = .cooldown) (hbus : (s.heard x bytes).sameBus x.bay (s.bay x.bay).tele.vehicle)
    (hcauses : (s.heard x bytes).replyCauses x.bay x.setPoint = []) :
    s.replied x bytes = (s.heard x bytes).tracked x.bay x.setPoint := by
  have hstate := s.state_heard x bytes
  rw [State.replied, ← hstate]
  exact State.taken_idle (by rwa [hstate]) hbus hcauses

theorem State.replied_transfer (h : (s.bay x.bay).state = .transfer)
    (hbus : (s.heard x bytes).sameBus x.bay (s.bay x.bay).tele.vehicle)
    (hcauses : (s.heard x bytes).replyCauses x.bay x.setPoint = []) :
    s.replied x bytes = ((s.heard x bytes).tracked x.bay x.setPoint).reserveGuard x.bay := by
  rw [State.replied, h]
  exact State.taken_transfer ((s.state_heard x bytes).trans h) hbus hcauses

/-! ### The reserve guard after a reply -/

/-- What the reserve guard reads stands as it was, beside the telemetry. -/
theorem State.guard_frame (s : State) (x : Exchange) (bytes : List Byte) :
    s.sameBut ((s.heard x bytes).tracked x.bay x.setPoint) [.bays, .lines, .exchange, .faults] :=
  ((s.heard_frame x bytes).mono (by decide)).then (State.tracked_frame _ _ _) (by decide)

theorem State.linkedVehicle?_guard (s : State) (x : Exchange) (bytes : List Byte) :
    ((s.heard x bytes).tracked x.bay x.setPoint).linkedVehicle? x.bay = s.linkedVehicle? x.bay :=
  s.linkedVehicle?_heard x bytes

/-- An order that is not asked for, or that is not short, stays as it is (R106). -/
theorem State.guard_kept (h : (s.bay x.bay).state = .transfer)
    (hbus : (s.heard x bytes).sameBus x.bay (s.bay x.bay).tele.vehicle)
    (hcauses : (s.heard x bytes).replyCauses x.bay x.setPoint = [])
    (hkept : ((s.heard x bytes).tracked x.bay x.setPoint).reserveGuard x.bay = (s.heard x bytes).tracked x.bay x.setPoint) :
    (s.replied x bytes).order x.bay = s.order x.bay ∧ (s.replied x bytes).fleet = s.fleet := by
  have hframe := s.guard_frame x bytes
  rw [State.replied_transfer h hbus hcauses, hkept]
  exact ⟨hframe.orderAt (by decide) _, hframe.fleet (by decide)⟩

theorem State.guard_short_iff {o : Order} {v : Vehicle} {q : Request} {remaining : Nat}
    (hv : s.linkedVehicle? x.bay = some v) (hq : s.request? o.request = some q) :
    ((s.heard x bytes).tracked x.bay x.setPoint).reserveShort x.bay o v remaining = true ↔
      min (tripleAt bytes 7).toNat v.capacity < reserveNeed v s.site.eta s.clock remaining + o.level
        + (s.profileAt q.profile).declineEnergy o.level := by
  have hframe := s.guard_frame x bytes
  have henergy : (((s.heard x bytes).tracked x.bay x.setPoint).bay x.bay).tele.energy
      = min (tripleAt bytes 7).toNat v.capacity := by
    rw [State.bay_tracked, State.tele_heard]
    exact (energy_reported s x bytes).2.2 v hv
  have hprofile : ((s.heard x bytes).tracked x.bay x.setPoint).profileAt q.profile = s.profileAt q.profile := by
    rw [State.profileAt, State.profileAt, hframe.profiles (by decide)]
  rw [State.reserveShort_iff (q := q) (by rw [hframe.request? (by decide), hq]), henergy, hprofile, hframe.site (by decide),
    hframe.clock (by decide)]

/-! ### FAULT and OUT_OF_SERVICE -/

/-- The release pending of a bay in FAULT after a reply, whether the bay leaves FAULT or not (R30). -/
theorem State.release_fault (h : (s.bay b).state = .fault) (hbus : s.sameBus b before) :
    let t := s.taken b before answered .fault
    (t.bay b).releasePending = (!s.ends b && (s.bay b).releasePending)
    ∧ (t.bay b).releaseTimer = (if s.ends b then none else (s.bay b).releaseTimer)
    ∧ (t.faultSet b).releaseTimedOut = (!s.ends b && (s.faultSet b).releaseTimedOut) := by
  have hbay := State.bay_rechecked (answered := answered) h
  have hset := State.faultSet_rechecked (answered := answered) h
  have hstate : ((s.rechecked b answered).bay b).state = .fault := by rw [hbay, h]
  dsimp only
  by_cases hstays : ((s.rechecked b answered).faultSet b).hold ≠ none ∨ ¬(s.rechecked b answered).exitTest b = true
  · rw [State.taken_fault_stays h hbus hstays, hbay, hset]
    exact ⟨rfl, rfl, rfl⟩
  · push Not at hstays
    rw [State.taken_fault_exits h hbus hstays.1 hstays.2, State.bay_hand, State.faultSet_hand,
      (State.exits_parked hstate).2.2.1, hset]
    obtain ⟨hpending, htimer⟩ := State.release_enterParked (s := (s.rechecked b answered).faultClosed b) (b := b)
      (by simp [State.faultClosed, hstate])
    rw [hpending, htimer, State.faultClosed, State.bay_setFaultSet, hbay]
    exact ⟨rfl, rfl, rfl⟩

theorem State.faultSet_replyOutOfService (s : State) (b : BayNo) : (s.replyOutOfService b).faultSet b =
    { s.faultSet b with releaseTimedOut := !s.ends b && (s.faultSet b).releaseTimedOut } := by
  rw [← State.faultSet_releaseChecked]
  by_cases h : s.clears b
  · rw [State.replyOutOfService_clears h, State.faultSet_clearLink]
  · rw [State.replyOutOfService_kept h]

theorem State.release_out (h : (s.bay b).state = .outOfService) :
    let t := s.taken b before answered .outOfService
    (t.bay b).releasePending = (!s.ends b && (s.bay b).releasePending)
    ∧ (t.bay b).releaseTimer = (if s.ends b then none else (s.bay b).releaseTimer)
    ∧ (t.faultSet b).releaseTimedOut = (!s.ends b && (s.faultSet b).releaseTimedOut) := by
  have hstate := (s.state_replyOutOfService b).trans h
  have hframe := State.taken_out (before := before) (answered := answered) h
  obtain ⟨hpending, htimer⟩ := s.release_replyOutOfService b
  obtain ⟨-, -, -, -, htimed⟩ := State.checkReply_recorded (answered := answered) hstate
  have ht : s.taken b before answered .outOfService = (s.replyOutOfService b).checkReply b answered := by
    rw [State.taken, State.replyTransition_out h, State.afterReply_out hstate]
  dsimp only
  rw [hframe.bayAt (by decide), hpending, htimer, State.bay_releaseChecked, ht, htimed, State.faultSet_replyOutOfService]
  exact ⟨rfl, rfl, rfl⟩

theorem State.ends_heard (s : State) (x : Exchange) (bytes : List Byte) :
    (s.heard x bytes).ends x.bay = ((s.bay x.bay).releasePending && !(byteAt bytes 1).getLsbD 6) := by
  have hpending : ((s.heard x bytes).bay x.bay).releasePending = (s.bay x.bay).releasePending := by rw [State.bay_heard]
  rw [State.ends, State.tele_heard, hpending]
  rfl

/-- The release pending of a bay in FAULT or out of service after a valid reply (R30). -/
theorem State.release_replied (h : (s.bay x.bay).state = .fault
      ∧ (s.heard x bytes).sameBus x.bay (s.bay x.bay).tele.vehicle ∨ (s.bay x.bay).state = .outOfService) :
    let t := s.replied x bytes
    let ends := (s.bay x.bay).releasePending && !(byteAt bytes 1).getLsbD 6
    (t.bay x.bay).releasePending = (!ends && (s.bay x.bay).releasePending)
    ∧ (t.bay x.bay).releaseTimer = (if ends then none else (s.bay x.bay).releaseTimer)
    ∧ (t.faultSet x.bay).releaseTimedOut = (!ends && (s.faultSet x.bay).releaseTimedOut) := by
  have hstate := s.state_heard x bytes
  have hpending : ((s.heard x bytes).bay x.bay).releasePending = (s.bay x.bay).releasePending := by rw [State.bay_heard]
  have htimer : ((s.heard x bytes).bay x.bay).releaseTimer = (s.bay x.bay).releaseTimer := by rw [State.bay_heard]
  have hset := (s.heard_frame x bytes).faultAt (by decide) x.bay
  dsimp only
  rw [State.replied, ← State.ends_heard, ← hpending, ← htimer, ← hset]
  obtain ⟨hr, hbus⟩ | hr := h
  · rw [hr]
    exact State.release_fault (hstate.trans hr) hbus
  · rw [hr]
    exact State.release_out (hstate.trans hr)

/-- Whether a bay in FAULT leaves it at a reply: nothing fresh, no hold, and the exit test (R121, R122). -/
def State.leavesFault (s : State) (x : Exchange) (bytes : List Byte) : Prop :=
  ((s.faultSet x.bay).record.fresh ((s.heard x bytes).codeCauses x.bay) = [] ∧ (s.faultSet x.bay).hold = none)
  ∧ (s.siteValid = true → min 170 ((byteAt bytes 10).toNat - 80 : Int) < s.site.thz) ∧ byteAt bytes 2 = 0
  ∧ (byteAt bytes 1).getLsbD 6 = false

theorem FaultSet.hold_rechecked (f : FaultSet) (kinds : List FaultKind) (hold : Nat) :
    (f.rechecked kinds hold).hold = none ↔ f.record.fresh kinds = [] ∧ f.hold = none := by
  unfold FaultSet.rechecked
  dsimp only
  split
  case isTrue hnone => simp [hnone]
  case isFalse hfresh => simp [hfresh]

theorem State.leavesFault_iff (h : (s.bay x.bay).state = .fault) :
    (((s.heard x bytes).rechecked x.bay x.setPoint).faultSet x.bay).hold = none
      ∧ ((s.heard x bytes).rechecked x.bay x.setPoint).exitTest x.bay = true ↔ s.leavesFault x bytes := by
  have hw := (s.state_heard x bytes).trans h
  have hframe := s.heard_frame x bytes
  have hmiss : ((s.heard x bytes).line x.bay).miss = 0 := by rw [State.line_heard]
  rw [State.exitTest_rechecked hw hmiss, State.faultSet_rechecked hw, State.tele_heard, faultCode_reported,
    hframe.siteValid (by decide), hframe.site (by decide), hframe.faultAt (by decide)]
  exact and_congr (FaultSet.hold_rechecked _ _ _) Iff.rfl

/-- What a bay that stays in FAULT holds after a valid reply (R119, R121). -/
theorem State.replied_stays (h : (s.bay x.bay).state = .fault)
    (hbus : (s.heard x bytes).sameBus x.bay (s.bay x.bay).tele.vehicle) (hstays : ¬s.leavesFault x bytes) :
    let t := s.replied x bytes
    let fresh := (s.faultSet x.bay).record.fresh ((s.heard x bytes).codeCauses x.bay)
    (t.bay x.bay).state = .fault ∧ (t.bay x.bay).link = (s.bay x.bay).link
    ∧ (t.faultSet x.bay).record = (s.faultSet x.bay).record.withFresh fresh
    ∧ (t.faultSet x.bay).hold = (if fresh = [] then (s.faultSet x.bay).hold else some s.site.hold)
    ∧ (t.faultSet x.bay).history = (s.faultSet x.bay).history ∧ t.order x.bay = s.order x.bay
    ∧ t.notices = s.notices ∧ t.changeSet = s.changeSet
    ∧ t.fleet = { s.fleet with flags := if fresh = [] then s.fleet.flags else s.fleet.flags ||| 0x02#8 } := by
  have hw := (s.state_heard x bytes).trans h
  have hframe := s.heard_frame x bytes
  have ht : s.replied x bytes = (s.heard x bytes).rechecked x.bay x.setPoint := by
    rw [State.replied, h]
    refine State.taken_fault_stays hw hbus ?_
    rw [← State.leavesFault_iff h, not_and_or] at hstays
    exact hstays
  have hkept : s.sameBut ((s.heard x bytes).rechecked x.bay x.setPoint) [.bays, .lines, .exchange, .faults, .fleetFlags] :=
    ((hframe.mono (by decide)).then (State.releaseChecked_frame _ x.bay) (by decide)).then
      (State.rechecked_frame hw) (by decide)
  have hflags := State.flags_rechecked (answered := x.setPoint) hw
  rw [hframe.faultAt (by decide), hframe.fleet (by decide)] at hflags
  dsimp only
  rw [ht, State.bay_rechecked hw, State.faultSet_rechecked hw, hframe.faultAt (by decide), hframe.site (by decide)]
  refine ⟨hw, s.link_heard x bytes, rfl, rfl, rfl, hkept.orderAt (by decide) _, hkept.notices (by decide),
    hkept.changeSet (by decide), ?_⟩
  rw [hkept.fleet_flags (by decide), hflags]

/-- A bay that leaves FAULT at a valid reply (R122). -/
theorem State.replied_exits (h : (s.bay x.bay).state = .fault)
    (hbus : (s.heard x bytes).sameBus x.bay (s.bay x.bay).tele.vehicle) (hleaves : s.leavesFault x bytes) :
    let t := s.replied x bytes
    (t.bay x.bay).state = .parked ∧ t.notices = s.notices ++ [.change .bay]
    ∧ (t.faultSet x.bay).record = (s.faultSet x.bay).record.close s.uptime := by
  have hw := (s.state_heard x bytes).trans h
  have hframe := s.heard_frame x bytes
  have hbay := State.bay_rechecked (answered := x.setPoint) hw
  have hset := State.faultSet_rechecked (answered := x.setPoint) hw
  have hstate : (((s.heard x bytes).rechecked x.bay x.setPoint).bay x.bay).state = .fault := by rw [hbay, hw]
  have hkept : s.sameBut ((s.heard x bytes).rechecked x.bay x.setPoint) [.bays, .lines, .exchange, .faults, .fleetFlags] :=
    ((hframe.mono (by decide)).then (State.releaseChecked_frame _ x.bay) (by decide)).then
      (State.rechecked_frame hw) (by decide)
  obtain ⟨hhold, htest⟩ := (State.leavesFault_iff h).mpr hleaves
  have ht : s.replied x bytes = ((((s.heard x bytes).rechecked x.bay x.setPoint).faultClosed x.bay).enterParked x.bay).hand
      (.change .bay) := by
    rw [State.replied, h]
    exact State.taken_fault_exits hw hbus hhold htest
  obtain ⟨hparked, -, hclosed, -, -, hexits⟩ := State.exits_parked hstate
  obtain ⟨⟨hfresh, -⟩, -⟩ := hleaves
  dsimp only
  rw [ht, State.bay_hand, State.faultSet_hand, State.hand_notices, hclosed, hset, hexits.notices (by decide),
    hkept.notices (by decide), hkept.uptime (by decide), hframe.faultAt (by decide)]
  refine ⟨hparked, rfl, ?_⟩
  dsimp only [FaultSet.rechecked]
  rw [hfresh, FaultRecord.withFresh_nil]

theorem State.codeCauses_clearLink (s : State) (b : BayNo) : (s.clearLink b).codeCauses b = s.codeCauses b := by
  rw [State.codeCauses, State.codeCauses, (s.bay_clearLink_kept b).2.2.1, State.clearLink_site, State.clearLink_siteValid]

/-- Clearing a link raises no BAY_FAULT. -/
theorem State.bayFault_clearLink (s : State) (b : BayNo) :
    (s.clearLink b).fleet.flags.getLsbD 1 = s.fleet.flags.getLsbD 1 := by
  cases hn : (s.bay b).link with
  | none => rw [State.clearLink_none hn]
  | some n =>
    rw [State.fleet_clearLink hn]
    simp [fleetBit]

/-- What the checks read of a bay out of service is not changed by its transition (R39). -/
theorem State.checked_replyOutOfService (s : State) (b : BayNo) :
    (s.replyOutOfService b).codeCauses b = s.codeCauses b
    ∧ (s.replyOutOfService b).fleet.flags.getLsbD 1 = s.fleet.flags.getLsbD 1 := by
  have hframe := s.releaseChecked_frame b
  by_cases h : s.clears b
  · rw [State.replyOutOfService_clears h, State.codeCauses_clearLink, State.codeCauses_releaseChecked,
      State.bayFault_clearLink, hframe.fleet (by decide)]
    exact ⟨rfl, rfl⟩
  · rw [State.replyOutOfService_kept h, State.codeCauses_releaseChecked, hframe.fleet (by decide)]
    exact ⟨rfl, rfl⟩

/-- What a bay out of service holds after a valid reply (R120). -/
theorem State.replied_recorded (h : (s.bay x.bay).state = .outOfService) :
    let t := s.replied x bytes
    let codes := (s.heard x bytes).codeCauses x.bay
    let fresh := (s.faultSet x.bay).record.fresh codes
    (t.bay x.bay).state = .outOfService
    ∧ (t.faultSet x.bay).hold = (s.faultSet x.bay).hold ∧ (t.faultSet x.bay).history = (s.faultSet x.bay).history
    ∧ t.notices = s.notices
    ∧ ((s.faultSet x.bay).record.status = .opened →
      (t.faultSet x.bay).record = (s.faultSet x.bay).record.withFresh fresh
      ∧ t.fleet.flags.getLsbD 1 = (s.fleet.flags.getLsbD 1 || decide (fresh ≠ [])))
    ∧ ((s.faultSet x.bay).record.status ≠ .opened → codes ≠ [] →
      (t.faultSet x.bay).record = ⟨.opened, codes.head?, codes.tail, s.uptime, 0⟩ ∧ t.fleet.flags.getLsbD 1 = true) := by
  have hw := (s.state_heard x bytes).trans h
  have hframe := s.heard_frame x bytes
  have hstate := ((s.heard x bytes).state_replyOutOfService x.bay).trans hw
  have hset := (s.heard x bytes).faultSet_replyOutOfService x.bay
  have hout := State.replied_out (bytes := bytes) h
  have hmoved := (s.heard x bytes).replyOutOfService_frame x.bay
  obtain ⟨hcodes, hflag⟩ := (s.heard x bytes).checked_replyOutOfService x.bay
  have ht : s.replied x bytes = ((s.heard x bytes).replyOutOfService x.bay).checkReply x.bay x.setPoint := by
    rw [State.replied, h, State.taken, State.replyTransition_out hw, State.afterReply_out hstate]
  obtain ⟨hopened, hclosed, hhold, hhistory, -⟩ := State.checkReply_recorded (answered := x.setPoint) hstate
  rw [← ht] at hopened hclosed hhold hhistory
  have hrecord : (((s.heard x bytes).replyOutOfService x.bay).faultSet x.bay).record = (s.faultSet x.bay).record := by
    rw [hset, hframe.faultAt (by decide)]
  have hflags : ((s.heard x bytes).replyOutOfService x.bay).fleet.flags.getLsbD 1 = s.fleet.flags.getLsbD 1 := by
    rw [hflag, hframe.fleet (by decide)]
  rw [hcodes, hrecord] at hopened hclosed
  dsimp only
  refine ⟨by rw [hout.bayAt (by decide), hstate], by rw [hhold, hset, hframe.faultAt (by decide)],
    by rw [hhistory, hset, hframe.faultAt (by decide)],
    by rw [hout.notices (by decide), hmoved.notices (by decide), hframe.notices (by decide)], fun hopen => ?_,
    fun hnot hsome => ?_⟩
  · obtain ⟨hwritten, hraised⟩ := hopened hopen
    rw [hwritten, hraised]
    refine ⟨rfl, ?_⟩
    split
    case isTrue hnone => rw [hflags]; simp [hnone]
    case isFalse hfresh => simp [hfresh]
  · obtain ⟨hwritten, hraised⟩ := hclosed hnot hsome
    rw [hwritten, hraised, hmoved.uptime (by decide), hframe.uptime (by decide)]
    exact ⟨rfl, by simp⟩

theorem State.found_of_none (h : s.replyCauses b answered = []) : (s.trackingCheck b answered).2 = false := by
  rw [State.replyCauses_eq, List.append_eq_nil_iff] at h
  by_contra hfound
  rw [if_pos (by simpa using hfound)] at h
  cases h.2

/-- What a reply without causes leaves of a bay in TRANSFER, beside its order (R115). -/
theorem State.replied_tracked (h : (s.bay x.bay).state = .transfer)
    (hbus : (s.heard x bytes).sameBus x.bay (s.bay x.bay).tele.vehicle)
    (hcauses : (s.heard x bytes).replyCauses x.bay x.setPoint = []) :
    let t := s.replied x bytes
    let outOf := max 20 (x.setPoint / 10)
      < (max (-1200) (min 1200 (wordAt bytes 5).toInt) - (x.setPoint : Int)).natAbs
    (t.bay x.bay).state = .transfer ∧ t.notices = s.notices
    ∧ (s.policy.detectTracking = true → outOf → (t.faultSet x.bay).tracking = (s.faultSet x.bay).tracking + 1)
    ∧ (s.policy.detectTracking = false ∨ ¬outOf → (t.faultSet x.bay).tracking = 0) := by
  have hw := (s.state_heard x bytes).trans h
  have hframe := s.heard_frame x bytes
  have hguard := s.guard_frame x bytes
  have hkept := ((s.heard x bytes).tracked x.bay x.setPoint).reserveGuard_frame x.bay
  obtain ⟨hcounts, hstarts⟩ := State.trackingCheck_counts hw (State.found_of_none hcauses)
  rw [hframe.policy (by decide), State.tele_heard, outOfTolerance_reported] at hcounts hstarts
  rw [hframe.faultAt (by decide)] at hcounts
  have hset : ((s.replied x bytes).faultSet x.bay).tracking = ((s.heard x bytes).trackingCheck x.bay x.setPoint).1 := by
    rw [State.replied_transfer h hbus hcauses, hkept.faultAt (by decide), State.tracked, State.faultSet_modFault]
  dsimp only
  rw [hset, State.replied_transfer h hbus hcauses, hkept.bayAt (by decide), State.bay_tracked, hkept.notices (by decide),
    hguard.notices (by decide)]
  exact ⟨hw, rfl, hcounts, hstarts⟩

theorem Order.declineFor_reserve (o : Order) (h : o.phase ≠ .decline) :
    o.declineFor .reserveGuard = { o with phase := .decline, endCause := some .reserveGuard } := by
  have hrelease : (o.releaseAtEnd || EndCause.reserveGuard == .departureGuard || EndCause.reserveGuard == .withdrawn)
      = o.releaseAtEnd := by
    cases o.releaseAtEnd <;> rfl
  simp [Order.declineFor, h, hrelease]

/-- The reserve guard of an order whose request is ACTIVE (R106). -/
theorem State.replied_guarded {o : Order} {v : Vehicle} {q : Request} {remaining : Nat} {eligible : List BayNo}
    (h : (s.bay x.bay).state = .transfer) (hbus : (s.heard x bytes).sameBus x.bay (s.bay x.bay).tele.vehicle)
    (hcauses : (s.heard x bytes).replyCauses x.bay x.setPoint = []) (ho : s.order x.bay = some o)
    (hv : s.linkedVehicle? x.bay = some v) (hq : s.request? o.request = some q) (hactive : q.state = .active remaining eligible) :
    let t := s.replied x bytes
    let short := min (tripleAt bytes 7).toNat v.capacity
      < reserveNeed v s.site.eta s.clock remaining + o.level + (s.profileAt q.profile).declineEnergy o.level
    (short → o.guarded → t.order x.bay = some { o with phase := .decline, endCause := some .reserveGuard }
      ∧ t.fleet.flags = s.fleet.flags ||| 0x08#8)
    ∧ (¬short ∨ ¬o.guarded → t.order x.bay = some o ∧ t.fleet = s.fleet) := by
  have hguard := s.guard_frame x bytes
  have hasked := State.guard_short_iff (x := x) (bytes := bytes) (remaining := remaining) hv hq
  have ho' : ((s.heard x bytes).tracked x.bay x.setPoint).order x.bay = some o := (hguard.orderAt (by decide) _).trans ho
  have hv' : ((s.heard x bytes).tracked x.bay x.setPoint).linkedVehicle? x.bay = some v :=
    (s.linkedVehicle?_guard x bytes).trans hv
  have hwindow : ((s.heard x bytes).tracked x.bay x.setPoint).remainingWindow? o.request = some remaining :=
    State.remainingWindow?_active ((hguard.request? (by decide) _).trans hq) hactive
  refine ⟨fun hshort hphase => ?_, fun hspared => ?_⟩
  · have hdecline : o.phase ≠ .decline := by
      obtain hp | hp | hp := hphase <;> simp [hp]
    have hw : (((s.heard x bytes).tracked x.bay x.setPoint).bay x.bay).state = .transfer := (s.state_heard x bytes).trans h
    rw [State.replied_transfer h hbus hcauses, State.reserveGuard_short hw ho' hv' hphase hwindow (hasked.mpr hshort),
      State.order_raiseFleet, State.order_setOrder, State.raiseFleet_fleet, State.setOrder_fleet,
      hguard.fleet (by decide)]
    exact ⟨by rw [o.declineFor_reserve hdecline], rfl⟩
  · rw [← ho]
    refine State.guard_kept h hbus hcauses (State.reserveGuard_kept fun o' v' w hslot hvehicle hphase hw => ?_)
    rw [ho'] at hslot
    rw [hv'] at hvehicle
    cases hslot
    cases hvehicle
    rw [hwindow] at hw
    cases hw
    obtain hlong | hidle := hspared
    · exact Bool.eq_false_iff.mpr (mt hasked.mp hlong)
    · exact (hidle hphase).elim

end
end Sys2Proof.Machine

namespace Sys2Proof.Proofs
open Sys2Proof.Machine

/-- Settles O53: the causes of the reply, in check order, against the state its transition left the bay in. -/
theorem validReplyChecksAndGuards : Obligations.ValidReplyChecksAndGuards := by
  unfold Obligations.ValidReplyChecksAndGuards
  intro bytes x s h b r temp power number closed hot outOf failed untracked reported causes f fresh standing hstands
  have hframe := s.heard_frame x bytes
  have hstate := s.state_heard x bytes
  have htele := s.tele_heard x bytes
  have hreported : reported = (s.heard x bytes).codeCauses b := (s.codeCauses_heard x bytes).symm
  have hfound : ((s.heard x bytes).trackingCheck b x.setPoint).2 = true ↔ untracked := s.found_heard x bytes
  have hcauses : causes = if failed then .isolation :: (s.heard x bytes).codeCauses b
      else (s.heard x bytes).replyCauses b x.setPoint := by
    have htracking : ¬(failed ∧ untracked) := by
      rintro ⟨⟨hchecking, -⟩, htransfer, -⟩
      rw [hchecking] at htransfer
      cases htransfer
    rw [State.replyCauses_eq, ← hreported, if_congr hfound rfl rfl]
    by_cases hfailed : failed
    · rw [if_pos hfailed, show causes = _ ++ _ ++ _ from rfl, if_pos hfailed, if_neg fun hu => htracking ⟨hfailed, hu⟩,
        List.append_nil]
      rfl
    · rw [if_neg hfailed, show causes = _ ++ _ ++ _ from rfl, if_neg hfailed]
      rfl
  have hstanding (hout : r.state ≠ .outOfService) : (s.heard x bytes).standing b r.tele.vehicle :=
    (s.standing_heard x bytes).mpr (hstands.resolve_right hout)
  have hbus (hout : r.state ≠ .outOfService) (hdetected : r.state ≠ .detected) :
      (s.heard x bytes).sameBus b r.tele.vehicle := (hstanding hout).sameBus (by rw [hstate]; exact hdetected)
  have hquiet (hnone : causes = []) : (s.heard x bytes).replyCauses b x.setPoint = [] := by
    rw [hcauses] at hnone
    split at hnone
    · cases hnone
    · exact hnone
  have hguard := s.guard_frame x bytes
  refine ⟨s.replied x bytes, exec_validReply h, ?_, ?_, ?_, ?_, ?_, ?_, ?_, ?_⟩
  · intro hsome hempty hfault hout
    have hfaultable := BayState.faultable_or_detected hempty hfault hout
    by_cases hfailed : failed
    · rw [hcauses, if_pos hfailed]
      exact State.replied_failed hfailed.1 (hstanding hout) hfailed.2
    · rw [hcauses, if_neg hfailed] at hsome ⊢
      exact State.replied_caused hfaultable (hstanding hout) (fun hc hcheck => hfailed ⟨hc, hcheck⟩) hsome
  · intro hnone hr
    have hne : r.state ≠ .outOfService ∧ r.state ≠ .detected := by
      obtain hr | hr | hr := hr <;> rw [hr] <;> decide
    rw [State.replied_idle hr (hbus hne.1 hne.2) (hquiet hnone)]
    exact ⟨hstate, hguard.orderAt (by decide) _, hguard.notices (by decide)⟩
  · intro hr hnone
    have hsame : (s.heard x bytes).sameBus b r.tele.vehicle := hbus (by rw [hr]; decide) (by rw [hr]; decide)
    obtain ⟨hstays, hnotices, hcounts, hstarts⟩ := State.replied_tracked hr hsame (hquiet hnone)
    refine ⟨hstays, hnotices, hcounts, hstarts, fun hv => ?_, fun o ho hidle => ?_,
      fun o v q remaining eligible ho hv hq hactive => ?_⟩
    · refine State.guard_kept hr hsame (hquiet hnone) (State.reserveGuard_kept fun o v w _ hvehicle _ _ => ?_)
      rw [State.linkedVehicle?_guard, hv] at hvehicle
      cases hvehicle
    · rw [← ho]
      refine State.guard_kept hr hsame (hquiet hnone) (State.reserveGuard_kept fun o' v w hslot _ hphase hw => ?_)
      rw [hguard.orderAt (by decide), ho] at hslot
      cases hslot
      obtain hwaits | hdeclines | hinactive := hidle
      · simp [Order.guarded, hwaits] at hphase
      · simp [Order.guarded, hdeclines] at hphase
      · rw [State.remainingWindow?_inactive (by rwa [hguard.request? (by decide)])] at hw
        cases hw
    · obtain ⟨hdeclines, hspared⟩ := State.replied_guarded hr hsame (hquiet hnone) ho hv hq hactive
      refine ⟨hdeclines, fun hkept => hspared (hkept.imp_right fun hphase => ?_)⟩
      obtain hp | hp := hphase <;> simp [Order.guarded, hp]
  · intro hr ends
    obtain ⟨hpending, htimer, htimed⟩ := State.release_replied (s := s) (x := x) (bytes := bytes)
      (hr.imp_left fun hr => ⟨hr, hbus (by rw [hr]; decide) (by rw [hr]; decide)⟩)
    have hends : ((s.bay x.bay).releasePending && !(byteAt bytes 1).getLsbD 6) = true ↔ ends := by
      simp [ends, r, b, closed]
    refine ⟨fun he => ?_, fun hne => ?_⟩
    · rw [hpending, htimer, htimed, hends.mpr he]
      exact ⟨rfl, rfl, rfl⟩
    · rw [hpending, htimer, htimed, Bool.eq_false_iff.mpr (mt hends.mp hne)]
      exact ⟨rfl, rfl, rfl⟩
  · intro hr hnone hstays
    have hsame : (s.heard x bytes).sameBus b r.tele.vehicle := hbus (by rw [hr]; decide) (by rw [hr]; decide)
    have hleaves : ¬s.leavesFault x bytes := by
      rintro ⟨⟨-, hfree⟩, hcool, -, hopen⟩
      obtain hheld | hclosed | ⟨hvalid, hwarm⟩ := hstays
      · exact hheld hfree
      · exact Bool.noConfusion (hopen.symm.trans hclosed)
      · exact absurd (hcool hvalid) (not_lt.mpr hwarm)
    obtain ⟨hfault, hlink, hrecord, hhold, hhistory, horder, hnotices, hmark, hfleet⟩ :=
      State.replied_stays hr hsame hleaves
    rw [← hreported, hnone] at hrecord hhold hfleet
    refine ⟨hfault, hlink, ?_, hhold, hhistory, horder, hnotices, hmark, hfleet⟩
    rw [hrecord, FaultRecord.fresh_nil, FaultRecord.withFresh_nil]
  · intro hr hhold hnone hopen hcool
    have hsame : (s.heard x bytes).sameBus b r.tele.vehicle := hbus (by rw [hr]; decide) (by rw [hr]; decide)
    have hcode : byteAt bytes 2 = 0 := by
      by_contra hcode
      rw [show reported = _ ++ _ from rfl, if_pos hcode] at hnone
      cases hnone
    have hfresh : f.record.fresh ((s.heard x bytes).codeCauses b) = [] := by
      rw [← hreported, hnone]
      rfl
    obtain ⟨hparked, hnotices, hrecord⟩ := State.replied_exits hr hsame ⟨⟨hfresh, hhold⟩, hcool, hcode, hopen⟩
    obtain ⟨hpending, -, -⟩ := State.release_replied (.inl ⟨hr, hsame⟩)
    refine ⟨hparked, ?_, hnotices, fun hopened => ?_⟩
    · rw [hpending]
      have hclosed : (byteAt bytes 1).getLsbD 6 = false := hopen
      rw [hclosed]
      cases (s.bay x.bay).releasePending <;> rfl
    · rw [hrecord]
      exact FaultRecord.close_open hopened _
  · intro hr hsome hstays
    have hsame : (s.heard x bytes).sameBus b r.tele.vehicle := hbus (by rw [hr]; decide) (by rw [hr]; decide)
    have hleaves : ¬s.leavesFault x bytes := by
      rintro ⟨⟨hnofresh, -⟩, hcool, hcode, -⟩
      obtain hfresh | hcoded | hwarm := hstays
      · exact hfresh (by rw [← hreported] at hnofresh; exact hnofresh)
      · exact hcoded hcode
      · have hhot : hot := by
          by_contra hcold
          rw [show reported = _ ++ _ from rfl, if_neg (not_not_intro hcode), if_neg hcold] at hsome
          exact hsome rfl
        exact absurd (hcool hhot.1) (not_lt.mpr (hwarm.trans hhot.2))
    obtain ⟨hfault, -, hrecord, hhold, hhistory, -, hnotices, hmark, hfleet⟩ := State.replied_stays hr hsame hleaves
    rw [← hreported] at hrecord hhold hfleet
    refine ⟨hfault, hrecord, hhold, hhistory, hnotices, hmark, ?_⟩
    rw [hfleet]
  · intro hr
    have hrecorded := State.replied_recorded (bytes := bytes) hr
    rw [← hreported] at hrecorded
    exact hrecorded

end Sys2Proof.Proofs
end
